-- ==== Sys2Proof/Word.lean ====
section
/-! DEFINITION. The word types of the WV80: bytes, 32-bit lane words, 64-bit scalar words, and the field types of
encoded register numbers (spec/00 R3, R4; spec/03 R84). -/

namespace Sys2Proof

/-- One byte of memory or of the scratchpad. -/
abbrev Byte := BitVec 8

/-- A vector register of one lane (01 R12). -/
abbrev Word32 := BitVec 32

/-- A scalar register, an address, a special register (01 R12). -/
abbrev Word64 := BitVec 64

/-- The 128 bits of a reservoir register (01 R14). -/
abbrev Word128 := BitVec 128

/-- A 7-bit vector register field (03 R84). -/
abbrev VReg := BitVec 7

/-- A 6-bit scalar register field (03 R84). -/
abbrev SReg := BitVec 6

end Sys2Proof
end

