-- ==== Sys2Proof/Config.lean ====
section
/-! DEFINITION. What an implementation fixes and the manual leaves open: figures of the full grade, and free values. A
free value is an opaque constant, applied to a counter of the state or to what it depends on; nothing about it can be
computed or proved. -/

namespace Sys2Proof.Config

/-- Cycles of latency that the manual does not fix, by draw (10 R269). Log entry 1. -/
opaque latency : Nat → Nat

/-- The port of a span routing mask that the hash of a line address chooses (13 R322). Log entry 2. -/
opaque spanHash : Nat → Nat

/-- The words of an SPDM reply the manual does not give: request code, argument, draw (13 R334). Log entry 7. -/
opaque spdmReply : Nat → Nat → Nat → List Nat

/-- Unit class and unit index of a reliability record of a type for which the manual names no unit (13 R328). Log entry 25. -/
opaque recordUnit : Nat → Nat × Nat

/-- Bytes that a row of so many elements counts for when its destination gives no bank format (06 R170, R173). Log entry 18. -/
opaque rowBytes : Nat → Nat

/-- What a byte of a slot of a context area holds once the device has written there: draw, and place among the bytes of the slot
(12 R309 gives the order of what a slot holds, not its bytes). Log entry 29. -/
opaque contextByte : Nat → Nat → Byte

/-- Enabled cores of the full grade (00 R1). -/
def fullCores : Nat := 192

/-- Slots of a device queue (04 R127 does not give a number). Log entry 9. -/
def deviceQueueSlots : Nat := 256

/-- Allotment deadlock wait (09 R232). -/
def deadlockWait : Nat := 4096

/-- Starvation bound (09 R232). -/
def starveBound : Nat := 256

/-- Spin threshold (09 R232). -/
def spinThreshold : Nat := 8

/-- Spin demotion limit (09 R232). -/
def spinDemotion : Nat := 1024

/-- Pre-emption drain limit (09 R232). -/
def drainLimit : Nat := 2 ^ 20

/-- Scalar copy cycles (09 R232). -/
def scalarCopy : Nat := 8

/-- Cycles of a debugger Step without a commit (14 R336). -/
def stepLimit : Nat := 2 ^ 16

/-- Copies, gathers and PUTSIGs in flight on a core (06 R171). -/
def frontEnd : Nat := 512

/-- Entries of the range scoreboard (10 R257). -/
def boardEntries : Nat := 512

end Sys2Proof.Config
end

