-- ==== Sys2Proof/Machine/Sparse.lean ====
section
/-! DEFINITION. Sparse maps held as lists in one canonical form: keys strictly rising and no entry equal to the
default 0. Memory, scratchpads, register files and accumulator memory are such maps, so equal contents are equal data. -/

namespace Sys2Proof.Machine

/-- A map from natural-number keys to words of `w` bits; a key that is not listed reads as 0. -/
abbrev SMap (w : Nat) := List (Nat × BitVec w)

namespace SMap

/-- The word at a key. -/
def get {w : Nat} : SMap w → Nat → BitVec w
  | [], _ => 0
  | (k, v) :: m, a => if a = k then v else get m a

/-- Keeps the entries whose key satisfies `f`. -/
def keep {w : Nat} (m : SMap w) (f : Nat → Bool) : SMap w := m.filter fun p => f p.1

/-- Puts a word in front of a list, or, when it is the default, leaves its key unlisted. -/
def cons {w : Nat} (a : Nat) (x : BitVec w) (m : SMap w) : SMap w :=
  if x = 0 then m.keep (· != a) else (a, x) :: m

/-- Writes one key and keeps the canonical form. -/
def set {w : Nat} : SMap w → Nat → BitVec w → SMap w
  | [], a, x => cons a x []
  | (k, v) :: m, a, x =>
    if a = k then cons a x m
    else if a < k then cons a x ((k, v) :: m)
    else (k, v) :: set m a x

/-- Every key of the list lies above `b`, the keys rise strictly, and no entry is the default. -/
def wfFrom {w : Nat} : Nat → SMap w → Bool
  | _, [] => true
  | b, (k, v) :: m => decide (b ≤ k) && (v != 0) && wfFrom (k + 1) m

/-- The canonical form. -/
def wf {w : Nat} (m : SMap w) : Bool := wfFrom 0 m

/-- Writes a list of words one after the other. -/
def setAll {w : Nat} (m : SMap w) (l : List (Nat × BitVec w)) : SMap w :=
  l.foldl (fun m p => m.set p.1 p.2) m

end SMap

/-- A finite table with rising keys: cores, waves, groups, launches, operations in flight. -/
abbrev AMap (α : Type) := List (Nat × α)

namespace AMap

/-- The entry at a key. -/
def get? {α : Type} : AMap α → Nat → Option α
  | [], _ => none
  | (k, v) :: m, a => if a = k then some v else get? m a

/-- Writes one key, in rising order. -/
def set {α : Type} : AMap α → Nat → α → AMap α
  | [], a, x => [(a, x)]
  | (k, v) :: m, a, x =>
    if a = k then (a, x) :: m
    else if a < k then (a, x) :: (k, v) :: m
    else (k, v) :: set m a x

/-- Removes one key. -/
def del {α : Type} (m : AMap α) (a : Nat) : AMap α := m.filter fun p => p.1 != a

/-- The entry at a key, or a default. -/
def getD {α : Type} (m : AMap α) (a : Nat) (d : α) : α := (m.get? a).getD d

/-- Changes the entry at a key, if there is one. -/
def upd {α : Type} (m : AMap α) (a : Nat) (f : α → α) : AMap α :=
  m.map fun p => if p.1 = a then (p.1, f p.2) else p

/-- The smallest key above every key of the table. -/
def fresh {α : Type} (m : AMap α) : Nat := m.foldl (fun n p => max n (p.1 + 1)) 0

end AMap

end Sys2Proof.Machine
end

