-- ==== Sys2Proof/Machine/Bits.lean ====
section
/-! DEFINITION. Bit fields, sign extension, lane masks and byte order (00 R3, R4; 01 R6, R7). -/

namespace Sys2Proof.Machine

/-- Bits hi down to lo of a word, as a number (00 R4). -/
def bits {w : Nat} (x : BitVec w) (hi lo : Nat) : Nat := x.toNat / 2 ^ lo % 2 ^ (hi + 1 - lo)

/-- One bit. -/
def bit {w : Nat} (x : BitVec w) (i : Nat) : Bool := x.toNat.testBit i

/-- A field of `n` bits read as a signed number. -/
def sextNat (n x : Nat) : Int := if x % 2 ^ n < 2 ^ (n - 1) then (x % 2 ^ n : Nat) else (x % 2 ^ n : Nat) - (2 ^ n : Nat)

/-- Replaces bits hi down to lo. -/
def putBits {w : Nat} (x : BitVec w) (hi lo v : Nat) : BitVec w :=
  BitVec.ofNat w (x.toNat - bits x hi lo * 2 ^ lo + v % 2 ^ (hi + 1 - lo) * 2 ^ lo)

/-- A Boolean as a bit. -/
def b2n (b : Bool) : Nat := if b then 1 else 0

/-- Numbers below `n` that satisfy `f`, rising. -/
def below (n : Nat) (f : Nat → Bool) : List Nat := (List.range n).filter f

/-- The quads of a quad mask, rising (01 R45). -/
def quadsOf (q : BitVec 16) : List Nat := below 16 fun i => bit q i

/-- Lanes of a quad mask, rising (01 R45). -/
def lanesOf (q : BitVec 16) : List Nat := below 64 fun l => bit q (l / 4)

/-- Lane mask of a quad mask (01 R16). -/
def laneMask (q : BitVec 16) : Word64 :=
  BitVec.ofNat 64 ((quadsOf q).foldl (fun n i => n + 15 * 2 ^ (4 * i)) 0)

/-- The mask with the listed bits. -/
def maskOf (w : Nat) (l : List Nat) : BitVec w := l.foldl (fun m i => m ||| BitVec.ofNat w (2 ^ i)) 0

/-- Quads with at least one lane of a lane mask. -/
def quadsWith (m : Word64) : BitVec 16 := maskOf 16 (below 16 fun i => bits m (4 * i + 3) (4 * i) != 0)

/-- The lowest set bit of a quad mask, 16 if none. -/
def lowQuad (q : BitVec 16) : Nat := ((quadsOf q).head?).getD 16

/-- Number of one bits. -/
def popcount {w : Nat} (x : BitVec w) : Nat := (below w fun i => bit x i).length

/-- Leading zeros; `w` when the word is 0. -/
def clz {w : Nat} (x : BitVec w) : Nat := if x.toNat = 0 then w else w - 1 - x.toNat.log2

/-- Trailing zeros; `w` when the word is 0. -/
def ctz {w : Nat} (x : BitVec w) : Nat := ((below w fun i => bit x i).head?).getD w

/-- The word with bit i moved to bit w − 1 − i. -/
def brev {w : Nat} (x : BitVec w) : BitVec w := maskOf w ((below w fun i => bit x i).map fun i => w - 1 - i)

/-- A little-endian value of bytes (00 R3). -/
def leNat : List Byte → Nat
  | [] => 0
  | b :: l => b.toNat + 256 * leNat l

/-- The n little-endian bytes of a value (00 R3). -/
def leBytes : Nat → Nat → List Byte
  | 0, _ => []
  | n + 1, x => BitVec.ofNat 8 x :: leBytes n (x / 256)

/-- Rounds a quotient up. -/
def ceilDiv (a b : Nat) : Nat := (a + b - 1) / b

/-- Rounds up to a multiple. -/
def roundUp (a b : Nat) : Nat := ceilDiv a b * b

end Sys2Proof.Machine
end

