-- ==== Sys2Proof/Syntax.lean ====
section
/-! DEFINITION. The instruction type of the model: one constructor for each row of spec/opcode_table.json. An encoded
instruction carries its fields as encoded, in the table's order from the most significant one down (03 R86, R87). A step
without an encoding (95_what_each_step_holds) acts on what State.arg names: its operands, in the order the comment gives. -/

namespace Sys2Proof

/-- Every operation and every step of the opcode table. -/
inductive Instr where
  /-- VMOV_16 (R86): 16-bit VMOV copies vs to vd. -/
  | vmov16 (fs : BitVec 5) (fd : BitVec 6)
  /-- VADD_16 (R86): 16-bit integer VADD with vd = va. -/
  | vadd16 (fs : BitVec 5) (fd : BitVec 6)
  /-- VSUB_16 (R86): 16-bit integer VSUB. -/
  | vsub16 (fs : BitVec 5) (fd : BitVec 6)
  /-- VMULLO_16 (R86): 16-bit VMULLO. -/
  | vmullo16 (fs : BitVec 5) (fd : BitVec 6)
  /-- VAND_16 (R86): 16-bit VAND. -/
  | vand16 (fs : BitVec 5) (fd : BitVec 6)
  /-- VOR_16 (R86): 16-bit VOR. -/
  | vor16 (fs : BitVec 5) (fd : BitVec 6)
  /-- VXOR_16 (R86): 16-bit VXOR. -/
  | vxor16 (fs : BitVec 5) (fd : BitVec 6)
  /-- VSHL_16 (R86): 16-bit VSHL. -/
  | vshl16 (fs : BitVec 5) (fd : BitVec 6)
  /-- VSHRL_16 (R86): 16-bit VSHRL. -/
  | vshrl16 (fs : BitVec 5) (fd : BitVec 6)
  /-- VSHRA_16 (R86): 16-bit VSHRA. -/
  | vshra16 (fs : BitVec 5) (fd : BitVec 6)
  /-- VADD_F32_16 (R86): 16-bit VADD.F32 under dynamic rounding. -/
  | vaddF3216 (fs : BitVec 5) (fd : BitVec 6)
  /-- VSUB_F32_16 (R86): 16-bit VSUB.F32. -/
  | vsubF3216 (fs : BitVec 5) (fd : BitVec 6)
  /-- VMUL_F32_16 (R86): 16-bit VMUL.F32. -/
  | vmulF3216 (fs : BitVec 5) (fd : BitVec 6)
  /-- VMAX_F32_16 (R86): 16-bit VMAX.F32. -/
  | vmaxF3216 (fs : BitVec 5) (fd : BitVec 6)
  /-- VMIN_F32_16 (R86): 16-bit VMIN.F32. -/
  | vminF3216 (fs : BitVec 5) (fd : BitVec 6)
  /-- VMAX_16 (R86): 16-bit signed integer VMAX. -/
  | vmax16 (fs : BitVec 5) (fd : BitVec 6)
  /-- VADD_F32 (R133): FP32 addition rounded once. -/
  | vaddF32 (fr : BitVec 3) (fb : BitVec 7) (fa : BitVec 7) (fd : BitVec 7) (ft : BitVec 1)
  /-- VSUB_F32 (R133): FP32 subtraction. -/
  | vsubF32 (fr : BitVec 3) (fb : BitVec 7) (fa : BitVec 7) (fd : BitVec 7) (ft : BitVec 1)
  /-- VMUL_F32 (R133): FP32 multiplication. -/
  | vmulF32 (fr : BitVec 3) (fb : BitVec 7) (fa : BitVec 7) (fd : BitVec 7) (ft : BitVec 1)
  /-- VFMA_F32 (R133): FP32 fused multiply-add rounded once. -/
  | vfmaF32 (fr : BitVec 3) (fb : BitVec 7) (fa : BitVec 7) (fd : BitVec 7) (ft : BitVec 1)
  /-- VADD_F16X2 (R133): Packed F16 addition. -/
  | vaddF16x2 (fr : BitVec 3) (fb : BitVec 7) (fa : BitVec 7) (fd : BitVec 7) (ft : BitVec 1)
  /-- VSUB_F16X2 (R133): Packed F16 subtraction. -/
  | vsubF16x2 (fr : BitVec 3) (fb : BitVec 7) (fa : BitVec 7) (fd : BitVec 7) (ft : BitVec 1)
  /-- VMUL_F16X2 (R133): Packed F16 multiplication. -/
  | vmulF16x2 (fr : BitVec 3) (fb : BitVec 7) (fa : BitVec 7) (fd : BitVec 7) (ft : BitVec 1)
  /-- VFMA_F16X2 (R133): Packed F16 fused multiply-add. -/
  | vfmaF16x2 (fr : BitVec 3) (fb : BitVec 7) (fa : BitVec 7) (fd : BitVec 7) (ft : BitVec 1)
  /-- VADD_BF16X2 (R133): Packed BF16 addition. -/
  | vaddBf16x2 (fr : BitVec 3) (fb : BitVec 7) (fa : BitVec 7) (fd : BitVec 7) (ft : BitVec 1)
  /-- VSUB_BF16X2 (R133): Packed BF16 subtraction. -/
  | vsubBf16x2 (fr : BitVec 3) (fb : BitVec 7) (fa : BitVec 7) (fd : BitVec 7) (ft : BitVec 1)
  /-- VMUL_BF16X2 (R133): Packed BF16 multiplication. -/
  | vmulBf16x2 (fr : BitVec 3) (fb : BitVec 7) (fa : BitVec 7) (fd : BitVec 7) (ft : BitVec 1)
  /-- VFMA_BF16X2 (R133): Packed BF16 fused multiply-add. -/
  | vfmaBf16x2 (fr : BitVec 3) (fb : BitVec 7) (fa : BitVec 7) (fd : BitVec 7) (ft : BitVec 1)
  /-- VADD_F64 (R133): F64 addition on register pairs. -/
  | vaddF64 (fr : BitVec 3) (fb : BitVec 7) (fa : BitVec 7) (fd : BitVec 7) (ft : BitVec 1)
  /-- VSUB_F64 (R133): F64 subtraction. -/
  | vsubF64 (fr : BitVec 3) (fb : BitVec 7) (fa : BitVec 7) (fd : BitVec 7) (ft : BitVec 1)
  /-- VMUL_F64 (R133): F64 multiplication. -/
  | vmulF64 (fr : BitVec 3) (fb : BitVec 7) (fa : BitVec 7) (fd : BitVec 7) (ft : BitVec 1)
  /-- VFMA_F64 (R133): F64 fused multiply-add. -/
  | vfmaF64 (fr : BitVec 3) (fb : BitVec 7) (fa : BitVec 7) (fd : BitVec 7) (ft : BitVec 1)
  /-- VADD (R134): 32-bit integer addition modulo 2^32. -/
  | vadd (fb : BitVec 7) (fa : BitVec 7) (fd : BitVec 7) (ft : BitVec 1)
  /-- VSUB (R134): 32-bit integer subtraction. -/
  | vsub (fb : BitVec 7) (fa : BitVec 7) (fd : BitVec 7) (ft : BitVec 1)
  /-- VMULLO (R134): Low 32 bits of the product. -/
  | vmullo (fb : BitVec 7) (fa : BitVec 7) (fd : BitVec 7) (ft : BitVec 1)
  /-- VMULHI (R134): High 32 bits of the signed product. -/
  | vmulhi (fb : BitVec 7) (fa : BitVec 7) (fd : BitVec 7) (ft : BitVec 1)
  /-- VMULHU (R134): High 32 bits of the unsigned product. -/
  | vmulhu (fb : BitVec 7) (fa : BitVec 7) (fd : BitVec 7) (ft : BitVec 1)
  /-- VMAD (R134): Low 32 bits of a x b + vd. -/
  | vmad (fb : BitVec 7) (fa : BitVec 7) (fd : BitVec 7) (ft : BitVec 1)
  /-- VADDSAT (R134): Signed saturating addition. -/
  | vaddsat (fb : BitVec 7) (fa : BitVec 7) (fd : BitVec 7) (ft : BitVec 1)
  /-- VSUBSAT (R134): Signed saturating subtraction. -/
  | vsubsat (fb : BitVec 7) (fa : BitVec 7) (fd : BitVec 7) (ft : BitVec 1)
  /-- VMIN (R134): Signed minimum. -/
  | vmin (fb : BitVec 7) (fa : BitVec 7) (fd : BitVec 7) (ft : BitVec 1)
  /-- VMAX (R134): Signed maximum. -/
  | vmax (fb : BitVec 7) (fa : BitVec 7) (fd : BitVec 7) (ft : BitVec 1)
  /-- VMINU (R134): Unsigned minimum. -/
  | vminu (fb : BitVec 7) (fa : BitVec 7) (fd : BitVec 7) (ft : BitVec 1)
  /-- VMAXU (R134): Unsigned maximum. -/
  | vmaxu (fb : BitVec 7) (fa : BitVec 7) (fd : BitVec 7) (ft : BitVec 1)
  /-- VAND (R134): Bitwise AND. -/
  | vand (fb : BitVec 7) (fa : BitVec 7) (fd : BitVec 7) (ft : BitVec 1)
  /-- VOR (R134): Bitwise OR. -/
  | vor (fb : BitVec 7) (fa : BitVec 7) (fd : BitVec 7) (ft : BitVec 1)
  /-- VXOR (R134): Bitwise XOR. -/
  | vxor (fb : BitVec 7) (fa : BitVec 7) (fd : BitVec 7) (ft : BitVec 1)
  /-- VANDN (R134): a AND NOT b. -/
  | vandn (fb : BitVec 7) (fa : BitVec 7) (fd : BitVec 7) (ft : BitVec 1)
  /-- VSHL (R134): Shift left by b[4:0]. -/
  | vshl (fb : BitVec 7) (fa : BitVec 7) (fd : BitVec 7) (ft : BitVec 1)
  /-- VSHRL (R134): Logical shift right. -/
  | vshrl (fb : BitVec 7) (fa : BitVec 7) (fd : BitVec 7) (ft : BitVec 1)
  /-- VSHRA (R134): Arithmetic shift right. -/
  | vshra (fb : BitVec 7) (fa : BitVec 7) (fd : BitVec 7) (ft : BitVec 1)
  /-- VROTL (R134): Rotate left. -/
  | vrotl (fb : BitVec 7) (fa : BitVec 7) (fd : BitVec 7) (ft : BitVec 1)
  /-- VPOPC (R134): Population count. -/
  | vpopc (fa : BitVec 7) (fd : BitVec 7) (ft : BitVec 1)
  /-- VCLZ (R134): Count leading zeros. -/
  | vclz (fa : BitVec 7) (fd : BitVec 7) (ft : BitVec 1)
  /-- VBREV (R134): Bit reverse. -/
  | vbrev (fa : BitVec 7) (fd : BitVec 7) (ft : BitVec 1)
  /-- VABS (R134): Signed absolute value. -/
  | vabs (fa : BitVec 7) (fd : BitVec 7) (ft : BitVec 1)
  /-- VADDI (R135): Add sign-extended imm7. -/
  | vaddi (fi : BitVec 7) (fa : BitVec 7) (fd : BitVec 7) (ft : BitVec 1)
  /-- VSHLI (R135): Shift left by immediate. -/
  | vshli (fi : BitVec 5) (fa : BitVec 7) (fd : BitVec 7) (ft : BitVec 1)
  /-- VSHRLI (R135): Logical shift right by immediate. -/
  | vshrli (fi : BitVec 5) (fa : BitVec 7) (fd : BitVec 7) (ft : BitVec 1)
  /-- VSHRAI (R135): Arithmetic shift right by immediate. -/
  | vshrai (fi : BitVec 5) (fa : BitVec 7) (fd : BitVec 7) (ft : BitVec 1)
  /-- VANDI (R135): AND with sign-extended imm7. -/
  | vandi (fi : BitVec 7) (fa : BitVec 7) (fd : BitVec 7) (ft : BitVec 1)
  /-- VORI (R135): OR with sign-extended imm7. -/
  | vori (fi : BitVec 7) (fa : BitVec 7) (fd : BitVec 7) (ft : BitVec 1)
  /-- VXORI (R135): XOR with sign-extended imm7. -/
  | vxori (fi : BitVec 7) (fa : BitVec 7) (fd : BitVec 7) (ft : BitVec 1)
  /-- VMULI (R135): Multiply by sign-extended imm7. -/
  | vmuli (fi : BitVec 7) (fa : BitVec 7) (fd : BitVec 7) (ft : BitVec 1)
  /-- VMOVI (R136): Move sign-extended imm17 into every active lane. -/
  | vmovi (fi : BitVec 17) (fd : BitVec 7) (ft : BitVec 1)
  /-- VMOVS (R137): Move s[sa][31:0] into each active lane. -/
  | vmovs (fa : BitVec 6) (fd : BitVec 7) (ft : BitVec 1)
  /-- VMOVSH (R137): Move s[sa][63:32] into each active lane. -/
  | vmovsh (fa : BitVec 6) (fd : BitVec 7) (ft : BitVec 1)
  /-- VLANE (R137): Write each active lane's index. -/
  | vlane (fd : BitVec 7) (ft : BitVec 1)
  /-- VGETL (R137): Read lane s[sb][5:0] of va into scalar sd. -/
  | vgetl (fb : BitVec 6) (fa : BitVec 7) (fd : BitVec 6) (ft : BitVec 1)
  /-- VSETL (R137): Write s[sa][31:0] into one active lane of vd. -/
  | vsetl (fb : BitVec 6) (fa : BitVec 6) (fd : BitVec 7) (ft : BitVec 1)
  /-- VCMP (R138): Integer comparison selected by cc, writing a lane mask to sd. -/
  | vcmp (fc : BitVec 3) (fb : BitVec 7) (fa : BitVec 7) (fd : BitVec 6) (ft : BitVec 1)
  /-- VCMPF (R138): F32 comparison selected by cc, writing a lane mask to sd. -/
  | vcmpf (fc : BitVec 3) (fb : BitVec 7) (fa : BitVec 7) (fd : BitVec 6) (ft : BitVec 1)
  /-- VSEL (R139): Select va or vb per lane by mask register s56 + fn. -/
  | vsel (fm : BitVec 3) (fb : BitVec 7) (fa : BitVec 7) (fd : BitVec 7) (ft : BitVec 1)
  /-- VBFXU (R140): Extract an unsigned bit field per lane. -/
  | vbfxu (fw : BitVec 5) (fo : BitVec 5) (fa : BitVec 7) (fd : BitVec 7) (ft : BitVec 1)
  /-- VBFX (R140): Extract a signed bit field per lane. -/
  | vbfx (fw : BitVec 5) (fo : BitVec 5) (fa : BitVec 7) (fd : BitVec 7) (ft : BitVec 1)
  /-- VBFI (R140): Insert a bit field per lane. -/
  | vbfi (fw : BitVec 5) (fo : BitVec 5) (fa : BitVec 7) (fd : BitVec 7) (ft : BitVec 1)
  /-- VCVT (R141): Convert between type codes with rounding and optional saturation. -/
  | vcvt (fs : BitVec 1) (fy : BitVec 3) (fx : BitVec 3) (fr : BitVec 3) (fa : BitVec 7) (fd : BitVec 7) (ft : BitVec 1)
  /-- VPK_F16 (R142): Round two F32 values to F16 and pack them. -/
  | vpkF16 (fb : BitVec 7) (fa : BitVec 7) (fd : BitVec 7) (ft : BitVec 1)
  /-- VPK_BF16 (R142): Round two F32 values to BF16 and pack them. -/
  | vpkBf16 (fb : BitVec 7) (fa : BitVec 7) (fd : BitVec 7) (ft : BitVec 1)
  /-- VPKB (R142): Pack two low bytes into vd[15:0]. -/
  | vpkb (fb : BitVec 7) (fa : BitVec 7) (fd : BitVec 7) (ft : BitVec 1)
  /-- VPKBH (R142): Pack two low bytes into vd[31:16]. -/
  | vpkbh (fb : BitVec 7) (fa : BitVec 7) (fd : BitVec 7) (ft : BitVec 1)
  /-- VUPK_F16L (R142): Unpack the low F16 to F32. -/
  | vupkF16l (fa : BitVec 7) (fd : BitVec 7) (ft : BitVec 1)
  /-- VUPK_F16H (R142): Unpack the high F16 to F32. -/
  | vupkF16h (fa : BitVec 7) (fd : BitVec 7) (ft : BitVec 1)
  /-- VUPK_BF16L (R142): Unpack the low BF16 to F32. -/
  | vupkBf16l (fa : BitVec 7) (fd : BitVec 7) (ft : BitVec 1)
  /-- VUPK_BF16H (R142): Unpack the high BF16 to F32. -/
  | vupkBf16h (fa : BitVec 7) (fd : BitVec 7) (ft : BitVec 1)
  /-- VRCP (R143): Correctly rounded reciprocal. -/
  | vrcp (fa : BitVec 7) (fd : BitVec 7) (ft : BitVec 1)
  /-- VRSQ (R143): Correctly rounded reciprocal square root. -/
  | vrsq (fa : BitVec 7) (fd : BitVec 7) (ft : BitVec 1)
  /-- VSQRT (R143): Correctly rounded square root. -/
  | vsqrt (fa : BitVec 7) (fd : BitVec 7) (ft : BitVec 1)
  /-- VEXP2 (R143): Correctly rounded 2^x. -/
  | vexp2 (fa : BitVec 7) (fd : BitVec 7) (ft : BitVec 1)
  /-- VLOG2 (R143): Correctly rounded log2. -/
  | vlog2 (fa : BitVec 7) (fd : BitVec 7) (ft : BitVec 1)
  /-- VSIN (R143): Correctly rounded sin(2 pi x). -/
  | vsin (fa : BitVec 7) (fd : BitVec 7) (ft : BitVec 1)
  /-- VCOS (R143): Correctly rounded cos(2 pi x). -/
  | vcos (fa : BitVec 7) (fd : BitVec 7) (ft : BitVec 1)
  /-- VTANH (R143): Correctly rounded tanh. -/
  | vtanh (fa : BitVec 7) (fd : BitVec 7) (ft : BitVec 1)
  /-- VMIN_F32 (R144): F32 minimum ordering -0 below +0. -/
  | vminF32 (fb : BitVec 7) (fa : BitVec 7) (fd : BitVec 7) (ft : BitVec 1)
  /-- VMAX_F32 (R144): F32 maximum. -/
  | vmaxF32 (fb : BitVec 7) (fa : BitVec 7) (fd : BitVec 7) (ft : BitVec 1)
  /-- VMIN_F16X2 (R144): Packed F16 minimum. -/
  | vminF16x2 (fb : BitVec 7) (fa : BitVec 7) (fd : BitVec 7) (ft : BitVec 1)
  /-- VMAX_F16X2 (R144): Packed F16 maximum. -/
  | vmaxF16x2 (fb : BitVec 7) (fa : BitVec 7) (fd : BitVec 7) (ft : BitVec 1)
  /-- VMIN_BF16X2 (R144): Packed BF16 minimum. -/
  | vminBf16x2 (fb : BitVec 7) (fa : BitVec 7) (fd : BitVec 7) (ft : BitVec 1)
  /-- VMAX_BF16X2 (R144): Packed BF16 maximum. -/
  | vmaxBf16x2 (fb : BitVec 7) (fa : BitVec 7) (fd : BitVec 7) (ft : BitVec 1)
  /-- VCOPYSIGN_F32 (R144): Magnitude of a with the sign of b. -/
  | vcopysignF32 (fb : BitVec 7) (fa : BitVec 7) (fd : BitVec 7) (ft : BitVec 1)
  /-- VCLASS_F32 (R144): One-hot class code of an F32 value. -/
  | vclassF32 (fa : BitVec 7) (fd : BitVec 7) (ft : BitVec 1)
  /-- VSHUF (R146): Read lane v[vb][5:0] of va. -/
  | vshuf (fb : BitVec 7) (fa : BitVec 7) (fd : BitVec 7) (ft : BitVec 1)
  /-- VSWZ (R146): XOR or rotate swizzle across lanes. -/
  | vswz (fc : BitVec 7) (fa : BitVec 7) (fd : BitVec 7) (ft : BitVec 1)
  /-- VBCAST (R146): Broadcast lane k of va. -/
  | vbcast (fk : BitVec 6) (fa : BitVec 7) (fd : BitVec 7) (ft : BitVec 1)
  /-- VSCAN_I32 (R146): Inclusive integer prefix sum over active lanes. -/
  | vscanI32 (fa : BitVec 7) (fd : BitVec 7) (ft : BitVec 1)
  /-- VSCAN_F32 (R70): F32 inclusive prefix sum in the fixed tree order. -/
  | vscanF32 (fa : BitVec 7) (fd : BitVec 7) (ft : BitVec 1)
  /-- VCONFLICT (R147): Per lane leader, rank and total of equal keys. -/
  | vconflict (fa : BitVec 7) (fd : BitVec 7) (ft : BitVec 1)
  /-- VCOMBINE_F32 (R72): Sum each key's F32 values at its leader in ascending lane order. -/
  | vcombineF32 (fb : BitVec 7) (fa : BitVec 7) (fd : BitVec 7) (ft : BitVec 1)
  /-- VCOMBINE_I32 (R72): Sum each key's integer values at its leader. -/
  | vcombineI32 (fb : BitVec 7) (fa : BitVec 7) (fd : BitVec 7) (ft : BitVec 1)
  /-- VREDADD_I32 (R148): Integer sum over the launch width into sd. -/
  | vredaddI32 (fa : BitVec 7) (fd : BitVec 6) (ft : BitVec 1)
  /-- VREDADD_F32 (R69): F32 tree sum over the launch width. -/
  | vredaddF32 (fa : BitVec 7) (fd : BitVec 6) (ft : BitVec 1)
  /-- VREDMAX_F32 (R148): F32 tree maximum. -/
  | vredmaxF32 (fa : BitVec 7) (fd : BitVec 6) (ft : BitVec 1)
  /-- VREDMIN_F32 (R148): F32 tree minimum. -/
  | vredminF32 (fa : BitVec 7) (fd : BitVec 6) (ft : BitVec 1)
  /-- VREDMAX_I32 (R148): Signed integer maximum. -/
  | vredmaxI32 (fa : BitVec 7) (fd : BitVec 6) (ft : BitVec 1)
  /-- VREDMIN_I32 (R148): Signed integer minimum. -/
  | vredminI32 (fa : BitVec 7) (fd : BitVec 6) (ft : BitVec 1)
  /-- VREDAND (R148): AND reduction. -/
  | vredand (fa : BitVec 7) (fd : BitVec 6) (ft : BitVec 1)
  /-- VREDOR (R148): OR reduction. -/
  | vredor (fa : BitVec 7) (fd : BitVec 6) (ft : BitVec 1)
  /-- VISECT (R149): Lowest active lane whose vb equals this lane's va. -/
  | visect (fb : BitVec 7) (fa : BitVec 7) (fd : BitVec 7) (ft : BitVec 1)
  /-- SMXUPD (R150): Update an online softmax state pair with one weighted logit. -/
  | smxupd (fb : BitVec 7) (fa : BitVec 7) (fd : BitVec 7) (ft : BitVec 1)
  /-- SMXFIN (R151): Finish an online softmax value from a state pair. -/
  | smxfin (fb : BitVec 7) (fa : BitVec 7) (fd : BitVec 7) (ft : BitVec 1)
  /-- VRAND (R210): Counter-based 32-bit random draw from a counter and a scalar key. -/
  | vrand (fk : BitVec 6) (fa : BitVec 7) (fd : BitVec 7) (ft : BitVec 1)
  /-- VRANDU (R211): Counter-based uniform F32 draw in [0, 1). -/
  | vrandu (fk : BitVec 6) (fa : BitVec 7) (fd : BitVec 7) (ft : BitVec 1)
  /-- VDOT2_F16 (R152): Two-element F16 dot product accumulated into F32. -/
  | vdot2F16 (fb : BitVec 7) (fa : BitVec 7) (fd : BitVec 7) (ft : BitVec 1)
  /-- VDOT2_BF16 (R152): Two-element BF16 dot product. -/
  | vdot2Bf16 (fb : BitVec 7) (fa : BitVec 7) (fd : BitVec 7) (ft : BitVec 1)
  /-- VDOT4_I8 (R152): Four-element I8 dot product into I32. -/
  | vdot4I8 (fb : BitVec 7) (fa : BitVec 7) (fd : BitVec 7) (ft : BitVec 1)
  /-- VDOT4_UI8 (R152): Four-element UI8 dot product. -/
  | vdot4Ui8 (fb : BitVec 7) (fa : BitVec 7) (fd : BitVec 7) (ft : BitVec 1)
  /-- VDOT4_E4M3 (R152): Four-element E4M3 dot product. -/
  | vdot4E4m3 (fb : BitVec 7) (fa : BitVec 7) (fd : BitVec 7) (ft : BitVec 1)
  /-- VDOT4_E5M2 (R152): Four-element E5M2 dot product. -/
  | vdot4E5m2 (fb : BitVec 7) (fa : BitVec 7) (fd : BitVec 7) (ft : BitVec 1)
  /-- VDOT8_Q4X (R152): Eight-element Q4X dot product. -/
  | vdot8Q4x (fb : BitVec 7) (fa : BitVec 7) (fd : BitVec 7) (ft : BitVec 1)
  /-- VDOT8_I4 (R152): Eight-element I4 dot product. -/
  | vdot8I4 (fb : BitVec 7) (fa : BitVec 7) (fd : BitVec 7) (ft : BitVec 1)
  /-- RSVINIT (R214): Clear a reservoir register. -/
  | rsvinit (fq : BitVec 1) (ft : BitVec 1)
  /-- RSVUPD (R215): Offer one weighted candidate to a reservoir. -/
  | rsvupd (fb : BitVec 7) (fa : BitVec 7) (fq : BitVec 1) (ft : BitVec 1)
  /-- RSVMRG (R216): Merge another reservoir into q. -/
  | rsvmrg (fb : BitVec 7) (fa : BitVec 7) (fq : BitVec 1) (ft : BitVec 1)
  /-- RSVFIN (R217): Write the held payload and its unbiased contribution weight. -/
  | rsvfin (fq : BitVec 1) (fd : BitVec 7) (ft : BitVec 1)
  /-- RSVRD (R214): Copy a reservoir into four vector registers. -/
  | rsvrd (fq : BitVec 1) (fd : BitVec 7) (ft : BitVec 1)
  /-- RSVWR (R214): Copy four vector registers into a reservoir. -/
  | rsvwr (fa : BitVec 7) (fq : BitVec 1) (ft : BitVec 1)
  /-- RAYTRI (R220): Watertight ray-triangle test returning t, u and v. -/
  | raytri (fb : BitVec 7) (fa : BitVec 7) (fd : BitVec 7) (ft : BitVec 1)
  /-- RAYBOX (R222): Conservative ray-box slab test returning tnear and tfar. -/
  | raybox (fb : BitVec 7) (fa : BitVec 7) (fd : BitVec 7) (ft : BitVec 1)
  /-- MMA (R191): Matrix multiply-accumulate of A registers and a B record into an accumulator tile, entering the matrix queue. -/
  | mma (fz : BitVec 1) (ff : BitVec 1) (fc : BitVec 1) (fs : BitVec 1) (ft : BitVec 4) (fo : BitVec 3) (fa : BitVec 7) (fy : BitVec 3) (fp : BitVec 4)
  /-- OBRES (R196): Fill an operand-buffer record from a scratchpad descriptor. -/
  | obres (fs : BitVec 6) (fo : BitVec 3)
  /-- OBFREE (R197): Invalidate a record and discard its charts. -/
  | obfree (fo : BitVec 3)
  /-- ACCZERO (R198): Zero every element of a tile through the matrix queue. -/
  | acczero (ft : BitVec 4)
  /-- ACCRD (R200): Read accumulator elements into vector registers with scaling and conversion. -/
  | accrd (ff : BitVec 1) (ft : BitVec 4) (fd : BitVec 7) (fs : BitVec 6)
  /-- ACCWR (R201): Write vector register elements back into a tile. -/
  | accwr (ft : BitVec 4) (fv : BitVec 7) (fs : BitVec 6)
  /-- SPTILE (R197): Set a record's tile identity. -/
  | sptile (fs : BitVec 6) (fo : BitVec 3)
  /-- CHARTPF (R208): Request compilation of a record's chart. -/
  | chartpf (fp : BitVec 4) (fo : BitVec 3)
  /-- CHARTINV (R207): Discard the charts keyed to a record's identity. -/
  | chartinv (fo : BitVec 3)
  /-- CHARTQ (R208): Query the chart state of a record and shape. -/
  | chartq (ff : BitVec 1) (fd : BitVec 6) (fp : BitVec 4) (fo : BitVec 3)
  /-- TALLOC (R198): Request a contiguous run of accumulator units for a tile handle. -/
  | talloc (fi : BitVec 1) (fu : BitVec 5) (ft : BitVec 4)
  /-- TFREE (R198): Invalidate a tile handle and return its units. -/
  | tfree (ft : BitVec 4)
  /-- SADD (R102): Scalar addition. -/
  | sadd (fb : BitVec 6) (fa : BitVec 6) (fd : BitVec 6)
  /-- SSUB (R102): Scalar subtraction. -/
  | ssub (fb : BitVec 6) (fa : BitVec 6) (fd : BitVec 6)
  /-- SMUL (R102): Low 64 bits of the product. -/
  | smul (fb : BitVec 6) (fa : BitVec 6) (fd : BitVec 6)
  /-- SMULH (R102): High 64 bits of the signed product. -/
  | smulh (fb : BitVec 6) (fa : BitVec 6) (fd : BitVec 6)
  /-- SMULHU (R102): High 64 bits of the unsigned product. -/
  | smulhu (fb : BitVec 6) (fa : BitVec 6) (fd : BitVec 6)
  /-- SAND (R102): Scalar AND. -/
  | sand (fb : BitVec 6) (fa : BitVec 6) (fd : BitVec 6)
  /-- SOR (R102): Scalar OR. -/
  | sor (fb : BitVec 6) (fa : BitVec 6) (fd : BitVec 6)
  /-- SXOR (R102): Scalar XOR. -/
  | sxor (fb : BitVec 6) (fa : BitVec 6) (fd : BitVec 6)
  /-- SANDN (R102): Scalar AND NOT. -/
  | sandn (fb : BitVec 6) (fa : BitVec 6) (fd : BitVec 6)
  /-- SSHL (R102): Scalar shift left. -/
  | sshl (fb : BitVec 6) (fa : BitVec 6) (fd : BitVec 6)
  /-- SSHRL (R102): Scalar logical shift right. -/
  | sshrl (fb : BitVec 6) (fa : BitVec 6) (fd : BitVec 6)
  /-- SSHRA (R102): Scalar arithmetic shift right. -/
  | sshra (fb : BitVec 6) (fa : BitVec 6) (fd : BitVec 6)
  /-- SMIN (R102): Scalar signed minimum. -/
  | smin (fb : BitVec 6) (fa : BitVec 6) (fd : BitVec 6)
  /-- SMAX (R102): Scalar signed maximum. -/
  | smax (fb : BitVec 6) (fa : BitVec 6) (fd : BitVec 6)
  /-- SMINU (R102): Scalar unsigned minimum. -/
  | sminu (fb : BitVec 6) (fa : BitVec 6) (fd : BitVec 6)
  /-- SMAXU (R102): Scalar unsigned maximum. -/
  | smaxu (fb : BitVec 6) (fa : BitVec 6) (fd : BitVec 6)
  /-- SSEQ (R102): Set 1 if equal. -/
  | sseq (fb : BitVec 6) (fa : BitVec 6) (fd : BitVec 6)
  /-- SSNE (R102): Set 1 if not equal. -/
  | ssne (fb : BitVec 6) (fa : BitVec 6) (fd : BitVec 6)
  /-- SSLT (R102): Set 1 if signed less. -/
  | sslt (fb : BitVec 6) (fa : BitVec 6) (fd : BitVec 6)
  /-- SSLTU (R102): Set 1 if unsigned less. -/
  | ssltu (fb : BitVec 6) (fa : BitVec 6) (fd : BitVec 6)
  /-- SSLE (R102): Set 1 if signed less or equal. -/
  | ssle (fb : BitVec 6) (fa : BitVec 6) (fd : BitVec 6)
  /-- SSLEU (R102): Set 1 if unsigned less or equal. -/
  | ssleu (fb : BitVec 6) (fa : BitVec 6) (fd : BitVec 6)
  /-- SPOPC (R102): Scalar population count. -/
  | spopc (fa : BitVec 6) (fd : BitVec 6)
  /-- SCLZ (R102): Scalar leading zeros. -/
  | sclz (fa : BitVec 6) (fd : BitVec 6)
  /-- SCTZ (R102): Scalar trailing zeros. -/
  | sctz (fa : BitVec 6) (fd : BitVec 6)
  /-- SBREV (R102): Scalar bit reverse. -/
  | sbrev (fa : BitVec 6) (fd : BitVec 6)
  /-- SMOV (R102): Scalar move. -/
  | smov (fa : BitVec 6) (fd : BitVec 6)
  /-- SLEA2 (R102): sa + (sb << 2). -/
  | slea2 (fb : BitVec 6) (fa : BitVec 6) (fd : BitVec 6)
  /-- SLEA3 (R102): sa + (sb << 3). -/
  | slea3 (fb : BitVec 6) (fa : BitVec 6) (fd : BitVec 6)
  /-- SADDI (R103): Add a sign-extended imm13. -/
  | saddi (fi : BitVec 13) (fa : BitVec 6) (fd : BitVec 6)
  /-- SANDI (R103): AND with sign-extended imm10. -/
  | sandi (fi : BitVec 10) (fa : BitVec 6) (fd : BitVec 6)
  /-- SORI (R103): OR with sign-extended imm10. -/
  | sori (fi : BitVec 10) (fa : BitVec 6) (fd : BitVec 6)
  /-- SXORI (R103): XOR with sign-extended imm10. -/
  | sxori (fi : BitVec 10) (fa : BitVec 6) (fd : BitVec 6)
  /-- SSHLI (R103): Shift left by immediate. -/
  | sshli (fi : BitVec 6) (fa : BitVec 6) (fd : BitVec 6)
  /-- SSHRLI (R103): Logical shift right by immediate. -/
  | sshrli (fi : BitVec 6) (fa : BitVec 6) (fd : BitVec 6)
  /-- SSHRAI (R103): Arithmetic shift right by immediate. -/
  | sshrai (fi : BitVec 6) (fa : BitVec 6) (fd : BitVec 6)
  /-- SSLTI (R103): Set 1 if signed less than immediate. -/
  | sslti (fi : BitVec 10) (fa : BitVec 6) (fd : BitVec 6)
  /-- SMULI (R103): Multiply by sign-extended imm10. -/
  | smuli (fi : BitVec 10) (fa : BitVec 6) (fd : BitVec 6)
  /-- SINSH (R104): Replace one halfword of sd with imm16. -/
  | sinsh (fi : BitVec 16) (fp : BitVec 2) (fd : BitVec 6)
  /-- SMOVH (R104): Write sign-extended imm16 shifted by 16 x pos. -/
  | smovh (fi : BitVec 16) (fp : BitVec 2) (fd : BitVec 6)
  /-- SBFXU (R105): Extract an unsigned scalar bit field. -/
  | sbfxu (fw : BitVec 7) (fo : BitVec 6) (fa : BitVec 6) (fd : BitVec 6)
  /-- SBFX (R105): Extract a signed scalar bit field. -/
  | sbfx (fw : BitVec 7) (fo : BitVec 6) (fa : BitVec 6) (fd : BitVec 6)
  /-- SBFI (R105): Insert a scalar bit field. -/
  | sbfi (fw : BitVec 7) (fo : BitVec 6) (fa : BitVec 6) (fd : BitVec 6)
  /-- BRA (R108): Unconditional branch. -/
  | bra (fi : BitVec 21)
  /-- BRNZ (R108): Branch if s[sa] is nonzero. -/
  | brnz (fi : BitVec 15) (fa : BitVec 6)
  /-- BRZ (R108): Branch if s[sa] is zero. -/
  | brz (fi : BitVec 15) (fa : BitVec 6)
  /-- BRM (R109): Divergent branch by mask: continue, transfer, split or push a divergence entry. -/
  | brm (fi : BitVec 15) (fa : BitVec 6)
  /-- JOIN (R111): Reconverge on the top divergence entry, or wait at a join when the stack is empty. -/
  | join (fc : BitVec 5)
  /-- CALL (R114): Write the next clause to s62 and transfer. -/
  | call (fi : BitVec 21)
  /-- CALLR (R114): Call through a register target. -/
  | callr (fa : BitVec 6)
  /-- RET (R114): Transfer to s[sa]. -/
  | ret (fa : BitVec 6)
  /-- LOOP (R115): Start a hardware loop with a count from s[sa]. -/
  | loop (fe : BitVec 15) (fa : BitVec 6)
  /-- LOOPI (R115): Start a hardware loop with an immediate count. -/
  | loopi (fe : BitVec 11) (fn : BitVec 10)
  /-- EXIT (R118): Retire the active lanes and take divergence stack actions or retire the part. -/
  | exit
  /-- TRAP (R119): Raise cause TRAP with imm16. -/
  | trap (fi : BitVec 16)
  /-- BKPT (R119): Raise cause BKPT with imm16. -/
  | bkpt (fi : BitVec 16)
  /-- YIELD (R120): Make the part ineligible for imm8 cycles. -/
  | yield (fi : BitVec 8)
  /-- FUSE (R113): Give the clause a width requirement. -/
  | fuse (fw : BitVec 3)
  /-- NOP (R120): No effect. -/
  | nop
  /-- SREAD (R123): Read a special register into sd at commit. -/
  | sread (fd : BitVec 6) (fs : BitVec 10)
  /-- SWRITE (R123): Write a special register at commit, checked by selector. -/
  | swrite (fa : BitVec 6) (fs : BitVec 10)
  /-- ACQUIRE (R124): Request the wave's full register allotment. -/
  | acquire
  /-- RELEASE (R124): Return the wave to its prologue allotment. -/
  | release
  /-- TQINIT (R125): Set up a task queue. -/
  | tqinit (fb : BitVec 6) (fa : BitVec 6)
  /-- TQTAKE (R126): Take a guided chunk from a task queue. -/
  | tqtake (fa : BitVec 6) (fd : BitVec 6)
  /-- LAUNCH (R127): Create one child launch per active lane with a nonzero packet pointer. -/
  | launch (fd : BitVec 6) (fa : BitVec 7)
  /-- SLEEP (R128): Make the part ineligible for imm16 x 64 cycles. -/
  | sleep (fi : BitVec 16)
  /-- GETTIME (R129): Read the part's pts and the pulse count. -/
  | gettime (fd : BitVec 6)
  /-- VLD (R158): Strided vector load from global memory. -/
  | vld (fn : BitVec 1) (fk : BitVec 5) (fz : BitVec 3) (fb : BitVec 6) (fd : BitVec 7) (ff : BitVec 1)
  /-- VST (R158): Strided vector store to global memory. -/
  | vst (fn : BitVec 1) (fk : BitVec 5) (fz : BitVec 3) (fb : BitVec 6) (fs : BitVec 7)
  /-- SLD (R159): Scalar load, issued once for the part. -/
  | sld (fi : BitVec 10) (fz : BitVec 3) (fa : BitVec 6) (fd : BitVec 6)
  /-- SST (R159): Scalar store. -/
  | sst (fi : BitVec 10) (fz : BitVec 3) (fa : BitVec 6) (fd : BitVec 6)
  /-- LDL (R160): Lane-indexed scratchpad load served in bank rounds. -/
  | ldl (fi : BitVec 7) (fz : BitVec 3) (fa : BitVec 7) (fd : BitVec 7) (ff : BitVec 1)
  /-- STL (R160): Lane-indexed scratchpad store. -/
  | stl (fi : BitVec 7) (fz : BitVec 3) (fa : BitVec 7) (fs : BitVec 7)
  /-- ATOML (R163): Scratchpad atomic per lane in ascending lane order. -/
  | atoml (fo : BitVec 3) (fb : BitVec 7) (fa : BitVec 7) (fd : BitVec 7) (ff : BitVec 1)
  /-- ATOMG (R164): Scalar global atomic with a scope. -/
  | atomg (fc : BitVec 2) (fz : BitVec 1) (fo : BitVec 3) (fb : BitVec 6) (fa : BitVec 6) (fd : BitVec 6) (ff : BitVec 1)
  /-- ATOMGV (R166): Per-lane device atomic on consecutive words. -/
  | atomgv (fb : BitVec 7) (fo : BitVec 3) (fk : BitVec 6) (fd : BitVec 7) (ff : BitVec 1)
  /-- FENCE (R167): Scoped fence holding its clause at commit for span and system scopes. -/
  | fence (fk : BitVec 2) (fs : BitVec 4)
  /-- BFENCE (R168): Wait for earlier bank products and order them against the part's stores. -/
  | bfence
  /-- TCOPY (R170): Start a tensor copy from a scratchpad descriptor. -/
  | tcopy (fv : BitVec 1) (fb : BitVec 6) (fa : BitVec 6)
  /-- SEAL (R172): Close the open batch and return its number. -/
  | sealBatch (fd : BitVec 6)
  /-- WAITB (R172): Wait for a batch and all earlier batches to complete. -/
  | waitb (fa : BitVec 6)
  /-- GATHER (R174): Start an indexed gather into scratchpad. -/
  | gather (fv : BitVec 1) (fb : BitVec 6) (fa : BitVec 6)
  /-- PUTSIG (R175): Start a payload copy followed by a signal update. -/
  | putsig (fa : BitVec 6)
  /-- PREF (R176): Prefetch lines into L2 and optionally L1. -/
  | pref (fl : BitVec 1) (fn : BitVec 8) (fa : BitVec 6)
  /-- BARINIT (R179): Initialise a barrier object. -/
  | barinit (fb : BitVec 6) (fa : BitVec 6)
  /-- BARARR (R179): Arrive at a barrier object and return the prior phase. -/
  | bararr (fd : BitVec 6) (fa : BitVec 6)
  /-- BARTX (R179): Add expected transaction bytes to a barrier object. -/
  | bartx (fb : BitVec 6) (fa : BitVec 6)
  /-- BARWAIT (R179): Wait until the barrier phase differs and raise pts. -/
  | barwait (fb : BitVec 6) (fa : BitVec 6)
  /-- BARTRY (R179): Test a barrier without waiting. -/
  | bartry (fd : BitVec 6) (fb : BitVec 6) (fa : BitVec 6)
  /-- GBAR (R180): Hold the part at a set barrier. -/
  | gbar (fs : BitVec 8)
  /-- BMV (R183): Start a bank-unit matrix-vector product overwriting y. -/
  | bmv (ff : BitVec 1) (fa : BitVec 6)
  /-- BMVACC (R183): Start a bank-unit matrix-vector product accumulating into y. -/
  | bmvacc (ff : BitVec 1) (fa : BitVec 6)
  /-- BSTAT (R184): Read the state of one bank unit. -/
  | bstat (ff : BitVec 1) (fa : BitVec 6) (fd : BitVec 6)
  /-- CLAUSE_START (R224): A part standing at a clause header starts the clause in the first cycle in which the wait mask, join wait, width requirement, allotment grant and tension conditions all hold. Operands: w, p. -/
  | clauseStart
  /-- COMMIT (R28): At clause end all checks complete, then register results, FPX and SPDOOB updates take effect, memory and engine work leaves in program order, and any transfer of control happens. -/
  | commit
  /-- HELD_AT_COMMIT_RELEASE (R167): A clause held at commit by a fence, WAITB, BARWAIT, BFENCE, a flag count past 15, a full queue or a scoreboard stall commits once its condition is met. Operands: w, p. -/
  | heldAtCommitRelease
  /-- PAGE_WALK (R293): A walker reads the five-level page table entries at their home slices and returns a leaf or a fault. Operands: core. -/
  | pageWalk
  /-- LONG_LATENCY_RETURN (R38): A long-latency result returns, writes one quad's destination registers in the bank and lowers that quad's flag count by one. Operands: rid, quad. -/
  | longLatencyReturn
  /-- ACCESS_FAILED_AFTER_COMMIT (R304): A long-latency access whose data fails after commit is retried once and, if it fails again, stops the wave with cause 0x0D and marks its group failed. Operands: rid, quad, sub, retry. -/
  | accessFailedAfterCommit
  /-- ISSUE_PICK (R233): A free issue slot picks the eligible part of lowest class and greatest age and issues one instruction over ceil(q/8) cycles. Operands: core, slot. -/
  | issuePick
  /-- STARVATION_PROMOTE (R235): A part whose starvation count reaches 256 enters class 0 until it is picked. Operands: w, p. -/
  | starvationPromote
  /-- SPIN_DEMOTE (R236): A part whose spin count of quiet hits reaches 8 enters class 3. Operands: w, p. -/
  | spinDemote
  /-- SPIN_DEMOTION_EXPIRY (R236): A part demoted as spinning returns to its class after 1,024 cycles. Operands: w, p. -/
  | spinDemotionExpiry
  /-- SLEEP_EXPIRY (R128): A sleeping part becomes eligible again after imm16 x 64 cycles or at the next pulse tick. Operands: w, p. -/
  | sleepExpiry
  /-- YIELD_EXPIRY (R120): A yielding part becomes eligible again after imm8 cycles or after another ready part has issued. Operands: w, p. -/
  | yieldExpiry
  /-- MISS_SPLIT (R226): When the ready set has held for SPLITD cycles at a split header, it splits off as a new leading part. Operands: w, p. -/
  | missSplit
  /-- SCALAR_COPY_DONE (R227): Eight cycles after a split the non-leading part's copied scalar bank is ready and it may start a clause. Operands: w, p. -/
  | scalarCopyDone
  /-- JOIN_FUSE (R112): When every unretired part of the wave stands at the same JOIN, they fuse and the fused part runs the rest of the clause. Operands: w, p. -/
  | joinFuse
  /-- JOIN_TIMEOUT (R112): The join timeout of a waiting part expires and the parts then waiting at that JOIN fuse and continue. Operands: w, p. -/
  | joinTimeout
  /-- JOIN_RELEASE (R229): A join wait ends with no fuse once every other unretired part of the wave is waiting for a fuse. Operands: w, p. -/
  | joinRelease
  /-- WIDTH_FUSE (R228): When every part holding a quad of the required block stands at the same header, they fuse in that cycle. Operands: w, p. -/
  | widthFuse
  /-- FUSE_TIMEOUT (R228): A part that has waited FUSEL cycles for a fuse takes the Fuse Timeout trap at its clause. Operands: w, p. -/
  | fuseTimeout
  /-- ALLOTMENT_GRANT (R245): The allotment arbiter grants the oldest fitting ACQUIRE or TALLOC request of a list. Operands: core, list. -/
  | allotmentGrant
  /-- ALLOTMENT_DEADLOCK_PREEMPT (R245): After 4,096 cycles of allotment deadlock the arbiter pre-empts the youngest holding group as victim. Operands: core, list. -/
  | allotmentDeadlockPreempt
  /-- GBAR_RELEASE (R180): When every wave of the set has arrived or retired, all held parts of the GBAR commit and raise their pts to the largest arrival pts. Operands: launch, set. -/
  | gbarRelease
  /-- TRAP_STOP (R231): When a part traps or halts, every other part of the wave stops at its next header. Operands: w. -/
  | trapStop
  /-- TRAP_RECORD_WRITE (R307): Once every part stands at a header and the trap area has room, the device writes the trap record, advances the write count and signals the host by MSI-X. Operands: w. -/
  | trapRecordWrite
  /-- BREAKPOINT_MATCH (R337): A breakpoint matches a part at its header in place of starting the clause and stops the wave with cause 0x06. Operands: w, p, b. -/
  | breakpointMatch
  /-- STEP_TIMEOUT (R336): A stepped wave stops again after 2^16 cycles if none of its parts commits a clause. Operands: w. -/
  | stepTimeout
  /-- WAVE_RETIRE (R118): When the last part of a wave retires, the wave retires and its profile record is written once its register returns are in. Operands: w. -/
  | waveRetire
  /-- MATRIX_QUEUE_HEAD_START (R192): An accumulator instruction at the head of the group's matrix queue runs at once on accumulator memory. Operands: g. -/
  | matrixQueueHeadStart
  /-- MMA_ARRAY_START (R194): When the array falls free it starts the ready head MMA of the next group in round-robin order, or a follower course MMA first. Operands: core. -/
  | mmaArrayStart
  /-- MATRIX_OP_COMPLETE (R192): An MMA or accumulator operation finishes its last cycle and leaves the matrix queue. Operands: g. -/
  | matrixOpComplete
  /-- MATRIX_FLAG_CLEAR (R192): Twenty cycles after the end of an MMA or ACCRD its completion flag clears. Operands: id. -/
  | matrixFlagClear
  /-- COURSE_MMA_DISPATCH (R203): A course MMA at the leader's head is dispatched to the follower core, taking its array at the next free point. Operands: g. -/
  | courseMmaDispatch
  /-- CHART_COMPILE_START (R205): The core's chart compiler takes the next compile request in arrival order. Operands: core. -/
  | chartCompileStart
  /-- CHART_COMPILE_END (R205): A compile ends after its cycle count with a ready chart or a dense fallback entry in the chart cache. Operands: core. -/
  | chartCompileEnd
  /-- COPY_GRANULE (R171): The copy engine writes one aligned 32-byte granule of a copy, gather or PUTSIG payload and counts down any named barrier. Operands: op. -/
  | copyGranule
  /-- COPY_FAILURE (R173): A copy or PUTSIG meets a lasting fault, writes no further granule, records its progress and counts down its barrier with error. Operands: op, cause. -/
  | copyFailure
  /-- GATHER_ELEMENT (R174): The gather engine completes or fails one element, writing it or zero-filling it and setting its status bit. Operands: op, ok. -/
  | gatherElement
  /-- PUTSIG_SIGNAL (R175): After every payload granule is written, the PUTSIG signal word is written or added to. Operands: op. -/
  | putsigSignal
  /-- BANK_UNIT_GROUP (R267): A bank unit computes one queued 16-row group of a BMV or BMVACC and writes its y rows. Operands: op. -/
  | bankUnitGroup
  /-- BMV_COMPLETE (R183): When every row group is done, the y range is invalidated and released, status bytes are written and the flag clears. Operands: op. -/
  | bmvComplete
  /-- HOME_SLICE_STORE (R284): A device store or atomic reaching its home slice is timed at max(pts, rts + 1) and sets wts and rts. Operands: rid. -/
  | homeSliceStore
  /-- HOME_SLICE_LOAD (R283): A load reaching its home slice is timed, returns the line and may grant a lease. Operands: rid. -/
  | homeSliceLoad
  /-- PULSE_TICK (R280): A pulse tick advances the pulse count, raises every part's pts to its floor, drops expired L1 copies and raises stale line times. -/
  | pulseTick
  /-- SPAN_LEAVE (R325): A device that receives no tick for 8 periods leaves the span, clearing its member bit and emptying its routing masks. -/
  | spanLeave
  /-- PACKET_ACCEPT (R237): A launch packet at the head of a queue is fetched, takes the next launch sequence number and is checked, being refused if it breaks a rule. Operands: fn, q. -/
  | packetAccept
  /-- GROUP_ADMIT (R244): A group whose dependences hold and that fits a core is placed and admitted, its waves bound to slots. Operands: launch. -/
  | groupAdmit
  /-- LAUNCH_COMPLETE (R241): After every group of a launch has retired, the status word is written and the completion interrupt sent. Operands: launch. -/
  | launchComplete
  /-- PREEMPT_REQUEST (R249): A pre-emption request names a group, whose parts then run on to marker headers and stop. Operands: g. -/
  | preemptRequest
  /-- PREEMPT_SAVE (R249): Once every part has stopped and the drain and matrix queue finish, the group's context is saved. Operands: g. -/
  | preemptSave
  /-- PREEMPT_FAIL (R249): A pre-emption not finished within 2^20 cycles fails, the stopped parts resume and nothing is saved. Operands: g. -/
  | preemptFail
  /-- GROUP_RESTORE (R250): A saved group is re-admitted ahead of new groups and its waves resume in their saved states. Operands: g. -/
  | groupRestore
  /-- QCTL_WRITE (R316): A write to QCTL enables, configures or disables a command queue. Operands: fn, q, val. -/
  | qctlWrite
  /-- QDOORBELL_WRITE (R316): A doorbell write gives a queue's new write index, after an implied system acquire, or stops the queue on a bad index or address space. Operands: fn, q, val. -/
  | qdoorbellWrite
  /-- INVCMD_WRITE (R317): A write to INVCMD starts invalidation of TLB and walk cache entries for the INVVA range of an address space. Operands: fn, val. -/
  | invcmdWrite
  /-- INVALIDATION_COMPLETE (R317): Busy clears once every covered translation entry is removed. Operands: fn. -/
  | invalidationComplete
  /-- APFAULT_WRITE (R314): A write of 0 to APFAULT clears it, and any other value is ignored. Operands: fn, val. -/
  | apfaultWrite
  /-- BAR2_READ (R315): A host read through the BAR2 aperture is translated, checked and performed as a device-order load at the home slice. Operands: fn, off, n. -/
  | bar2Read
  /-- BAR2_WRITE (R315): A host write through the BAR2 aperture is translated, checked and performed as a store, or dropped with APFAULT recorded. Operands: fn, off, n, val. -/
  | bar2Write
  /-- PULSECFG_WRITE (R332): A write to PULSECFG sets tension and period, taking effect at the next tick, with periods 5 to 7 leaving the period unchanged. Operands: fn, val. -/
  | pulsecfgWrite
  /-- PWRCAP_WRITE (R330): A write to PWRCAP sets the sustained power limit, clamped to 1,200 to 2,800 W. Operands: fn, val. -/
  | pwrcapWrite
  /-- SPANCTL_WRITE (R325): A write to SPANCTL sets span index, pulse driver and member bit, rejoining the span when the pulse arrives. Operands: fn, val. -/
  | spanctlWrite
  /-- CNTDATA_WRITE (R343): A write of 0 to CNTDATA clears the selected unit counter, occupancy counters excepted. Operands: fn, val. -/
  | cntdataWrite
  /-- REGISTER_WRITE (R314): A host write to a BAR0 register without behaviour of its own stores its fields, ignoring out-of-range values where stated. Operands: fn, off, val. -/
  | registerWrite
  /-- FUNDAMENTAL_RESET (R320): A fundamental reset puts the device in state resetting and then booting. -/
  | fundamentalReset
  /-- BOOT_COMPLETE (R320): Boot firmware finishes verification and training and sets DEVSTATE to ready, or to failed with a cause. Operands: cause, cores, gib, ports, digests. -/
  | bootComplete
  /-- FUNCTION_LEVEL_RESET (R320): A function-level reset of a VF kills its launches and frees its queues and address spaces. Operands: fn. -/
  | functionLevelReset
  /-- DECODE_TABLE_UPDATE (R93): Signed firmware loads a new decode table on a core with no resident wave. Operands: major, minor, patch, signed, digest. -/
  | decodeTableUpdate
  /-- POWER_WINDOW (R330): At the end of each 10 ms window the device compares average power with PWRCAP and throttles or unthrottles one step. Operands: watts, temp, pwrnow. -/
  | powerWindow
  /-- THERMAL_STOP (R330): A junction temperature of 115 degrees stops all cores, writes record type 6 and sets DEVSTATE to failed. -/
  | thermalStop
  /-- WEAR_UPDATE (R329): Firmware updates the wear indicators daily. Operands: idx, days, measure. -/
  | wearUpdate
  /-- UNCORRECTABLE_ERROR (R327): An uncorrectable error is retried once and, if lasting, retires the affected part and writes a reliability record. Operands: cls, unit, lasting, pa, waves. -/
  | uncorrectableError
  /-- CORRECTED_ERROR_RECORD (R328): At most once per second per unit a record of corrected errors is written with their count. Operands: cls, unit, count. -/
  | correctedErrorRecord
  /-- LINK_REPLAY (R324): A flit whose CRC fails is replayed by the link layer. Operands: port. -/
  | linkReplay
  /-- LINK_OPERATION_FAILURE (R324): An operation undelivered after 16 replays or unanswered in 100 us is resent once, and a second failure marks the port down. Operands: line, second. -/
  | linkOperationFailure
  /-- SPAN_REQUEST (R323): An incoming span request is checked against SPANIMP and capacity and performed or refused. Operands: src, store, off, n, val. -/
  | spanRequest
  /-- STALL_SAMPLE (R342): Every 2^period cycles a core samples the next resident part's stall class and blame into the sample ring. Operands: core. -/
  | stallSample
  /-- DBG_HALT_WAVE (R336): Debug command 1 halts the named wave under R231 and writes a halt record. Operands: fn. -/
  | dbgHaltWave
  /-- DBG_HALT_GROUP (R336): Debug command 2 halts every wave of the named group that is not already halted. Operands: fn. -/
  | dbgHaltGroup
  /-- DBG_RESUME (R308): Debug command 3 resumes a halted wave. Operands: fn. -/
  | dbgResume
  /-- DBG_STEP (R336): Debug command 4 resumes a halted wave until one of its parts commits a clause. Operands: fn. -/
  | dbgStep
  /-- DBG_KILL_WAVE (R308): Debug command 5 kills the named wave with a new generation and marks its group failed. Operands: fn. -/
  | dbgKillWave
  /-- DBG_KILL_GROUP (R308): Debug command 6 kills every wave of the named group. Operands: fn. -/
  | dbgKillGroup
  /-- DBG_SAVE (R308): Debug command 7 saves a halted, saveable wave's context. Operands: fn. -/
  | dbgSave
  /-- DBG_INVALID_COMMAND (R336): Debug commands 0 and 8 to 15 are ignored with result 1. Operands: fn. -/
  | dbgInvalidCommand
  /-- GET_VERSION (R334): SPDM GET_VERSION request answered over DOE. -/
  | getVersion
  /-- GET_CAPABILITIES (R334): SPDM GET_CAPABILITIES request answered over DOE. -/
  | getCapabilities
  /-- NEGOTIATE_ALGORITHMS (R334): SPDM NEGOTIATE_ALGORITHMS request answered with ECDSA P-384 and SHA-384. -/
  | negotiateAlgorithms
  /-- GET_DIGESTS (R334): SPDM GET_DIGESTS request answered over DOE. -/
  | getDigests
  /-- GET_CERTIFICATE (R334): SPDM GET_CERTIFICATE request returns the chain in slot 0. Operands: slot. -/
  | getCertificate
  /-- CHALLENGE (R334): SPDM CHALLENGE request signed with the device identity key. Operands: slot, nonce. -/
  | challenge
  /-- GET_MEASUREMENTS (R334): SPDM GET_MEASUREMENTS returns firmware, decode table and version measurements. Operands: index. -/
  | getMeasurements
  /-- STORE_TIME_RETURN (R284): The time given to a committed device store or atomic at its home slice returns to the part, whose pts is raised to it, and any later load served under a lease ending before that time is served again. Operands: rid. -/
  | storeTimeReturn
  /-- TICK_COMPLETION (R280): The pulse network reports to a span device that tick k has been observed by every device of the span, making the tick complete. Operands: k. -/
  | tickCompletion
  /-- PORT_RETRAIN (R322): Firmware retrains a span port that was marked down and marks it up, returning it to the routing masks. Operands: port. -/
  | portRetrain
  /-- MSIX_VECTOR_UNMASK (R318): The host unmasks an MSI-X vector whose pending bit is set, and the device sends the pending message. Operands: fn, v. -/
  | msixVectorUnmask
  /-- CORE_CLOCK_STOP (R346): A core's arithmetic clock stops, writing a CLOCK record with frequency 0 into its trace stream and halting its cycle counters. Operands: core. -/
  | coreClockStop
  /-- CORE_CLOCK_RESTART (R346): A stopped core's arithmetic clock restarts, writing a CLOCK record with the new frequency and resuming counting. Operands: core. -/
  | coreClockRestart
  deriving DecidableEq, Repr

end Sys2Proof
end

