-- ==== Sys2Proof/Machine/Legal.lean ====
section
/-! DEFINITION. What the words of an instruction fix by themselves: whether the encoding is legal, which vector registers it
touches, which set flag it selects, where it must stand in its clause and which width it needs (03 R82 to R90, 01 R11, R13). -/

namespace Sys2Proof

/-- Why bytes are not an instruction, or an instruction's fields are illegal (03 R90). -/
inductive Bad where
  /-- Fewer bytes than the instruction's length. -/
  | truncated
  /-- The pattern of a clause header (03 R80). -/
  | header
  /-- A reserved major, minor or function code. -/
  | reserved
  /-- A must-be-zero bit is 1. -/
  | mustBeZero
  /-- Rounding code 7 (02 R55). -/
  | badRounding
  /-- Size code 7, or a size the operation does not admit (06 R164). -/
  | badSize
  /-- Source type equal to destination type (05 R141). -/
  | sameType
  /-- M type 7 (07 R188). -/
  | badType
  /-- Shape 8 to 15, or shape 7 with C = 0 (07 R188, R208). -/
  | badShape
  /-- A scope code that is illegal (03 R88). -/
  | badScope
  /-- A bit-field or fuse width that is illegal (04 R105, R113). -/
  | badWidth
  /-- A join timeout code of 21 to 30 (04 R112). -/
  | badTimeout
  /-- A selector that is reserved, or read-only and written (04 R122). -/
  | badSelector
  /-- A unit count of 0 or above 16 (07 R198). -/
  | badUnits
  /-- An odd register where a pair is required (01 R13). -/
  | oddPair
  /-- A register number that is not a multiple of what the operand needs (01 R13, 07 R188). -/
  | badAlign
  /-- A register range that runs past v127 (08 R212). -/
  | pastEnd
  deriving DecidableEq, Repr

/-- Where an instruction must stand in its clause (03 R82). -/
inductive Place where
  | any
  | first
  | last
  deriving DecidableEq, Repr

/-- The width requirement of an instruction (09 R224). -/
inductive WReq where
  | no
  /-- A block of so many lanes. -/
  | lanes (n : Nat)
  /-- The launch width. -/
  | full
  deriving DecidableEq, Repr

/-- What the words of an instruction fix. -/
structure Form where
  /-- The first illegal field, if any. -/
  bad : Option Bad
  /-- Vector registers touched: first register and count (01 R11). -/
  vregs : List (Nat × Nat)
  /-- F, when the instruction selects a set flag: true selects B (03 R83). -/
  flag : Option Bool
  /-- Placement. -/
  place : Place
  /-- Width requirement. -/
  width : WReq
  deriving DecidableEq, Repr

namespace Machine

/-- The reason of the first check that fails. -/
def chk : List (Bool × Bad) → Option Bad
  | [] => none
  | (b, r) :: l => if b then some r else chk l

/-- Rounding code 7 is illegal (02 R55). -/
def rndBad (r : BitVec 3) : Bool × Bad := (decide (r = 7), .badRounding)

/-- An odd register number. -/
def odd {n : Nat} (r : BitVec n) : Bool := decide (r.toNat % 2 = 1)

/-- A pair needs an even register (01 R13). -/
def pair {n : Nat} (r : BitVec n) : Bool × Bad := (odd r, .oddPair)

/-- `n` registers from `r` must end by v127 (08 R212). -/
def past (r : VReg) (n : Nat) : Bool × Bad := (decide (128 < r.toNat + n), .pastEnd)

/-- Registers of one lane's element of a size code (06 R158). -/
def sizeRegs (z : BitVec 3) : Nat := if z = 5 then 2 else if z = 6 then 4 else 1

/-- Bytes of a size code (06 R158). -/
def sizeBytes (z : Nat) : Nat :=
  match z with
  | 0 => 1 | 1 => 1 | 2 => 2 | 3 => 2 | 4 => 4 | 5 => 8 | _ => 16

/-- Size and alignment checks of VLD, VST, LDL and STL (01 R13, 03 R90). -/
def sizeChk (z : BitVec 3) (r : VReg) : Option Bad :=
  chk [(decide (z = 7), .badSize), (decide (z = 5) && odd r, .oddPair), (decide (z = 6) && decide (r.toNat % 4 ≠ 0), .badAlign)]

/-- A registers per row of an MMA type (07 R185). -/
def mmaRegs (y : BitVec 3) : Nat := if 5 ≤ y.toNat then 32 else 16

/-- Required width of a shape, in lanes (07 R186). -/
def mmaWidth (p : BitVec 4) : Nat := if p.toNat < 2 then 16 else if p.toNat < 4 then 32 else 64

/-- Selectors of 04 R122 that SREAD takes. -/
def selReadable (s : Nat) : Bool := decide (s ≤ 8) || (decide (0x10 ≤ s) && decide (s ≤ 0x19))

/-- Selectors of 04 R122 that SWRITE takes. -/
def selWritable (s : Nat) : Bool := decide (0x10 ≤ s) && decide (s ≤ 0x19) && decide (s ≠ 0x16)

/-- An instruction with no check beyond its fields. -/
def plain : Form := ⟨none, [], none, .any, .no⟩

/-- An instruction whose only check is the allotment. -/
def regs (l : List (Nat × Nat)) : Form := ⟨none, l, none, .any, .no⟩

/-- A long-latency instruction that selects a flag. -/
def flagged (f : BitVec 1) (l : List (Nat × Nat)) : Form := ⟨none, l, some (decide (f = 1)), .any, .no⟩

/-- The form of every instruction; a step without an encoding has nothing to check. -/
def form : Instr → Form
  | .vmov16 fs fd => regs [(fs.toNat, 1), (fd.toNat, 1)]
  | .vadd16 fs fd => regs [(fs.toNat, 1), (fd.toNat, 1)]
  | .vsub16 fs fd => regs [(fs.toNat, 1), (fd.toNat, 1)]
  | .vmullo16 fs fd => regs [(fs.toNat, 1), (fd.toNat, 1)]
  | .vand16 fs fd => regs [(fs.toNat, 1), (fd.toNat, 1)]
  | .vor16 fs fd => regs [(fs.toNat, 1), (fd.toNat, 1)]
  | .vxor16 fs fd => regs [(fs.toNat, 1), (fd.toNat, 1)]
  | .vshl16 fs fd => regs [(fs.toNat, 1), (fd.toNat, 1)]
  | .vshrl16 fs fd => regs [(fs.toNat, 1), (fd.toNat, 1)]
  | .vshra16 fs fd => regs [(fs.toNat, 1), (fd.toNat, 1)]
  | .vaddF3216 fs fd => regs [(fs.toNat, 1), (fd.toNat, 1)]
  | .vsubF3216 fs fd => regs [(fs.toNat, 1), (fd.toNat, 1)]
  | .vmulF3216 fs fd => regs [(fs.toNat, 1), (fd.toNat, 1)]
  | .vmaxF3216 fs fd => regs [(fs.toNat, 1), (fd.toNat, 1)]
  | .vminF3216 fs fd => regs [(fs.toNat, 1), (fd.toNat, 1)]
  | .vmax16 fs fd => regs [(fs.toNat, 1), (fd.toNat, 1)]
  | .vaddF32 fr fb fa fd _ => ⟨chk [rndBad fr], [(fb.toNat, 1), (fa.toNat, 1), (fd.toNat, 1)], none, .any, .no⟩
  | .vsubF32 fr fb fa fd _ => ⟨chk [rndBad fr], [(fb.toNat, 1), (fa.toNat, 1), (fd.toNat, 1)], none, .any, .no⟩
  | .vmulF32 fr fb fa fd _ => ⟨chk [rndBad fr], [(fb.toNat, 1), (fa.toNat, 1), (fd.toNat, 1)], none, .any, .no⟩
  | .vfmaF32 fr fb fa fd _ => ⟨chk [rndBad fr], [(fb.toNat, 1), (fa.toNat, 1), (fd.toNat, 1)], none, .any, .no⟩
  | .vaddF16x2 fr fb fa fd _ => ⟨chk [rndBad fr], [(fb.toNat, 1), (fa.toNat, 1), (fd.toNat, 1)], none, .any, .no⟩
  | .vsubF16x2 fr fb fa fd _ => ⟨chk [rndBad fr], [(fb.toNat, 1), (fa.toNat, 1), (fd.toNat, 1)], none, .any, .no⟩
  | .vmulF16x2 fr fb fa fd _ => ⟨chk [rndBad fr], [(fb.toNat, 1), (fa.toNat, 1), (fd.toNat, 1)], none, .any, .no⟩
  | .vfmaF16x2 fr fb fa fd _ => ⟨chk [rndBad fr], [(fb.toNat, 1), (fa.toNat, 1), (fd.toNat, 1)], none, .any, .no⟩
  | .vaddBf16x2 fr fb fa fd _ => ⟨chk [rndBad fr], [(fb.toNat, 1), (fa.toNat, 1), (fd.toNat, 1)], none, .any, .no⟩
  | .vsubBf16x2 fr fb fa fd _ => ⟨chk [rndBad fr], [(fb.toNat, 1), (fa.toNat, 1), (fd.toNat, 1)], none, .any, .no⟩
  | .vmulBf16x2 fr fb fa fd _ => ⟨chk [rndBad fr], [(fb.toNat, 1), (fa.toNat, 1), (fd.toNat, 1)], none, .any, .no⟩
  | .vfmaBf16x2 fr fb fa fd _ => ⟨chk [rndBad fr], [(fb.toNat, 1), (fa.toNat, 1), (fd.toNat, 1)], none, .any, .no⟩
  | .vaddF64 fr fb fa fd _ => ⟨chk [rndBad fr, pair fb, pair fa, pair fd], [(fb.toNat, 2), (fa.toNat, 2), (fd.toNat, 2)], none, .any, .no⟩
  | .vsubF64 fr fb fa fd _ => ⟨chk [rndBad fr, pair fb, pair fa, pair fd], [(fb.toNat, 2), (fa.toNat, 2), (fd.toNat, 2)], none, .any, .no⟩
  | .vmulF64 fr fb fa fd _ => ⟨chk [rndBad fr, pair fb, pair fa, pair fd], [(fb.toNat, 2), (fa.toNat, 2), (fd.toNat, 2)], none, .any, .no⟩
  | .vfmaF64 fr fb fa fd _ => ⟨chk [rndBad fr, pair fb, pair fa, pair fd], [(fb.toNat, 2), (fa.toNat, 2), (fd.toNat, 2)], none, .any, .no⟩
  | .vadd fb fa fd _ => regs [(fa.toNat, 1), (fb.toNat, 1), (fd.toNat, 1)]
  | .vsub fb fa fd _ => regs [(fa.toNat, 1), (fb.toNat, 1), (fd.toNat, 1)]
  | .vmullo fb fa fd _ => regs [(fa.toNat, 1), (fb.toNat, 1), (fd.toNat, 1)]
  | .vmulhi fb fa fd _ => regs [(fa.toNat, 1), (fb.toNat, 1), (fd.toNat, 1)]
  | .vmulhu fb fa fd _ => regs [(fa.toNat, 1), (fb.toNat, 1), (fd.toNat, 1)]
  | .vmad fb fa fd _ => regs [(fa.toNat, 1), (fb.toNat, 1), (fd.toNat, 1)]
  | .vaddsat fb fa fd _ => regs [(fa.toNat, 1), (fb.toNat, 1), (fd.toNat, 1)]
  | .vsubsat fb fa fd _ => regs [(fa.toNat, 1), (fb.toNat, 1), (fd.toNat, 1)]
  | .vmin fb fa fd _ => regs [(fa.toNat, 1), (fb.toNat, 1), (fd.toNat, 1)]
  | .vmax fb fa fd _ => regs [(fa.toNat, 1), (fb.toNat, 1), (fd.toNat, 1)]
  | .vminu fb fa fd _ => regs [(fa.toNat, 1), (fb.toNat, 1), (fd.toNat, 1)]
  | .vmaxu fb fa fd _ => regs [(fa.toNat, 1), (fb.toNat, 1), (fd.toNat, 1)]
  | .vand fb fa fd _ => regs [(fa.toNat, 1), (fb.toNat, 1), (fd.toNat, 1)]
  | .vor fb fa fd _ => regs [(fa.toNat, 1), (fb.toNat, 1), (fd.toNat, 1)]
  | .vxor fb fa fd _ => regs [(fa.toNat, 1), (fb.toNat, 1), (fd.toNat, 1)]
  | .vandn fb fa fd _ => regs [(fa.toNat, 1), (fb.toNat, 1), (fd.toNat, 1)]
  | .vshl fb fa fd _ => regs [(fa.toNat, 1), (fb.toNat, 1), (fd.toNat, 1)]
  | .vshrl fb fa fd _ => regs [(fa.toNat, 1), (fb.toNat, 1), (fd.toNat, 1)]
  | .vshra fb fa fd _ => regs [(fa.toNat, 1), (fb.toNat, 1), (fd.toNat, 1)]
  | .vrotl fb fa fd _ => regs [(fa.toNat, 1), (fb.toNat, 1), (fd.toNat, 1)]
  | .vpopc fa fd _ => regs [(fa.toNat, 1), (fd.toNat, 1)]
  | .vclz fa fd _ => regs [(fa.toNat, 1), (fd.toNat, 1)]
  | .vbrev fa fd _ => regs [(fa.toNat, 1), (fd.toNat, 1)]
  | .vabs fa fd _ => regs [(fa.toNat, 1), (fd.toNat, 1)]
  | .vaddi _ fa fd _ => regs [(fa.toNat, 1), (fd.toNat, 1)]
  | .vshli _ fa fd _ => regs [(fa.toNat, 1), (fd.toNat, 1)]
  | .vshrli _ fa fd _ => regs [(fa.toNat, 1), (fd.toNat, 1)]
  | .vshrai _ fa fd _ => regs [(fa.toNat, 1), (fd.toNat, 1)]
  | .vandi _ fa fd _ => regs [(fa.toNat, 1), (fd.toNat, 1)]
  | .vori _ fa fd _ => regs [(fa.toNat, 1), (fd.toNat, 1)]
  | .vxori _ fa fd _ => regs [(fa.toNat, 1), (fd.toNat, 1)]
  | .vmuli _ fa fd _ => regs [(fa.toNat, 1), (fd.toNat, 1)]
  | .vmovi _ fd _ => regs [(fd.toNat, 1)]
  | .vmovs _ fd _ => regs [(fd.toNat, 1)]
  | .vmovsh _ fd _ => regs [(fd.toNat, 1)]
  | .vlane fd _ => regs [(fd.toNat, 1)]
  | .vgetl _ fa _ _ => regs [(fa.toNat, 1)]
  | .vsetl _ _ fd _ => regs [(fd.toNat, 1)]
  | .vcmp _ fb fa _ _ => regs [(fa.toNat, 1), (fb.toNat, 1)]
  | .vcmpf _ fb fa _ _ => regs [(fa.toNat, 1), (fb.toNat, 1)]
  | .vsel _ fb fa fd _ => regs [(fa.toNat, 1), (fb.toNat, 1), (fd.toNat, 1)]
  | .vbfxu _ _ fa fd _ => regs [(fa.toNat, 1), (fd.toNat, 1)]
  | .vbfx _ _ fa fd _ => regs [(fa.toNat, 1), (fd.toNat, 1)]
  | .vbfi _ _ fa fd _ => regs [(fa.toNat, 1), (fd.toNat, 1)]
  | .vcvt _ fy fx fr fa fd _ => ⟨chk [rndBad fr, (decide (fx = fy) && decide (fx ≠ 0), .sameType), (decide (fx = 7) && odd fa, .oddPair), (decide (fy = 7) && odd fd, .oddPair)],
    [(fa.toNat, if fx = 7 then 2 else 1), (fd.toNat, if fy = 7 then 2 else 1)], none, .any, .no⟩
  | .vpkF16 fb fa fd _ => regs [(fa.toNat, 1), (fb.toNat, 1), (fd.toNat, 1)]
  | .vpkBf16 fb fa fd _ => regs [(fa.toNat, 1), (fb.toNat, 1), (fd.toNat, 1)]
  | .vpkb fb fa fd _ => regs [(fa.toNat, 1), (fb.toNat, 1), (fd.toNat, 1)]
  | .vpkbh fb fa fd _ => regs [(fa.toNat, 1), (fb.toNat, 1), (fd.toNat, 1)]
  | .vupkF16l fa fd _ => regs [(fa.toNat, 1), (fd.toNat, 1)]
  | .vupkF16h fa fd _ => regs [(fa.toNat, 1), (fd.toNat, 1)]
  | .vupkBf16l fa fd _ => regs [(fa.toNat, 1), (fd.toNat, 1)]
  | .vupkBf16h fa fd _ => regs [(fa.toNat, 1), (fd.toNat, 1)]
  | .vrcp fa fd _ => regs [(fa.toNat, 1), (fd.toNat, 1)]
  | .vrsq fa fd _ => regs [(fa.toNat, 1), (fd.toNat, 1)]
  | .vsqrt fa fd _ => regs [(fa.toNat, 1), (fd.toNat, 1)]
  | .vexp2 fa fd _ => regs [(fa.toNat, 1), (fd.toNat, 1)]
  | .vlog2 fa fd _ => regs [(fa.toNat, 1), (fd.toNat, 1)]
  | .vsin fa fd _ => regs [(fa.toNat, 1), (fd.toNat, 1)]
  | .vcos fa fd _ => regs [(fa.toNat, 1), (fd.toNat, 1)]
  | .vtanh fa fd _ => regs [(fa.toNat, 1), (fd.toNat, 1)]
  | .vminF32 fb fa fd _ => regs [(fa.toNat, 1), (fb.toNat, 1), (fd.toNat, 1)]
  | .vmaxF32 fb fa fd _ => regs [(fa.toNat, 1), (fb.toNat, 1), (fd.toNat, 1)]
  | .vminF16x2 fb fa fd _ => regs [(fa.toNat, 1), (fb.toNat, 1), (fd.toNat, 1)]
  | .vmaxF16x2 fb fa fd _ => regs [(fa.toNat, 1), (fb.toNat, 1), (fd.toNat, 1)]
  | .vminBf16x2 fb fa fd _ => regs [(fa.toNat, 1), (fb.toNat, 1), (fd.toNat, 1)]
  | .vmaxBf16x2 fb fa fd _ => regs [(fa.toNat, 1), (fb.toNat, 1), (fd.toNat, 1)]
  | .vcopysignF32 fb fa fd _ => regs [(fa.toNat, 1), (fb.toNat, 1), (fd.toNat, 1)]
  | .vclassF32 fa fd _ => regs [(fa.toNat, 1), (fd.toNat, 1)]
  | .vshuf fb fa fd _ => ⟨none, [(fa.toNat, 1), (fb.toNat, 1), (fd.toNat, 1)], none, .any, .full⟩
  | .vswz _ fa fd _ => ⟨none, [(fa.toNat, 1), (fd.toNat, 1)], none, .any, .full⟩
  | .vbcast _ fa fd _ => ⟨none, [(fa.toNat, 1), (fd.toNat, 1)], none, .any, .full⟩
  | .vscanI32 fa fd _ => ⟨none, [(fa.toNat, 1), (fd.toNat, 1)], none, .any, .full⟩
  | .vscanF32 fa fd _ => ⟨none, [(fa.toNat, 1), (fd.toNat, 1)], none, .any, .full⟩
  | .vconflict fa fd _ => ⟨none, [(fa.toNat, 1), (fd.toNat, 1)], none, .any, .full⟩
  | .vcombineF32 fb fa fd _ => ⟨none, [(fa.toNat, 1), (fb.toNat, 1), (fd.toNat, 1)], none, .any, .full⟩
  | .vcombineI32 fb fa fd _ => ⟨none, [(fa.toNat, 1), (fb.toNat, 1), (fd.toNat, 1)], none, .any, .full⟩
  | .vredaddI32 fa _ _ => ⟨none, [(fa.toNat, 1)], none, .any, .full⟩
  | .vredaddF32 fa _ _ => ⟨none, [(fa.toNat, 1)], none, .any, .full⟩
  | .vredmaxF32 fa _ _ => ⟨none, [(fa.toNat, 1)], none, .any, .full⟩
  | .vredminF32 fa _ _ => ⟨none, [(fa.toNat, 1)], none, .any, .full⟩
  | .vredmaxI32 fa _ _ => ⟨none, [(fa.toNat, 1)], none, .any, .full⟩
  | .vredminI32 fa _ _ => ⟨none, [(fa.toNat, 1)], none, .any, .full⟩
  | .vredand fa _ _ => ⟨none, [(fa.toNat, 1)], none, .any, .full⟩
  | .vredor fa _ _ => ⟨none, [(fa.toNat, 1)], none, .any, .full⟩
  | .visect fb fa fd _ => ⟨none, [(fa.toNat, 1), (fb.toNat, 1), (fd.toNat, 1)], none, .any, .full⟩
  | .smxupd fb fa fd _ => ⟨chk [pair fd], [(fa.toNat, 1), (fb.toNat, 1), (fd.toNat, 2)], none, .any, .no⟩
  | .smxfin fb fa fd _ => ⟨chk [pair fb], [(fa.toNat, 1), (fb.toNat, 2), (fd.toNat, 1)], none, .any, .no⟩
  | .vrand _ fa fd _ => regs [(fa.toNat, 1), (fd.toNat, 1)]
  | .vrandu _ fa fd _ => regs [(fa.toNat, 1), (fd.toNat, 1)]
  | .vdot2F16 fb fa fd _ => regs [(fa.toNat, 1), (fb.toNat, 1), (fd.toNat, 1)]
  | .vdot2Bf16 fb fa fd _ => regs [(fa.toNat, 1), (fb.toNat, 1), (fd.toNat, 1)]
  | .vdot4I8 fb fa fd _ => regs [(fa.toNat, 1), (fb.toNat, 1), (fd.toNat, 1)]
  | .vdot4Ui8 fb fa fd _ => regs [(fa.toNat, 1), (fb.toNat, 1), (fd.toNat, 1)]
  | .vdot4E4m3 fb fa fd _ => regs [(fa.toNat, 1), (fb.toNat, 1), (fd.toNat, 1)]
  | .vdot4E5m2 fb fa fd _ => regs [(fa.toNat, 1), (fb.toNat, 1), (fd.toNat, 1)]
  | .vdot8Q4x fb fa fd _ => regs [(fa.toNat, 1), (fb.toNat, 1), (fd.toNat, 1)]
  | .vdot8I4 fb fa fd _ => regs [(fa.toNat, 1), (fb.toNat, 1), (fd.toNat, 1)]
  | .rsvinit _ _ => plain
  | .rsvupd fb fa _ _ => ⟨chk [past fa 2, past fb 2], [(fa.toNat, 2), (fb.toNat, 2)], none, .any, .no⟩
  | .rsvmrg fb fa _ _ => ⟨chk [past fa 4, past fb 2], [(fa.toNat, 4), (fb.toNat, 2)], none, .any, .no⟩
  | .rsvfin _ fd _ => ⟨chk [past fd 2], [(fd.toNat, 2)], none, .any, .no⟩
  | .rsvrd _ fd _ => ⟨chk [past fd 4], [(fd.toNat, 4)], none, .any, .no⟩
  | .rsvwr fa _ _ => ⟨chk [past fa 4], [(fa.toNat, 4)], none, .any, .no⟩
  | .raytri fb fa fd _ => ⟨chk [past fa 7, past fb 9, past fd 3], [(fa.toNat, 7), (fb.toNat, 9), (fd.toNat, 3)], none, .any, .no⟩
  | .raybox fb fa fd _ => ⟨chk [past fa 7, past fb 6, past fd 2], [(fa.toNat, 7), (fb.toNat, 6), (fd.toNat, 2)], none, .any, .no⟩
  | .mma _ ff fc _ _ _ fa fy fp => ⟨chk [(decide (fy = 7), .badType), (decide (8 ≤ fp.toNat), .badShape), (decide (fp = 7) && decide (fc = 0), .badShape),
      (decide (fa.toNat % mmaRegs fy ≠ 0), .badAlign)],
    [(fa.toNat, mmaRegs fy * (if 6 ≤ fp.toNat then 2 else 1))], some (decide (ff = 1)), .any, .lanes (mmaWidth fp)⟩
  | .obres _ _ => plain
  | .obfree _ => plain
  | .acczero _ => plain
  | .accrd ff _ fd _ => flagged ff [(fd.toNat, 1)]
  | .accwr _ fv _ => regs [(fv.toNat, 1)]
  | .sptile _ _ => plain
  | .chartpf fp _ => ⟨chk [(decide (8 ≤ fp.toNat), .badShape)], [], none, .any, .no⟩
  | .chartinv _ => plain
  | .chartq ff _ fp _ => ⟨chk [(decide (8 ≤ fp.toNat), .badShape)], [], some (decide (ff = 1)), .any, .no⟩
  | .talloc _ fu _ => ⟨chk [(decide (fu = 0) || decide (16 < fu.toNat), .badUnits)], [], none, .any, .no⟩
  | .tfree _ => plain
  | .sadd _ _ _ => plain
  | .ssub _ _ _ => plain
  | .smul _ _ _ => plain
  | .smulh _ _ _ => plain
  | .smulhu _ _ _ => plain
  | .sand _ _ _ => plain
  | .sor _ _ _ => plain
  | .sxor _ _ _ => plain
  | .sandn _ _ _ => plain
  | .sshl _ _ _ => plain
  | .sshrl _ _ _ => plain
  | .sshra _ _ _ => plain
  | .smin _ _ _ => plain
  | .smax _ _ _ => plain
  | .sminu _ _ _ => plain
  | .smaxu _ _ _ => plain
  | .sseq _ _ _ => plain
  | .ssne _ _ _ => plain
  | .sslt _ _ _ => plain
  | .ssltu _ _ _ => plain
  | .ssle _ _ _ => plain
  | .ssleu _ _ _ => plain
  | .spopc _ _ => plain
  | .sclz _ _ => plain
  | .sctz _ _ => plain
  | .sbrev _ _ => plain
  | .smov _ _ => plain
  | .slea2 _ _ _ => plain
  | .slea3 _ _ _ => plain
  | .saddi _ _ _ => plain
  | .sandi _ _ _ => plain
  | .sori _ _ _ => plain
  | .sxori _ _ _ => plain
  | .sshli _ _ _ => plain
  | .sshrli _ _ _ => plain
  | .sshrai _ _ _ => plain
  | .sslti _ _ _ => plain
  | .smuli _ _ _ => plain
  | .sinsh _ _ _ => plain
  | .smovh _ _ _ => plain
  | .sbfxu fw _ _ _ => ⟨chk [(decide (64 < fw.toNat), .badWidth)], [], none, .any, .no⟩
  | .sbfx fw _ _ _ => ⟨chk [(decide (64 < fw.toNat), .badWidth)], [], none, .any, .no⟩
  | .sbfi fw _ _ _ => ⟨chk [(decide (64 < fw.toNat), .badWidth)], [], none, .any, .no⟩
  | .bra _ => ⟨none, [], none, .last, .no⟩
  | .brnz _ _ => ⟨none, [], none, .last, .no⟩
  | .brz _ _ => ⟨none, [], none, .last, .no⟩
  | .brm _ _ => ⟨none, [], none, .last, .no⟩
  | .join fc => ⟨chk [(decide (21 ≤ fc.toNat) && decide (fc.toNat ≤ 30), .badTimeout)], [], none, .first, .no⟩
  | .call _ => ⟨none, [], none, .last, .no⟩
  | .callr _ => ⟨none, [], none, .last, .no⟩
  | .ret _ => ⟨none, [], none, .last, .no⟩
  | .loop _ _ => ⟨none, [], none, .last, .no⟩
  | .loopi _ _ => ⟨none, [], none, .last, .no⟩
  | .exit => ⟨none, [], none, .last, .no⟩
  | .trap _ => plain
  | .bkpt _ => plain
  | .yield _ => plain
  | .fuse fw => ⟨chk [(decide (6 ≤ fw.toNat), .badWidth)], [], none, .any, if fw = 5 then .full else .lanes (4 * 2 ^ fw.toNat)⟩
  | .nop => plain
  | .sread _ fs => ⟨chk [(!selReadable fs.toNat, .badSelector)], [], none, .any, .no⟩
  | .swrite _ fs => ⟨chk [(!selWritable fs.toNat, .badSelector)], [], none, .any, .no⟩
  | .acquire => plain
  | .release => plain
  | .tqinit _ _ => plain
  | .tqtake _ fd => ⟨chk [pair fd], [], none, .any, .no⟩
  | .launch _ fa => ⟨chk [pair fa], [(fa.toNat, 2)], none, .any, .no⟩
  | .sleep _ => plain
  | .gettime fd => ⟨chk [pair fd], [], none, .any, .no⟩
  | .vld _ _ fz _ fd ff => ⟨sizeChk fz fd, [(fd.toNat, sizeRegs fz)], some (decide (ff = 1)), .any, .no⟩
  | .vst _ _ fz _ fs => ⟨sizeChk fz fs, [(fs.toNat, sizeRegs fz)], none, .any, .no⟩
  | .sld _ fz _ fd => ⟨chk [(decide (fz = 7), .badSize), (decide (fz = 6) && odd fd, .oddPair)], [], some false, .any, .no⟩
  | .sst _ fz _ fd => ⟨chk [(decide (fz = 7), .badSize), (decide (fz = 6) && odd fd, .oddPair)], [], none, .any, .no⟩
  | .ldl _ fz fa fd ff => ⟨sizeChk fz fd, [(fa.toNat, 1), (fd.toNat, sizeRegs fz)], some (decide (ff = 1)), .any, .no⟩
  | .stl _ fz fa fs => ⟨sizeChk fz fs, [(fa.toNat, 1), (fs.toNat, sizeRegs fz)], none, .any, .no⟩
  | .atoml fo fb fa fd ff => ⟨chk [(decide (fo = 7) && odd fb, .oddPair)], [(fa.toNat, 1), (fb.toNat, if fo = 7 then 2 else 1), (fd.toNat, 1)],
    some (decide (ff = 1)), .any, .no⟩
  | .atomg fc fz fo fb _ _ ff => ⟨chk [(decide (fc = 3), .badScope), (decide (fo = 7) && decide (fz = 1), .badSize), (decide (fo = 6) && odd fb, .oddPair)], [],
    some (decide (ff = 1)), .any, .no⟩
  | .atomgv fb fo _ fd ff => ⟨chk [(decide (fo = 6) && odd fb, .oddPair)], [(fb.toNat, if fo = 6 then 2 else 1), (fd.toNat, 1)],
    some (decide (ff = 1)), .any, .no⟩
  | .fence _ fs => ⟨chk [(decide (11 ≤ fs.toNat), .badScope)], [], none, .any, .no⟩
  | .bfence => plain
  | .tcopy _ _ _ => plain
  | .sealBatch _ => plain
  | .waitb _ => plain
  | .gather _ _ _ => plain
  | .putsig _ => plain
  | .pref _ _ _ => plain
  | .barinit _ _ => plain
  | .bararr _ _ => plain
  | .bartx _ _ => plain
  | .barwait _ _ => plain
  | .bartry _ _ _ => plain
  | .gbar _ => plain
  | .bmv ff _ => flagged ff []
  | .bmvacc ff _ => flagged ff []
  | .bstat ff _ _ => flagged ff []
  | .clauseStart => plain
  | .commit => plain
  | .heldAtCommitRelease => plain
  | .pageWalk => plain
  | .longLatencyReturn => plain
  | .accessFailedAfterCommit => plain
  | .issuePick => plain
  | .starvationPromote => plain
  | .spinDemote => plain
  | .spinDemotionExpiry => plain
  | .sleepExpiry => plain
  | .yieldExpiry => plain
  | .missSplit => plain
  | .scalarCopyDone => plain
  | .joinFuse => plain
  | .joinTimeout => plain
  | .joinRelease => plain
  | .widthFuse => plain
  | .fuseTimeout => plain
  | .allotmentGrant => plain
  | .allotmentDeadlockPreempt => plain
  | .gbarRelease => plain
  | .trapStop => plain
  | .trapRecordWrite => plain
  | .breakpointMatch => plain
  | .stepTimeout => plain
  | .waveRetire => plain
  | .matrixQueueHeadStart => plain
  | .mmaArrayStart => plain
  | .matrixOpComplete => plain
  | .matrixFlagClear => plain
  | .courseMmaDispatch => plain
  | .chartCompileStart => plain
  | .chartCompileEnd => plain
  | .copyGranule => plain
  | .copyFailure => plain
  | .gatherElement => plain
  | .putsigSignal => plain
  | .bankUnitGroup => plain
  | .bmvComplete => plain
  | .homeSliceStore => plain
  | .homeSliceLoad => plain
  | .pulseTick => plain
  | .spanLeave => plain
  | .packetAccept => plain
  | .groupAdmit => plain
  | .launchComplete => plain
  | .preemptRequest => plain
  | .preemptSave => plain
  | .preemptFail => plain
  | .groupRestore => plain
  | .qctlWrite => plain
  | .qdoorbellWrite => plain
  | .invcmdWrite => plain
  | .invalidationComplete => plain
  | .apfaultWrite => plain
  | .bar2Read => plain
  | .bar2Write => plain
  | .pulsecfgWrite => plain
  | .pwrcapWrite => plain
  | .spanctlWrite => plain
  | .cntdataWrite => plain
  | .registerWrite => plain
  | .fundamentalReset => plain
  | .bootComplete => plain
  | .functionLevelReset => plain
  | .decodeTableUpdate => plain
  | .powerWindow => plain
  | .thermalStop => plain
  | .wearUpdate => plain
  | .uncorrectableError => plain
  | .correctedErrorRecord => plain
  | .linkReplay => plain
  | .linkOperationFailure => plain
  | .spanRequest => plain
  | .stallSample => plain
  | .dbgHaltWave => plain
  | .dbgHaltGroup => plain
  | .dbgResume => plain
  | .dbgStep => plain
  | .dbgKillWave => plain
  | .dbgKillGroup => plain
  | .dbgSave => plain
  | .dbgInvalidCommand => plain
  | .getVersion => plain
  | .getCapabilities => plain
  | .negotiateAlgorithms => plain
  | .getDigests => plain
  | .getCertificate => plain
  | .challenge => plain
  | .getMeasurements => plain
  | .storeTimeReturn => plain
  | .tickCompletion => plain
  | .portRetrain => plain
  | .msixVectorUnmask => plain
  | .coreClockStop => plain
  | .coreClockRestart => plain

/-- The first illegal field of an instruction (03 R90). -/
def illegal (i : Instr) : Option Bad := (form i).bad

end Machine

end Sys2Proof
end

