-- ==== Sys2Proof/WellFormed.lean ====
section
/-! DEFINITION. Well-formed instructions: those whose fields break no rule that the words alone decide (03 R90). What a
clause or a wave adds (allotment, selected flag, placement) is checked in Machine/Ops.lean. -/

namespace Sys2Proof

/-- Every field of the instruction is legal (03 R90). -/
def Instr.wf (i : Instr) : Bool := Sys2Proof.Machine.illegal i == none

end Sys2Proof
end

