-- ==== Sys2Proof/Decode.lean ====
section
/-! DEFINITION. Decoding of instruction words (03 R76, R86 to R90) and, after it, the encoder. The decoder is total on any
bytes and refuses by name; it never gives a reserved or illegal pattern to a neighbour. -/

namespace Sys2Proof

/-- Bits hi down to lo of a word (00 R4). -/
def fld (w hi lo : Nat) : Nat := w / 2 ^ lo % 2 ^ (hi + 1 - lo)

/-- The `n` bits of a word from bit `lo`, as a field. -/
def fb (w n lo : Nat) : BitVec n := BitVec.ofNat n (w / 2 ^ lo)

/-- Refuses when a must-be-zero range is not 0 (03 R87, R90). -/
def zer (l : List Nat) (i : Instr) : Except Bad Instr := if l.all (· == 0) then .ok i else .error .mustBeZero

/-- Major 0x10: the minor in bits 31 to 29 (03 R89). -/
def minor10 (w : Nat) : Except Bad Instr :=
  match fld w 31 29 with
  | 0 => .ok (.vadd (fb w 7 22) (fb w 7 15) (fb w 7 8) (fb w 1 7))
  | 1 => .ok (.vsub (fb w 7 22) (fb w 7 15) (fb w 7 8) (fb w 1 7))
  | 2 => .ok (.vmullo (fb w 7 22) (fb w 7 15) (fb w 7 8) (fb w 1 7))
  | 3 => .ok (.vmulhi (fb w 7 22) (fb w 7 15) (fb w 7 8) (fb w 1 7))
  | 4 => .ok (.vmulhu (fb w 7 22) (fb w 7 15) (fb w 7 8) (fb w 1 7))
  | 5 => .ok (.vmad (fb w 7 22) (fb w 7 15) (fb w 7 8) (fb w 1 7))
  | 6 => .ok (.vaddsat (fb w 7 22) (fb w 7 15) (fb w 7 8) (fb w 1 7))
  | _ => .ok (.vsubsat (fb w 7 22) (fb w 7 15) (fb w 7 8) (fb w 1 7))

/-- Major 0x11: the minor in bits 31 to 29 (03 R89). -/
def minor11 (w : Nat) : Except Bad Instr :=
  match fld w 31 29 with
  | 0 => .ok (.vmin (fb w 7 22) (fb w 7 15) (fb w 7 8) (fb w 1 7))
  | 1 => .ok (.vmax (fb w 7 22) (fb w 7 15) (fb w 7 8) (fb w 1 7))
  | 2 => .ok (.vminu (fb w 7 22) (fb w 7 15) (fb w 7 8) (fb w 1 7))
  | 3 => .ok (.vmaxu (fb w 7 22) (fb w 7 15) (fb w 7 8) (fb w 1 7))
  | 4 => .ok (.vand (fb w 7 22) (fb w 7 15) (fb w 7 8) (fb w 1 7))
  | 5 => .ok (.vor (fb w 7 22) (fb w 7 15) (fb w 7 8) (fb w 1 7))
  | 6 => .ok (.vxor (fb w 7 22) (fb w 7 15) (fb w 7 8) (fb w 1 7))
  | _ => .ok (.vandn (fb w 7 22) (fb w 7 15) (fb w 7 8) (fb w 1 7))

/-- Major 0x12: the minor in bits 31 to 29 (03 R89). -/
def minor12 (w : Nat) : Except Bad Instr :=
  match fld w 31 29 with
  | 0 => .ok (.vshl (fb w 7 22) (fb w 7 15) (fb w 7 8) (fb w 1 7))
  | 1 => .ok (.vshrl (fb w 7 22) (fb w 7 15) (fb w 7 8) (fb w 1 7))
  | 2 => .ok (.vshra (fb w 7 22) (fb w 7 15) (fb w 7 8) (fb w 1 7))
  | 3 => .ok (.vrotl (fb w 7 22) (fb w 7 15) (fb w 7 8) (fb w 1 7))
  | 4 => zer [fld w 28 22] (.vpopc (fb w 7 15) (fb w 7 8) (fb w 1 7))
  | 5 => zer [fld w 28 22] (.vclz (fb w 7 15) (fb w 7 8) (fb w 1 7))
  | 6 => zer [fld w 28 22] (.vbrev (fb w 7 15) (fb w 7 8) (fb w 1 7))
  | _ => zer [fld w 28 22] (.vabs (fb w 7 15) (fb w 7 8) (fb w 1 7))

/-- Major 0x13: the minor in bits 24 to 22 (03 R89). -/
def minor13 (w : Nat) : Except Bad Instr :=
  match fld w 24 22 with
  | 0 => .ok (.vaddi (fb w 7 25) (fb w 7 15) (fb w 7 8) (fb w 1 7))
  | 1 => zer [fld w 31 30] (.vshli (fb w 5 25) (fb w 7 15) (fb w 7 8) (fb w 1 7))
  | 2 => zer [fld w 31 30] (.vshrli (fb w 5 25) (fb w 7 15) (fb w 7 8) (fb w 1 7))
  | 3 => zer [fld w 31 30] (.vshrai (fb w 5 25) (fb w 7 15) (fb w 7 8) (fb w 1 7))
  | 4 => .ok (.vandi (fb w 7 25) (fb w 7 15) (fb w 7 8) (fb w 1 7))
  | 5 => .ok (.vori (fb w 7 25) (fb w 7 15) (fb w 7 8) (fb w 1 7))
  | 6 => .ok (.vxori (fb w 7 25) (fb w 7 15) (fb w 7 8) (fb w 1 7))
  | _ => .ok (.vmuli (fb w 7 25) (fb w 7 15) (fb w 7 8) (fb w 1 7))

/-- Major 0x15: the minor in bits 31 to 29 (03 R89). -/
def minor15 (w : Nat) : Except Bad Instr :=
  match fld w 31 29 with
  | 0 => zer [fld w 28 21] (.vmovs (fb w 6 15) (fb w 7 8) (fb w 1 7))
  | 1 => zer [fld w 28 21] (.vmovsh (fb w 6 15) (fb w 7 8) (fb w 1 7))
  | 2 => zer [fld w 28 15] (.vlane (fb w 7 8) (fb w 1 7))
  | 3 => zer [fld w 28 28, fld w 14 14] (.vgetl (fb w 6 22) (fb w 7 15) (fb w 6 8) (fb w 1 7))
  | 4 => zer [fld w 28 28, fld w 21 21] (.vsetl (fb w 6 22) (fb w 6 15) (fb w 7 8) (fb w 1 7))
  | _ => .error .reserved

/-- Major 0x1D: the minor in bits 31 to 29 (03 R89). -/
def minor1D (w : Nat) : Except Bad Instr :=
  match fld w 31 29 with
  | 0 => .ok (.vpkF16 (fb w 7 22) (fb w 7 15) (fb w 7 8) (fb w 1 7))
  | 1 => .ok (.vpkBf16 (fb w 7 22) (fb w 7 15) (fb w 7 8) (fb w 1 7))
  | 2 => .ok (.vpkb (fb w 7 22) (fb w 7 15) (fb w 7 8) (fb w 1 7))
  | 3 => .ok (.vpkbh (fb w 7 22) (fb w 7 15) (fb w 7 8) (fb w 1 7))
  | 4 => zer [fld w 28 22] (.vupkF16l (fb w 7 15) (fb w 7 8) (fb w 1 7))
  | 5 => zer [fld w 28 22] (.vupkF16h (fb w 7 15) (fb w 7 8) (fb w 1 7))
  | 6 => zer [fld w 28 22] (.vupkBf16l (fb w 7 15) (fb w 7 8) (fb w 1 7))
  | _ => zer [fld w 28 22] (.vupkBf16h (fb w 7 15) (fb w 7 8) (fb w 1 7))

/-- Major 0x1E: the minor in bits 31 to 29 (03 R89). -/
def minor1E (w : Nat) : Except Bad Instr :=
  match fld w 31 29 with
  | 0 => zer [fld w 28 22] (.vrcp (fb w 7 15) (fb w 7 8) (fb w 1 7))
  | 1 => zer [fld w 28 22] (.vrsq (fb w 7 15) (fb w 7 8) (fb w 1 7))
  | 2 => zer [fld w 28 22] (.vsqrt (fb w 7 15) (fb w 7 8) (fb w 1 7))
  | 3 => zer [fld w 28 22] (.vexp2 (fb w 7 15) (fb w 7 8) (fb w 1 7))
  | 4 => zer [fld w 28 22] (.vlog2 (fb w 7 15) (fb w 7 8) (fb w 1 7))
  | 5 => zer [fld w 28 22] (.vsin (fb w 7 15) (fb w 7 8) (fb w 1 7))
  | 6 => zer [fld w 28 22] (.vcos (fb w 7 15) (fb w 7 8) (fb w 1 7))
  | _ => zer [fld w 28 22] (.vtanh (fb w 7 15) (fb w 7 8) (fb w 1 7))

/-- Major 0x1F: the minor in bits 31 to 29 (03 R89). -/
def minor1F (w : Nat) : Except Bad Instr :=
  match fld w 31 29 with
  | 0 => .ok (.vminF32 (fb w 7 22) (fb w 7 15) (fb w 7 8) (fb w 1 7))
  | 1 => .ok (.vmaxF32 (fb w 7 22) (fb w 7 15) (fb w 7 8) (fb w 1 7))
  | 2 => .ok (.vminF16x2 (fb w 7 22) (fb w 7 15) (fb w 7 8) (fb w 1 7))
  | 3 => .ok (.vmaxF16x2 (fb w 7 22) (fb w 7 15) (fb w 7 8) (fb w 1 7))
  | 4 => .ok (.vminBf16x2 (fb w 7 22) (fb w 7 15) (fb w 7 8) (fb w 1 7))
  | 5 => .ok (.vmaxBf16x2 (fb w 7 22) (fb w 7 15) (fb w 7 8) (fb w 1 7))
  | 6 => .ok (.vcopysignF32 (fb w 7 22) (fb w 7 15) (fb w 7 8) (fb w 1 7))
  | _ => zer [fld w 28 22] (.vclassF32 (fb w 7 15) (fb w 7 8) (fb w 1 7))

/-- Major 0x20: the minor in bits 31 to 29 (03 R89). -/
def minor20 (w : Nat) : Except Bad Instr :=
  match fld w 31 29 with
  | 0 => .ok (.vshuf (fb w 7 22) (fb w 7 15) (fb w 7 8) (fb w 1 7))
  | 1 => .ok (.vswz (fb w 7 22) (fb w 7 15) (fb w 7 8) (fb w 1 7))
  | 2 => zer [fld w 28 28] (.vbcast (fb w 6 22) (fb w 7 15) (fb w 7 8) (fb w 1 7))
  | 3 => zer [fld w 28 22] (.vscanI32 (fb w 7 15) (fb w 7 8) (fb w 1 7))
  | 4 => zer [fld w 28 22] (.vscanF32 (fb w 7 15) (fb w 7 8) (fb w 1 7))
  | 5 => zer [fld w 28 22] (.vconflict (fb w 7 15) (fb w 7 8) (fb w 1 7))
  | 6 => .ok (.vcombineF32 (fb w 7 22) (fb w 7 15) (fb w 7 8) (fb w 1 7))
  | _ => .ok (.vcombineI32 (fb w 7 22) (fb w 7 15) (fb w 7 8) (fb w 1 7))

/-- Major 0x21: the minor in bits 31 to 29 (03 R89). -/
def minor21 (w : Nat) : Except Bad Instr :=
  match fld w 31 29 with
  | 0 => zer [fld w 28 22, fld w 14 14] (.vredaddI32 (fb w 7 15) (fb w 6 8) (fb w 1 7))
  | 1 => zer [fld w 28 22, fld w 14 14] (.vredaddF32 (fb w 7 15) (fb w 6 8) (fb w 1 7))
  | 2 => zer [fld w 28 22, fld w 14 14] (.vredmaxF32 (fb w 7 15) (fb w 6 8) (fb w 1 7))
  | 3 => zer [fld w 28 22, fld w 14 14] (.vredminF32 (fb w 7 15) (fb w 6 8) (fb w 1 7))
  | 4 => zer [fld w 28 22, fld w 14 14] (.vredmaxI32 (fb w 7 15) (fb w 6 8) (fb w 1 7))
  | 5 => zer [fld w 28 22, fld w 14 14] (.vredminI32 (fb w 7 15) (fb w 6 8) (fb w 1 7))
  | 6 => zer [fld w 28 22, fld w 14 14] (.vredand (fb w 7 15) (fb w 6 8) (fb w 1 7))
  | _ => zer [fld w 28 22, fld w 14 14] (.vredor (fb w 7 15) (fb w 6 8) (fb w 1 7))

/-- Major 0x22: the minor in bits 31 to 29 (03 R89). -/
def minor22 (w : Nat) : Except Bad Instr :=
  match fld w 31 29 with
  | 0 => .ok (.visect (fb w 7 22) (fb w 7 15) (fb w 7 8) (fb w 1 7))
  | 1 => .ok (.smxupd (fb w 7 22) (fb w 7 15) (fb w 7 8) (fb w 1 7))
  | 2 => .ok (.smxfin (fb w 7 22) (fb w 7 15) (fb w 7 8) (fb w 1 7))
  | 3 => zer [fld w 28 28] (.vrand (fb w 6 22) (fb w 7 15) (fb w 7 8) (fb w 1 7))
  | 4 => zer [fld w 28 28] (.vrandu (fb w 6 22) (fb w 7 15) (fb w 7 8) (fb w 1 7))
  | _ => .error .reserved

/-- Major 0x23: the minor in bits 31 to 29 (03 R89). -/
def minor23 (w : Nat) : Except Bad Instr :=
  match fld w 31 29 with
  | 0 => .ok (.vdot2F16 (fb w 7 22) (fb w 7 15) (fb w 7 8) (fb w 1 7))
  | 1 => .ok (.vdot2Bf16 (fb w 7 22) (fb w 7 15) (fb w 7 8) (fb w 1 7))
  | 2 => .ok (.vdot4I8 (fb w 7 22) (fb w 7 15) (fb w 7 8) (fb w 1 7))
  | 3 => .ok (.vdot4Ui8 (fb w 7 22) (fb w 7 15) (fb w 7 8) (fb w 1 7))
  | 4 => .ok (.vdot4E4m3 (fb w 7 22) (fb w 7 15) (fb w 7 8) (fb w 1 7))
  | 5 => .ok (.vdot4E5m2 (fb w 7 22) (fb w 7 15) (fb w 7 8) (fb w 1 7))
  | 6 => .ok (.vdot8Q4x (fb w 7 22) (fb w 7 15) (fb w 7 8) (fb w 1 7))
  | _ => .ok (.vdot8I4 (fb w 7 22) (fb w 7 15) (fb w 7 8) (fb w 1 7))

/-- Major 0x24: the minor in bits 31 to 29 (03 R89). -/
def minor24 (w : Nat) : Except Bad Instr :=
  match fld w 31 29 with
  | 0 => zer [fld w 28 9] (.rsvinit (fb w 1 8) (fb w 1 7))
  | 1 => zer [fld w 14 9] (.rsvupd (fb w 7 22) (fb w 7 15) (fb w 1 8) (fb w 1 7))
  | 2 => zer [fld w 14 9] (.rsvmrg (fb w 7 22) (fb w 7 15) (fb w 1 8) (fb w 1 7))
  | 3 => zer [fld w 28 23, fld w 21 15] (.rsvfin (fb w 1 22) (fb w 7 8) (fb w 1 7))
  | 4 => zer [fld w 28 23, fld w 21 15] (.rsvrd (fb w 1 22) (fb w 7 8) (fb w 1 7))
  | 5 => zer [fld w 28 22, fld w 14 9] (.rsvwr (fb w 7 15) (fb w 1 8) (fb w 1 7))
  | _ => .error .reserved

/-- Major 0x25: the minor in bits 31 to 29 (03 R89). -/
def minor25 (w : Nat) : Except Bad Instr :=
  match fld w 31 29 with
  | 0 => .ok (.raytri (fb w 7 22) (fb w 7 15) (fb w 7 8) (fb w 1 7))
  | 1 => .ok (.raybox (fb w 7 22) (fb w 7 15) (fb w 7 8) (fb w 1 7))
  | _ => .error .reserved

/-- Major 0x27: the minor in bits 10 to 7 (03 R89). -/
def minor27 (w : Nat) : Except Bad Instr :=
  match fld w 10 7 with
  | 0 => zer [fld w 31 20] (.obres (fb w 6 14) (fb w 3 11))
  | 1 => zer [fld w 31 14] (.obfree (fb w 3 11))
  | 2 => zer [fld w 31 15] (.acczero (fb w 4 11))
  | 3 => zer [fld w 30 28] (.accrd (fb w 1 31) (fb w 4 24) (fb w 7 17) (fb w 6 11))
  | 4 => zer [fld w 31 28] (.accwr (fb w 4 24) (fb w 7 17) (fb w 6 11))
  | 5 => zer [fld w 31 20] (.sptile (fb w 6 14) (fb w 3 11))
  | 6 => zer [fld w 31 18] (.chartpf (fb w 4 14) (fb w 3 11))
  | 7 => zer [fld w 31 14] (.chartinv (fb w 3 11))
  | 8 => zer [fld w 30 24] (.chartq (fb w 1 31) (fb w 6 18) (fb w 4 14) (fb w 3 11))
  | 9 => zer [fld w 31 21] (.talloc (fb w 1 20) (fb w 5 15) (fb w 4 11))
  | 10 => zer [fld w 31 15] (.tfree (fb w 4 11))
  | _ => .error .reserved

/-- Major 0x28: the minor in bits 31 to 25 (03 R89). -/
def minor28 (w : Nat) : Except Bad Instr :=
  match fld w 31 25 with
  | 0 => .ok (.sadd (fb w 6 19) (fb w 6 13) (fb w 6 7))
  | 1 => .ok (.ssub (fb w 6 19) (fb w 6 13) (fb w 6 7))
  | 2 => .ok (.smul (fb w 6 19) (fb w 6 13) (fb w 6 7))
  | 3 => .ok (.smulh (fb w 6 19) (fb w 6 13) (fb w 6 7))
  | 4 => .ok (.smulhu (fb w 6 19) (fb w 6 13) (fb w 6 7))
  | 5 => .ok (.sand (fb w 6 19) (fb w 6 13) (fb w 6 7))
  | 6 => .ok (.sor (fb w 6 19) (fb w 6 13) (fb w 6 7))
  | 7 => .ok (.sxor (fb w 6 19) (fb w 6 13) (fb w 6 7))
  | 8 => .ok (.sandn (fb w 6 19) (fb w 6 13) (fb w 6 7))
  | 9 => .ok (.sshl (fb w 6 19) (fb w 6 13) (fb w 6 7))
  | 10 => .ok (.sshrl (fb w 6 19) (fb w 6 13) (fb w 6 7))
  | 11 => .ok (.sshra (fb w 6 19) (fb w 6 13) (fb w 6 7))
  | 12 => .ok (.smin (fb w 6 19) (fb w 6 13) (fb w 6 7))
  | 13 => .ok (.smax (fb w 6 19) (fb w 6 13) (fb w 6 7))
  | 14 => .ok (.sminu (fb w 6 19) (fb w 6 13) (fb w 6 7))
  | 15 => .ok (.smaxu (fb w 6 19) (fb w 6 13) (fb w 6 7))
  | 16 => .ok (.sseq (fb w 6 19) (fb w 6 13) (fb w 6 7))
  | 17 => .ok (.ssne (fb w 6 19) (fb w 6 13) (fb w 6 7))
  | 18 => .ok (.sslt (fb w 6 19) (fb w 6 13) (fb w 6 7))
  | 19 => .ok (.ssltu (fb w 6 19) (fb w 6 13) (fb w 6 7))
  | 20 => .ok (.ssle (fb w 6 19) (fb w 6 13) (fb w 6 7))
  | 21 => .ok (.ssleu (fb w 6 19) (fb w 6 13) (fb w 6 7))
  | 22 => zer [fld w 24 19] (.spopc (fb w 6 13) (fb w 6 7))
  | 23 => zer [fld w 24 19] (.sclz (fb w 6 13) (fb w 6 7))
  | 24 => zer [fld w 24 19] (.sctz (fb w 6 13) (fb w 6 7))
  | 25 => zer [fld w 24 19] (.sbrev (fb w 6 13) (fb w 6 7))
  | 26 => zer [fld w 24 19] (.smov (fb w 6 13) (fb w 6 7))
  | 27 => .ok (.slea2 (fb w 6 19) (fb w 6 13) (fb w 6 7))
  | 28 => .ok (.slea3 (fb w 6 19) (fb w 6 13) (fb w 6 7))
  | _ => .error .reserved

/-- Major 0x2A: the minor in bits 21 to 19 (03 R89). -/
def minor2A (w : Nat) : Except Bad Instr :=
  match fld w 21 19 with
  | 0 => .ok (.sandi (fb w 10 22) (fb w 6 13) (fb w 6 7))
  | 1 => .ok (.sori (fb w 10 22) (fb w 6 13) (fb w 6 7))
  | 2 => .ok (.sxori (fb w 10 22) (fb w 6 13) (fb w 6 7))
  | 3 => zer [fld w 31 28] (.sshli (fb w 6 22) (fb w 6 13) (fb w 6 7))
  | 4 => zer [fld w 31 28] (.sshrli (fb w 6 22) (fb w 6 13) (fb w 6 7))
  | 5 => zer [fld w 31 28] (.sshrai (fb w 6 22) (fb w 6 13) (fb w 6 7))
  | 6 => .ok (.sslti (fb w 10 22) (fb w 6 13) (fb w 6 7))
  | _ => .ok (.smuli (fb w 10 22) (fb w 6 13) (fb w 6 7))

/-- Major 0x2B: the minor in bits 31 to 31 (03 R89). -/
def minor2B (w : Nat) : Except Bad Instr :=
  match fld w 31 31 with
  | 0 => .ok (.sinsh (fb w 16 15) (fb w 2 13) (fb w 6 7))
  | _ => .ok (.smovh (fb w 16 15) (fb w 2 13) (fb w 6 7))

/-- Major 0x2F: the minor in bits 10 to 7 (03 R89). -/
def minor2F (w : Nat) : Except Bad Instr :=
  match fld w 10 7 with
  | 0 => .ok (.bra (fb w 21 11))
  | 1 => .ok (.brnz (fb w 15 17) (fb w 6 11))
  | 2 => .ok (.brz (fb w 15 17) (fb w 6 11))
  | 3 => .ok (.brm (fb w 15 17) (fb w 6 11))
  | 4 => zer [fld w 31 16] (.join (fb w 5 11))
  | 5 => .ok (.call (fb w 21 11))
  | 6 => zer [fld w 31 17] (.callr (fb w 6 11))
  | 7 => zer [fld w 31 17] (.ret (fb w 6 11))
  | 8 => .ok (.loop (fb w 15 17) (fb w 6 11))
  | 9 => .ok (.loopi (fb w 11 21) (fb w 10 11))
  | 10 => zer [fld w 31 11] (.exit)
  | 11 => zer [fld w 31 27] (.trap (fb w 16 11))
  | 12 => zer [fld w 31 27] (.bkpt (fb w 16 11))
  | 13 => zer [fld w 31 19] (.yield (fb w 8 11))
  | 14 => zer [fld w 31 14] (.fuse (fb w 3 11))
  | _ => zer [fld w 31 11] (.nop)

/-- Major 0x30: the minor in bits 10 to 7 (03 R89). -/
def minor30 (w : Nat) : Except Bad Instr :=
  match fld w 10 7 with
  | 0 => zer [fld w 31 27] (.sread (fb w 6 21) (fb w 10 11))
  | 1 => zer [fld w 31 27] (.swrite (fb w 6 21) (fb w 10 11))
  | 2 => zer [fld w 31 11] (.acquire)
  | 3 => zer [fld w 31 11] (.release)
  | 4 => zer [fld w 31 23] (.tqinit (fb w 6 17) (fb w 6 11))
  | 5 => zer [fld w 31 23] (.tqtake (fb w 6 17) (fb w 6 11))
  | 6 => zer [fld w 31 24] (.launch (fb w 6 18) (fb w 7 11))
  | 7 => zer [fld w 31 27] (.sleep (fb w 16 11))
  | 8 => zer [fld w 31 17] (.gettime (fb w 6 11))
  | _ => .error .reserved

/-- Major 0x3A: the minor in bits 13 to 13 (03 R89). -/
def minor3A (w : Nat) : Except Bad Instr :=
  match fld w 13 13 with
  | 0 => zer [fld w 31 14] (.fence (fb w 2 11) (fb w 4 7))
  | _ => zer [fld w 31 14, fld w 12 7] (.bfence)

/-- Major 0x3B: the minor in bits 10 to 7 (03 R89). The tables give TCOPY and GATHER a field sb that
only BV = 1 uses; DESIGN CHOICE, log entry 105: with BV = 0 every value of it decodes, as an encoding of
the same instruction (unsafe). -/
def minor3B (w : Nat) : Except Bad Instr :=
  match fld w 10 7 with
  | 0 => zer [fld w 31 24] (.tcopy (fb w 1 23) (fb w 6 17) (fb w 6 11))
  | 1 => zer [fld w 31 17] (.sealBatch (fb w 6 11))
  | 2 => zer [fld w 31 17] (.waitb (fb w 6 11))
  | 3 => zer [fld w 31 24] (.gather (fb w 1 23) (fb w 6 17) (fb w 6 11))
  | 4 => zer [fld w 31 17] (.putsig (fb w 6 11))
  | 5 => zer [fld w 31 26] (.pref (fb w 1 25) (fb w 8 17) (fb w 6 11))
  | _ => .error .reserved

/-- Major 0x3C: the minor in bits 10 to 7 (03 R89). -/
def minor3C (w : Nat) : Except Bad Instr :=
  match fld w 10 7 with
  | 0 => zer [fld w 31 23] (.barinit (fb w 6 17) (fb w 6 11))
  | 1 => zer [fld w 31 23] (.bararr (fb w 6 17) (fb w 6 11))
  | 2 => zer [fld w 31 23] (.bartx (fb w 6 17) (fb w 6 11))
  | 3 => zer [fld w 31 23] (.barwait (fb w 6 17) (fb w 6 11))
  | 4 => zer [fld w 31 29] (.bartry (fb w 6 23) (fb w 6 17) (fb w 6 11))
  | 5 => zer [fld w 31 19] (.gbar (fb w 8 11))
  | _ => .error .reserved

/-- Major 0x3D: the minor in bits 10 to 7 (03 R89). -/
def minor3D (w : Nat) : Except Bad Instr :=
  match fld w 10 7 with
  | 0 => zer [fld w 30 17] (.bmv (fb w 1 31) (fb w 6 11))
  | 1 => zer [fld w 30 17] (.bmvacc (fb w 1 31) (fb w 6 11))
  | 2 => zer [fld w 30 23] (.bstat (fb w 1 31) (fb w 6 17) (fb w 6 11))
  | _ => .error .reserved

/-- The fields of a 32-bit pattern, by major (03 R89). -/
def fields32 (w : Nat) : Except Bad Instr :=
  match fld w 6 0 with
  | 1 => .ok (.vaddF32 (fb w 3 29) (fb w 7 22) (fb w 7 15) (fb w 7 8) (fb w 1 7))
  | 3 => .ok (.vsubF32 (fb w 3 29) (fb w 7 22) (fb w 7 15) (fb w 7 8) (fb w 1 7))
  | 5 => .ok (.vmulF32 (fb w 3 29) (fb w 7 22) (fb w 7 15) (fb w 7 8) (fb w 1 7))
  | 7 => .ok (.vfmaF32 (fb w 3 29) (fb w 7 22) (fb w 7 15) (fb w 7 8) (fb w 1 7))
  | 9 => .ok (.vaddF16x2 (fb w 3 29) (fb w 7 22) (fb w 7 15) (fb w 7 8) (fb w 1 7))
  | 11 => .ok (.vsubF16x2 (fb w 3 29) (fb w 7 22) (fb w 7 15) (fb w 7 8) (fb w 1 7))
  | 13 => .ok (.vmulF16x2 (fb w 3 29) (fb w 7 22) (fb w 7 15) (fb w 7 8) (fb w 1 7))
  | 15 => .ok (.vfmaF16x2 (fb w 3 29) (fb w 7 22) (fb w 7 15) (fb w 7 8) (fb w 1 7))
  | 17 => .ok (.vaddBf16x2 (fb w 3 29) (fb w 7 22) (fb w 7 15) (fb w 7 8) (fb w 1 7))
  | 19 => .ok (.vsubBf16x2 (fb w 3 29) (fb w 7 22) (fb w 7 15) (fb w 7 8) (fb w 1 7))
  | 21 => .ok (.vmulBf16x2 (fb w 3 29) (fb w 7 22) (fb w 7 15) (fb w 7 8) (fb w 1 7))
  | 23 => .ok (.vfmaBf16x2 (fb w 3 29) (fb w 7 22) (fb w 7 15) (fb w 7 8) (fb w 1 7))
  | 25 => .ok (.vaddF64 (fb w 3 29) (fb w 7 22) (fb w 7 15) (fb w 7 8) (fb w 1 7))
  | 27 => .ok (.vsubF64 (fb w 3 29) (fb w 7 22) (fb w 7 15) (fb w 7 8) (fb w 1 7))
  | 29 => .ok (.vmulF64 (fb w 3 29) (fb w 7 22) (fb w 7 15) (fb w 7 8) (fb w 1 7))
  | 31 => .ok (.vfmaF64 (fb w 3 29) (fb w 7 22) (fb w 7 15) (fb w 7 8) (fb w 1 7))
  | 33 => minor10 w
  | 35 => minor11 w
  | 37 => minor12 w
  | 39 => minor13 w
  | 41 => .ok (.vmovi (fb w 17 15) (fb w 7 8) (fb w 1 7))
  | 43 => minor15 w
  | 45 => zer [fld w 14 14] (.vcmp (fb w 3 29) (fb w 7 22) (fb w 7 15) (fb w 6 8) (fb w 1 7))
  | 47 => zer [fld w 14 14] (.vcmpf (fb w 3 29) (fb w 7 22) (fb w 7 15) (fb w 6 8) (fb w 1 7))
  | 49 => .ok (.vsel (fb w 3 29) (fb w 7 22) (fb w 7 15) (fb w 7 8) (fb w 1 7))
  | 51 => .ok (.vbfxu (fb w 5 27) (fb w 5 22) (fb w 7 15) (fb w 7 8) (fb w 1 7))
  | 53 => .ok (.vbfx (fb w 5 27) (fb w 5 22) (fb w 7 15) (fb w 7 8) (fb w 1 7))
  | 55 => .ok (.vbfi (fb w 5 27) (fb w 5 22) (fb w 7 15) (fb w 7 8) (fb w 1 7))
  | 57 => .ok (.vcvt (fb w 1 31) (fb w 3 28) (fb w 3 25) (fb w 3 22) (fb w 7 15) (fb w 7 8) (fb w 1 7))
  | 59 => minor1D w
  | 61 => minor1E w
  | 63 => minor1F w
  | 65 => minor20 w
  | 67 => minor21 w
  | 69 => minor22 w
  | 71 => minor23 w
  | 73 => minor24 w
  | 75 => minor25 w
  | 77 => .ok (.mma (fb w 1 31) (fb w 1 30) (fb w 1 29) (fb w 1 28) (fb w 4 24) (fb w 3 21) (fb w 7 14) (fb w 3 11) (fb w 4 7))
  | 79 => minor27 w
  | 81 => minor28 w
  | 83 => .ok (.saddi (fb w 13 19) (fb w 6 13) (fb w 6 7))
  | 85 => minor2A w
  | 87 => minor2B w
  | 89 => .ok (.sbfxu (fb w 7 25) (fb w 6 19) (fb w 6 13) (fb w 6 7))
  | 91 => .ok (.sbfx (fb w 7 25) (fb w 6 19) (fb w 6 13) (fb w 6 7))
  | 93 => .ok (.sbfi (fb w 7 25) (fb w 6 19) (fb w 6 13) (fb w 6 7))
  | 95 => minor2F w
  | 97 => minor30 w
  | 99 => zer [fld w 31 30] (.vld (fb w 1 29) (fb w 5 24) (fb w 3 21) (fb w 6 15) (fb w 7 8) (fb w 1 7))
  | 101 => zer [fld w 31 30, fld w 7 7] (.vst (fb w 1 29) (fb w 5 24) (fb w 3 21) (fb w 6 15) (fb w 7 8))
  | 103 => .ok (.sld (fb w 10 22) (fb w 3 19) (fb w 6 13) (fb w 6 7))
  | 105 => .ok (.sst (fb w 10 22) (fb w 3 19) (fb w 6 13) (fb w 6 7))
  | 107 => .ok (.ldl (fb w 7 25) (fb w 3 22) (fb w 7 15) (fb w 7 8) (fb w 1 7))
  | 109 => zer [fld w 7 7] (.stl (fb w 7 25) (fb w 3 22) (fb w 7 15) (fb w 7 8))
  | 111 => .ok (.atoml (fb w 3 29) (fb w 7 22) (fb w 7 15) (fb w 7 8) (fb w 1 7))
  | 113 => .ok (.atomg (fb w 2 30) (fb w 1 29) (fb w 3 26) (fb w 6 20) (fb w 6 14) (fb w 6 8) (fb w 1 7))
  | 115 => zer [fld w 31 31] (.atomgv (fb w 7 24) (fb w 3 21) (fb w 6 15) (fb w 7 8) (fb w 1 7))
  | 117 => minor3A w
  | 119 => minor3B w
  | 121 => minor3C w
  | 123 => minor3D w
  | 127 => .error .header
  | _ => .error .reserved

/-- A 16-bit form (03 R86): every pattern with bit 0 clear is an instruction. -/
def fields16 (w : Nat) : Instr :=
  match fld w 4 1 with
  | 0 => .vmov16 (fb w 5 11) (fb w 6 5)
  | 1 => .vadd16 (fb w 5 11) (fb w 6 5)
  | 2 => .vsub16 (fb w 5 11) (fb w 6 5)
  | 3 => .vmullo16 (fb w 5 11) (fb w 6 5)
  | 4 => .vand16 (fb w 5 11) (fb w 6 5)
  | 5 => .vor16 (fb w 5 11) (fb w 6 5)
  | 6 => .vxor16 (fb w 5 11) (fb w 6 5)
  | 7 => .vshl16 (fb w 5 11) (fb w 6 5)
  | 8 => .vshrl16 (fb w 5 11) (fb w 6 5)
  | 9 => .vshra16 (fb w 5 11) (fb w 6 5)
  | 10 => .vaddF3216 (fb w 5 11) (fb w 6 5)
  | 11 => .vsubF3216 (fb w 5 11) (fb w 6 5)
  | 12 => .vmulF3216 (fb w 5 11) (fb w 6 5)
  | 13 => .vmaxF3216 (fb w 5 11) (fb w 6 5)
  | 14 => .vminF3216 (fb w 5 11) (fb w 6 5)
  | _ => .vmax16 (fb w 5 11) (fb w 6 5)

/-- A 32-bit pattern: its fields, then the checks of 03 R90 on them. -/
def decode32 (w : Nat) : Except Bad Instr :=
  match fields32 w with
  | .error b => .error b
  | .ok i => match Sys2Proof.Machine.illegal i with
    | some b => .error b
    | none => .ok i

/-- Decodes the instruction at the front of a list of bytes; gives it with the rest of the list (03 R76). -/
def decode : List Byte → Except Bad (Instr × List Byte)
  | b0 :: b1 :: rest =>
    if b0.toNat % 2 = 0 then .ok (fields16 (b0.toNat + 256 * b1.toNat), rest)
    else match rest with
      | b2 :: b3 :: rest' =>
        match decode32 (b0.toNat + 256 * b1.toNat + 65536 * b2.toNat + 16777216 * b3.toNat) with
        | .ok i => .ok (i, rest')
        | .error b => .error b
      | _ => .error .truncated
  | _ => .error .truncated

/-! ## The encoder -/

/-- The word of an instruction, from the encoding tables (03 R86, R87, R89). A step without an encoding has none. -/
def word : Instr → Nat
  | .vmov16 fs fd => 0x0 + fs.toNat * 0x800 + fd.toNat * 0x20
  | .vadd16 fs fd => 0x2 + fs.toNat * 0x800 + fd.toNat * 0x20
  | .vsub16 fs fd => 0x4 + fs.toNat * 0x800 + fd.toNat * 0x20
  | .vmullo16 fs fd => 0x6 + fs.toNat * 0x800 + fd.toNat * 0x20
  | .vand16 fs fd => 0x8 + fs.toNat * 0x800 + fd.toNat * 0x20
  | .vor16 fs fd => 0xa + fs.toNat * 0x800 + fd.toNat * 0x20
  | .vxor16 fs fd => 0xc + fs.toNat * 0x800 + fd.toNat * 0x20
  | .vshl16 fs fd => 0xe + fs.toNat * 0x800 + fd.toNat * 0x20
  | .vshrl16 fs fd => 0x10 + fs.toNat * 0x800 + fd.toNat * 0x20
  | .vshra16 fs fd => 0x12 + fs.toNat * 0x800 + fd.toNat * 0x20
  | .vaddF3216 fs fd => 0x14 + fs.toNat * 0x800 + fd.toNat * 0x20
  | .vsubF3216 fs fd => 0x16 + fs.toNat * 0x800 + fd.toNat * 0x20
  | .vmulF3216 fs fd => 0x18 + fs.toNat * 0x800 + fd.toNat * 0x20
  | .vmaxF3216 fs fd => 0x1a + fs.toNat * 0x800 + fd.toNat * 0x20
  | .vminF3216 fs fd => 0x1c + fs.toNat * 0x800 + fd.toNat * 0x20
  | .vmax16 fs fd => 0x1e + fs.toNat * 0x800 + fd.toNat * 0x20
  | .vaddF32 fr fb fa fd ft => 0x1 + fr.toNat * 0x20000000 + fb.toNat * 0x400000 + fa.toNat * 0x8000 + fd.toNat * 0x100 + ft.toNat * 0x80
  | .vsubF32 fr fb fa fd ft => 0x3 + fr.toNat * 0x20000000 + fb.toNat * 0x400000 + fa.toNat * 0x8000 + fd.toNat * 0x100 + ft.toNat * 0x80
  | .vmulF32 fr fb fa fd ft => 0x5 + fr.toNat * 0x20000000 + fb.toNat * 0x400000 + fa.toNat * 0x8000 + fd.toNat * 0x100 + ft.toNat * 0x80
  | .vfmaF32 fr fb fa fd ft => 0x7 + fr.toNat * 0x20000000 + fb.toNat * 0x400000 + fa.toNat * 0x8000 + fd.toNat * 0x100 + ft.toNat * 0x80
  | .vaddF16x2 fr fb fa fd ft => 0x9 + fr.toNat * 0x20000000 + fb.toNat * 0x400000 + fa.toNat * 0x8000 + fd.toNat * 0x100 + ft.toNat * 0x80
  | .vsubF16x2 fr fb fa fd ft => 0xb + fr.toNat * 0x20000000 + fb.toNat * 0x400000 + fa.toNat * 0x8000 + fd.toNat * 0x100 + ft.toNat * 0x80
  | .vmulF16x2 fr fb fa fd ft => 0xd + fr.toNat * 0x20000000 + fb.toNat * 0x400000 + fa.toNat * 0x8000 + fd.toNat * 0x100 + ft.toNat * 0x80
  | .vfmaF16x2 fr fb fa fd ft => 0xf + fr.toNat * 0x20000000 + fb.toNat * 0x400000 + fa.toNat * 0x8000 + fd.toNat * 0x100 + ft.toNat * 0x80
  | .vaddBf16x2 fr fb fa fd ft => 0x11 + fr.toNat * 0x20000000 + fb.toNat * 0x400000 + fa.toNat * 0x8000 + fd.toNat * 0x100 + ft.toNat * 0x80
  | .vsubBf16x2 fr fb fa fd ft => 0x13 + fr.toNat * 0x20000000 + fb.toNat * 0x400000 + fa.toNat * 0x8000 + fd.toNat * 0x100 + ft.toNat * 0x80
  | .vmulBf16x2 fr fb fa fd ft => 0x15 + fr.toNat * 0x20000000 + fb.toNat * 0x400000 + fa.toNat * 0x8000 + fd.toNat * 0x100 + ft.toNat * 0x80
  | .vfmaBf16x2 fr fb fa fd ft => 0x17 + fr.toNat * 0x20000000 + fb.toNat * 0x400000 + fa.toNat * 0x8000 + fd.toNat * 0x100 + ft.toNat * 0x80
  | .vaddF64 fr fb fa fd ft => 0x19 + fr.toNat * 0x20000000 + fb.toNat * 0x400000 + fa.toNat * 0x8000 + fd.toNat * 0x100 + ft.toNat * 0x80
  | .vsubF64 fr fb fa fd ft => 0x1b + fr.toNat * 0x20000000 + fb.toNat * 0x400000 + fa.toNat * 0x8000 + fd.toNat * 0x100 + ft.toNat * 0x80
  | .vmulF64 fr fb fa fd ft => 0x1d + fr.toNat * 0x20000000 + fb.toNat * 0x400000 + fa.toNat * 0x8000 + fd.toNat * 0x100 + ft.toNat * 0x80
  | .vfmaF64 fr fb fa fd ft => 0x1f + fr.toNat * 0x20000000 + fb.toNat * 0x400000 + fa.toNat * 0x8000 + fd.toNat * 0x100 + ft.toNat * 0x80
  | .vadd fb fa fd ft => 0x21 + fb.toNat * 0x400000 + fa.toNat * 0x8000 + fd.toNat * 0x100 + ft.toNat * 0x80
  | .vsub fb fa fd ft => 0x20000021 + fb.toNat * 0x400000 + fa.toNat * 0x8000 + fd.toNat * 0x100 + ft.toNat * 0x80
  | .vmullo fb fa fd ft => 0x40000021 + fb.toNat * 0x400000 + fa.toNat * 0x8000 + fd.toNat * 0x100 + ft.toNat * 0x80
  | .vmulhi fb fa fd ft => 0x60000021 + fb.toNat * 0x400000 + fa.toNat * 0x8000 + fd.toNat * 0x100 + ft.toNat * 0x80
  | .vmulhu fb fa fd ft => 0x80000021 + fb.toNat * 0x400000 + fa.toNat * 0x8000 + fd.toNat * 0x100 + ft.toNat * 0x80
  | .vmad fb fa fd ft => 0xa0000021 + fb.toNat * 0x400000 + fa.toNat * 0x8000 + fd.toNat * 0x100 + ft.toNat * 0x80
  | .vaddsat fb fa fd ft => 0xc0000021 + fb.toNat * 0x400000 + fa.toNat * 0x8000 + fd.toNat * 0x100 + ft.toNat * 0x80
  | .vsubsat fb fa fd ft => 0xe0000021 + fb.toNat * 0x400000 + fa.toNat * 0x8000 + fd.toNat * 0x100 + ft.toNat * 0x80
  | .vmin fb fa fd ft => 0x23 + fb.toNat * 0x400000 + fa.toNat * 0x8000 + fd.toNat * 0x100 + ft.toNat * 0x80
  | .vmax fb fa fd ft => 0x20000023 + fb.toNat * 0x400000 + fa.toNat * 0x8000 + fd.toNat * 0x100 + ft.toNat * 0x80
  | .vminu fb fa fd ft => 0x40000023 + fb.toNat * 0x400000 + fa.toNat * 0x8000 + fd.toNat * 0x100 + ft.toNat * 0x80
  | .vmaxu fb fa fd ft => 0x60000023 + fb.toNat * 0x400000 + fa.toNat * 0x8000 + fd.toNat * 0x100 + ft.toNat * 0x80
  | .vand fb fa fd ft => 0x80000023 + fb.toNat * 0x400000 + fa.toNat * 0x8000 + fd.toNat * 0x100 + ft.toNat * 0x80
  | .vor fb fa fd ft => 0xa0000023 + fb.toNat * 0x400000 + fa.toNat * 0x8000 + fd.toNat * 0x100 + ft.toNat * 0x80
  | .vxor fb fa fd ft => 0xc0000023 + fb.toNat * 0x400000 + fa.toNat * 0x8000 + fd.toNat * 0x100 + ft.toNat * 0x80
  | .vandn fb fa fd ft => 0xe0000023 + fb.toNat * 0x400000 + fa.toNat * 0x8000 + fd.toNat * 0x100 + ft.toNat * 0x80
  | .vshl fb fa fd ft => 0x25 + fb.toNat * 0x400000 + fa.toNat * 0x8000 + fd.toNat * 0x100 + ft.toNat * 0x80
  | .vshrl fb fa fd ft => 0x20000025 + fb.toNat * 0x400000 + fa.toNat * 0x8000 + fd.toNat * 0x100 + ft.toNat * 0x80
  | .vshra fb fa fd ft => 0x40000025 + fb.toNat * 0x400000 + fa.toNat * 0x8000 + fd.toNat * 0x100 + ft.toNat * 0x80
  | .vrotl fb fa fd ft => 0x60000025 + fb.toNat * 0x400000 + fa.toNat * 0x8000 + fd.toNat * 0x100 + ft.toNat * 0x80
  | .vpopc fa fd ft => 0x80000025 + fa.toNat * 0x8000 + fd.toNat * 0x100 + ft.toNat * 0x80
  | .vclz fa fd ft => 0xa0000025 + fa.toNat * 0x8000 + fd.toNat * 0x100 + ft.toNat * 0x80
  | .vbrev fa fd ft => 0xc0000025 + fa.toNat * 0x8000 + fd.toNat * 0x100 + ft.toNat * 0x80
  | .vabs fa fd ft => 0xe0000025 + fa.toNat * 0x8000 + fd.toNat * 0x100 + ft.toNat * 0x80
  | .vaddi fi fa fd ft => 0x27 + fi.toNat * 0x2000000 + fa.toNat * 0x8000 + fd.toNat * 0x100 + ft.toNat * 0x80
  | .vshli fi fa fd ft => 0x400027 + fi.toNat * 0x2000000 + fa.toNat * 0x8000 + fd.toNat * 0x100 + ft.toNat * 0x80
  | .vshrli fi fa fd ft => 0x800027 + fi.toNat * 0x2000000 + fa.toNat * 0x8000 + fd.toNat * 0x100 + ft.toNat * 0x80
  | .vshrai fi fa fd ft => 0xc00027 + fi.toNat * 0x2000000 + fa.toNat * 0x8000 + fd.toNat * 0x100 + ft.toNat * 0x80
  | .vandi fi fa fd ft => 0x1000027 + fi.toNat * 0x2000000 + fa.toNat * 0x8000 + fd.toNat * 0x100 + ft.toNat * 0x80
  | .vori fi fa fd ft => 0x1400027 + fi.toNat * 0x2000000 + fa.toNat * 0x8000 + fd.toNat * 0x100 + ft.toNat * 0x80
  | .vxori fi fa fd ft => 0x1800027 + fi.toNat * 0x2000000 + fa.toNat * 0x8000 + fd.toNat * 0x100 + ft.toNat * 0x80
  | .vmuli fi fa fd ft => 0x1c00027 + fi.toNat * 0x2000000 + fa.toNat * 0x8000 + fd.toNat * 0x100 + ft.toNat * 0x80
  | .vmovi fi fd ft => 0x29 + fi.toNat * 0x8000 + fd.toNat * 0x100 + ft.toNat * 0x80
  | .vmovs fa fd ft => 0x2b + fa.toNat * 0x8000 + fd.toNat * 0x100 + ft.toNat * 0x80
  | .vmovsh fa fd ft => 0x2000002b + fa.toNat * 0x8000 + fd.toNat * 0x100 + ft.toNat * 0x80
  | .vlane fd ft => 0x4000002b + fd.toNat * 0x100 + ft.toNat * 0x80
  | .vgetl fb fa fd ft => 0x6000002b + fb.toNat * 0x400000 + fa.toNat * 0x8000 + fd.toNat * 0x100 + ft.toNat * 0x80
  | .vsetl fb fa fd ft => 0x8000002b + fb.toNat * 0x400000 + fa.toNat * 0x8000 + fd.toNat * 0x100 + ft.toNat * 0x80
  | .vcmp fc fb fa fd ft => 0x2d + fc.toNat * 0x20000000 + fb.toNat * 0x400000 + fa.toNat * 0x8000 + fd.toNat * 0x100 + ft.toNat * 0x80
  | .vcmpf fc fb fa fd ft => 0x2f + fc.toNat * 0x20000000 + fb.toNat * 0x400000 + fa.toNat * 0x8000 + fd.toNat * 0x100 + ft.toNat * 0x80
  | .vsel fm fb fa fd ft => 0x31 + fm.toNat * 0x20000000 + fb.toNat * 0x400000 + fa.toNat * 0x8000 + fd.toNat * 0x100 + ft.toNat * 0x80
  | .vbfxu fw fo fa fd ft => 0x33 + fw.toNat * 0x8000000 + fo.toNat * 0x400000 + fa.toNat * 0x8000 + fd.toNat * 0x100 + ft.toNat * 0x80
  | .vbfx fw fo fa fd ft => 0x35 + fw.toNat * 0x8000000 + fo.toNat * 0x400000 + fa.toNat * 0x8000 + fd.toNat * 0x100 + ft.toNat * 0x80
  | .vbfi fw fo fa fd ft => 0x37 + fw.toNat * 0x8000000 + fo.toNat * 0x400000 + fa.toNat * 0x8000 + fd.toNat * 0x100 + ft.toNat * 0x80
  | .vcvt fs fy fx fr fa fd ft => 0x39 + fs.toNat * 0x80000000 + fy.toNat * 0x10000000 + fx.toNat * 0x2000000 + fr.toNat * 0x400000 + fa.toNat * 0x8000 + fd.toNat * 0x100 + ft.toNat * 0x80
  | .vpkF16 fb fa fd ft => 0x3b + fb.toNat * 0x400000 + fa.toNat * 0x8000 + fd.toNat * 0x100 + ft.toNat * 0x80
  | .vpkBf16 fb fa fd ft => 0x2000003b + fb.toNat * 0x400000 + fa.toNat * 0x8000 + fd.toNat * 0x100 + ft.toNat * 0x80
  | .vpkb fb fa fd ft => 0x4000003b + fb.toNat * 0x400000 + fa.toNat * 0x8000 + fd.toNat * 0x100 + ft.toNat * 0x80
  | .vpkbh fb fa fd ft => 0x6000003b + fb.toNat * 0x400000 + fa.toNat * 0x8000 + fd.toNat * 0x100 + ft.toNat * 0x80
  | .vupkF16l fa fd ft => 0x8000003b + fa.toNat * 0x8000 + fd.toNat * 0x100 + ft.toNat * 0x80
  | .vupkF16h fa fd ft => 0xa000003b + fa.toNat * 0x8000 + fd.toNat * 0x100 + ft.toNat * 0x80
  | .vupkBf16l fa fd ft => 0xc000003b + fa.toNat * 0x8000 + fd.toNat * 0x100 + ft.toNat * 0x80
  | .vupkBf16h fa fd ft => 0xe000003b + fa.toNat * 0x8000 + fd.toNat * 0x100 + ft.toNat * 0x80
  | .vrcp fa fd ft => 0x3d + fa.toNat * 0x8000 + fd.toNat * 0x100 + ft.toNat * 0x80
  | .vrsq fa fd ft => 0x2000003d + fa.toNat * 0x8000 + fd.toNat * 0x100 + ft.toNat * 0x80
  | .vsqrt fa fd ft => 0x4000003d + fa.toNat * 0x8000 + fd.toNat * 0x100 + ft.toNat * 0x80
  | .vexp2 fa fd ft => 0x6000003d + fa.toNat * 0x8000 + fd.toNat * 0x100 + ft.toNat * 0x80
  | .vlog2 fa fd ft => 0x8000003d + fa.toNat * 0x8000 + fd.toNat * 0x100 + ft.toNat * 0x80
  | .vsin fa fd ft => 0xa000003d + fa.toNat * 0x8000 + fd.toNat * 0x100 + ft.toNat * 0x80
  | .vcos fa fd ft => 0xc000003d + fa.toNat * 0x8000 + fd.toNat * 0x100 + ft.toNat * 0x80
  | .vtanh fa fd ft => 0xe000003d + fa.toNat * 0x8000 + fd.toNat * 0x100 + ft.toNat * 0x80
  | .vminF32 fb fa fd ft => 0x3f + fb.toNat * 0x400000 + fa.toNat * 0x8000 + fd.toNat * 0x100 + ft.toNat * 0x80
  | .vmaxF32 fb fa fd ft => 0x2000003f + fb.toNat * 0x400000 + fa.toNat * 0x8000 + fd.toNat * 0x100 + ft.toNat * 0x80
  | .vminF16x2 fb fa fd ft => 0x4000003f + fb.toNat * 0x400000 + fa.toNat * 0x8000 + fd.toNat * 0x100 + ft.toNat * 0x80
  | .vmaxF16x2 fb fa fd ft => 0x6000003f + fb.toNat * 0x400000 + fa.toNat * 0x8000 + fd.toNat * 0x100 + ft.toNat * 0x80
  | .vminBf16x2 fb fa fd ft => 0x8000003f + fb.toNat * 0x400000 + fa.toNat * 0x8000 + fd.toNat * 0x100 + ft.toNat * 0x80
  | .vmaxBf16x2 fb fa fd ft => 0xa000003f + fb.toNat * 0x400000 + fa.toNat * 0x8000 + fd.toNat * 0x100 + ft.toNat * 0x80
  | .vcopysignF32 fb fa fd ft => 0xc000003f + fb.toNat * 0x400000 + fa.toNat * 0x8000 + fd.toNat * 0x100 + ft.toNat * 0x80
  | .vclassF32 fa fd ft => 0xe000003f + fa.toNat * 0x8000 + fd.toNat * 0x100 + ft.toNat * 0x80
  | .vshuf fb fa fd ft => 0x41 + fb.toNat * 0x400000 + fa.toNat * 0x8000 + fd.toNat * 0x100 + ft.toNat * 0x80
  | .vswz fc fa fd ft => 0x20000041 + fc.toNat * 0x400000 + fa.toNat * 0x8000 + fd.toNat * 0x100 + ft.toNat * 0x80
  | .vbcast fk fa fd ft => 0x40000041 + fk.toNat * 0x400000 + fa.toNat * 0x8000 + fd.toNat * 0x100 + ft.toNat * 0x80
  | .vscanI32 fa fd ft => 0x60000041 + fa.toNat * 0x8000 + fd.toNat * 0x100 + ft.toNat * 0x80
  | .vscanF32 fa fd ft => 0x80000041 + fa.toNat * 0x8000 + fd.toNat * 0x100 + ft.toNat * 0x80
  | .vconflict fa fd ft => 0xa0000041 + fa.toNat * 0x8000 + fd.toNat * 0x100 + ft.toNat * 0x80
  | .vcombineF32 fb fa fd ft => 0xc0000041 + fb.toNat * 0x400000 + fa.toNat * 0x8000 + fd.toNat * 0x100 + ft.toNat * 0x80
  | .vcombineI32 fb fa fd ft => 0xe0000041 + fb.toNat * 0x400000 + fa.toNat * 0x8000 + fd.toNat * 0x100 + ft.toNat * 0x80
  | .vredaddI32 fa fd ft => 0x43 + fa.toNat * 0x8000 + fd.toNat * 0x100 + ft.toNat * 0x80
  | .vredaddF32 fa fd ft => 0x20000043 + fa.toNat * 0x8000 + fd.toNat * 0x100 + ft.toNat * 0x80
  | .vredmaxF32 fa fd ft => 0x40000043 + fa.toNat * 0x8000 + fd.toNat * 0x100 + ft.toNat * 0x80
  | .vredminF32 fa fd ft => 0x60000043 + fa.toNat * 0x8000 + fd.toNat * 0x100 + ft.toNat * 0x80
  | .vredmaxI32 fa fd ft => 0x80000043 + fa.toNat * 0x8000 + fd.toNat * 0x100 + ft.toNat * 0x80
  | .vredminI32 fa fd ft => 0xa0000043 + fa.toNat * 0x8000 + fd.toNat * 0x100 + ft.toNat * 0x80
  | .vredand fa fd ft => 0xc0000043 + fa.toNat * 0x8000 + fd.toNat * 0x100 + ft.toNat * 0x80
  | .vredor fa fd ft => 0xe0000043 + fa.toNat * 0x8000 + fd.toNat * 0x100 + ft.toNat * 0x80
  | .visect fb fa fd ft => 0x45 + fb.toNat * 0x400000 + fa.toNat * 0x8000 + fd.toNat * 0x100 + ft.toNat * 0x80
  | .smxupd fb fa fd ft => 0x20000045 + fb.toNat * 0x400000 + fa.toNat * 0x8000 + fd.toNat * 0x100 + ft.toNat * 0x80
  | .smxfin fb fa fd ft => 0x40000045 + fb.toNat * 0x400000 + fa.toNat * 0x8000 + fd.toNat * 0x100 + ft.toNat * 0x80
  | .vrand fk fa fd ft => 0x60000045 + fk.toNat * 0x400000 + fa.toNat * 0x8000 + fd.toNat * 0x100 + ft.toNat * 0x80
  | .vrandu fk fa fd ft => 0x80000045 + fk.toNat * 0x400000 + fa.toNat * 0x8000 + fd.toNat * 0x100 + ft.toNat * 0x80
  | .vdot2F16 fb fa fd ft => 0x47 + fb.toNat * 0x400000 + fa.toNat * 0x8000 + fd.toNat * 0x100 + ft.toNat * 0x80
  | .vdot2Bf16 fb fa fd ft => 0x20000047 + fb.toNat * 0x400000 + fa.toNat * 0x8000 + fd.toNat * 0x100 + ft.toNat * 0x80
  | .vdot4I8 fb fa fd ft => 0x40000047 + fb.toNat * 0x400000 + fa.toNat * 0x8000 + fd.toNat * 0x100 + ft.toNat * 0x80
  | .vdot4Ui8 fb fa fd ft => 0x60000047 + fb.toNat * 0x400000 + fa.toNat * 0x8000 + fd.toNat * 0x100 + ft.toNat * 0x80
  | .vdot4E4m3 fb fa fd ft => 0x80000047 + fb.toNat * 0x400000 + fa.toNat * 0x8000 + fd.toNat * 0x100 + ft.toNat * 0x80
  | .vdot4E5m2 fb fa fd ft => 0xa0000047 + fb.toNat * 0x400000 + fa.toNat * 0x8000 + fd.toNat * 0x100 + ft.toNat * 0x80
  | .vdot8Q4x fb fa fd ft => 0xc0000047 + fb.toNat * 0x400000 + fa.toNat * 0x8000 + fd.toNat * 0x100 + ft.toNat * 0x80
  | .vdot8I4 fb fa fd ft => 0xe0000047 + fb.toNat * 0x400000 + fa.toNat * 0x8000 + fd.toNat * 0x100 + ft.toNat * 0x80
  | .rsvinit fq ft => 0x49 + fq.toNat * 0x100 + ft.toNat * 0x80
  | .rsvupd fb fa fq ft => 0x20000049 + fb.toNat * 0x400000 + fa.toNat * 0x8000 + fq.toNat * 0x100 + ft.toNat * 0x80
  | .rsvmrg fb fa fq ft => 0x40000049 + fb.toNat * 0x400000 + fa.toNat * 0x8000 + fq.toNat * 0x100 + ft.toNat * 0x80
  | .rsvfin fq fd ft => 0x60000049 + fq.toNat * 0x400000 + fd.toNat * 0x100 + ft.toNat * 0x80
  | .rsvrd fq fd ft => 0x80000049 + fq.toNat * 0x400000 + fd.toNat * 0x100 + ft.toNat * 0x80
  | .rsvwr fa fq ft => 0xa0000049 + fa.toNat * 0x8000 + fq.toNat * 0x100 + ft.toNat * 0x80
  | .raytri fb fa fd ft => 0x4b + fb.toNat * 0x400000 + fa.toNat * 0x8000 + fd.toNat * 0x100 + ft.toNat * 0x80
  | .raybox fb fa fd ft => 0x2000004b + fb.toNat * 0x400000 + fa.toNat * 0x8000 + fd.toNat * 0x100 + ft.toNat * 0x80
  | .mma fz ff fc fs ft fo fa fy fp => 0x4d + fz.toNat * 0x80000000 + ff.toNat * 0x40000000 + fc.toNat * 0x20000000 + fs.toNat * 0x10000000 + ft.toNat * 0x1000000 + fo.toNat * 0x200000 + fa.toNat * 0x4000 + fy.toNat * 0x800 + fp.toNat * 0x80
  | .obres fs fo => 0x4f + fs.toNat * 0x4000 + fo.toNat * 0x800
  | .obfree fo => 0xcf + fo.toNat * 0x800
  | .acczero ft => 0x14f + ft.toNat * 0x800
  | .accrd ff ft fd fs => 0x1cf + ff.toNat * 0x80000000 + ft.toNat * 0x1000000 + fd.toNat * 0x20000 + fs.toNat * 0x800
  | .accwr ft fv fs => 0x24f + ft.toNat * 0x1000000 + fv.toNat * 0x20000 + fs.toNat * 0x800
  | .sptile fs fo => 0x2cf + fs.toNat * 0x4000 + fo.toNat * 0x800
  | .chartpf fp fo => 0x34f + fp.toNat * 0x4000 + fo.toNat * 0x800
  | .chartinv fo => 0x3cf + fo.toNat * 0x800
  | .chartq ff fd fp fo => 0x44f + ff.toNat * 0x80000000 + fd.toNat * 0x40000 + fp.toNat * 0x4000 + fo.toNat * 0x800
  | .talloc fi fu ft => 0x4cf + fi.toNat * 0x100000 + fu.toNat * 0x8000 + ft.toNat * 0x800
  | .tfree ft => 0x54f + ft.toNat * 0x800
  | .sadd fb fa fd => 0x51 + fb.toNat * 0x80000 + fa.toNat * 0x2000 + fd.toNat * 0x80
  | .ssub fb fa fd => 0x2000051 + fb.toNat * 0x80000 + fa.toNat * 0x2000 + fd.toNat * 0x80
  | .smul fb fa fd => 0x4000051 + fb.toNat * 0x80000 + fa.toNat * 0x2000 + fd.toNat * 0x80
  | .smulh fb fa fd => 0x6000051 + fb.toNat * 0x80000 + fa.toNat * 0x2000 + fd.toNat * 0x80
  | .smulhu fb fa fd => 0x8000051 + fb.toNat * 0x80000 + fa.toNat * 0x2000 + fd.toNat * 0x80
  | .sand fb fa fd => 0xa000051 + fb.toNat * 0x80000 + fa.toNat * 0x2000 + fd.toNat * 0x80
  | .sor fb fa fd => 0xc000051 + fb.toNat * 0x80000 + fa.toNat * 0x2000 + fd.toNat * 0x80
  | .sxor fb fa fd => 0xe000051 + fb.toNat * 0x80000 + fa.toNat * 0x2000 + fd.toNat * 0x80
  | .sandn fb fa fd => 0x10000051 + fb.toNat * 0x80000 + fa.toNat * 0x2000 + fd.toNat * 0x80
  | .sshl fb fa fd => 0x12000051 + fb.toNat * 0x80000 + fa.toNat * 0x2000 + fd.toNat * 0x80
  | .sshrl fb fa fd => 0x14000051 + fb.toNat * 0x80000 + fa.toNat * 0x2000 + fd.toNat * 0x80
  | .sshra fb fa fd => 0x16000051 + fb.toNat * 0x80000 + fa.toNat * 0x2000 + fd.toNat * 0x80
  | .smin fb fa fd => 0x18000051 + fb.toNat * 0x80000 + fa.toNat * 0x2000 + fd.toNat * 0x80
  | .smax fb fa fd => 0x1a000051 + fb.toNat * 0x80000 + fa.toNat * 0x2000 + fd.toNat * 0x80
  | .sminu fb fa fd => 0x1c000051 + fb.toNat * 0x80000 + fa.toNat * 0x2000 + fd.toNat * 0x80
  | .smaxu fb fa fd => 0x1e000051 + fb.toNat * 0x80000 + fa.toNat * 0x2000 + fd.toNat * 0x80
  | .sseq fb fa fd => 0x20000051 + fb.toNat * 0x80000 + fa.toNat * 0x2000 + fd.toNat * 0x80
  | .ssne fb fa fd => 0x22000051 + fb.toNat * 0x80000 + fa.toNat * 0x2000 + fd.toNat * 0x80
  | .sslt fb fa fd => 0x24000051 + fb.toNat * 0x80000 + fa.toNat * 0x2000 + fd.toNat * 0x80
  | .ssltu fb fa fd => 0x26000051 + fb.toNat * 0x80000 + fa.toNat * 0x2000 + fd.toNat * 0x80
  | .ssle fb fa fd => 0x28000051 + fb.toNat * 0x80000 + fa.toNat * 0x2000 + fd.toNat * 0x80
  | .ssleu fb fa fd => 0x2a000051 + fb.toNat * 0x80000 + fa.toNat * 0x2000 + fd.toNat * 0x80
  | .spopc fa fd => 0x2c000051 + fa.toNat * 0x2000 + fd.toNat * 0x80
  | .sclz fa fd => 0x2e000051 + fa.toNat * 0x2000 + fd.toNat * 0x80
  | .sctz fa fd => 0x30000051 + fa.toNat * 0x2000 + fd.toNat * 0x80
  | .sbrev fa fd => 0x32000051 + fa.toNat * 0x2000 + fd.toNat * 0x80
  | .smov fa fd => 0x34000051 + fa.toNat * 0x2000 + fd.toNat * 0x80
  | .slea2 fb fa fd => 0x36000051 + fb.toNat * 0x80000 + fa.toNat * 0x2000 + fd.toNat * 0x80
  | .slea3 fb fa fd => 0x38000051 + fb.toNat * 0x80000 + fa.toNat * 0x2000 + fd.toNat * 0x80
  | .saddi fi fa fd => 0x53 + fi.toNat * 0x80000 + fa.toNat * 0x2000 + fd.toNat * 0x80
  | .sandi fi fa fd => 0x55 + fi.toNat * 0x400000 + fa.toNat * 0x2000 + fd.toNat * 0x80
  | .sori fi fa fd => 0x80055 + fi.toNat * 0x400000 + fa.toNat * 0x2000 + fd.toNat * 0x80
  | .sxori fi fa fd => 0x100055 + fi.toNat * 0x400000 + fa.toNat * 0x2000 + fd.toNat * 0x80
  | .sshli fi fa fd => 0x180055 + fi.toNat * 0x400000 + fa.toNat * 0x2000 + fd.toNat * 0x80
  | .sshrli fi fa fd => 0x200055 + fi.toNat * 0x400000 + fa.toNat * 0x2000 + fd.toNat * 0x80
  | .sshrai fi fa fd => 0x280055 + fi.toNat * 0x400000 + fa.toNat * 0x2000 + fd.toNat * 0x80
  | .sslti fi fa fd => 0x300055 + fi.toNat * 0x400000 + fa.toNat * 0x2000 + fd.toNat * 0x80
  | .smuli fi fa fd => 0x380055 + fi.toNat * 0x400000 + fa.toNat * 0x2000 + fd.toNat * 0x80
  | .sinsh fi fp fd => 0x57 + fi.toNat * 0x8000 + fp.toNat * 0x2000 + fd.toNat * 0x80
  | .smovh fi fp fd => 0x80000057 + fi.toNat * 0x8000 + fp.toNat * 0x2000 + fd.toNat * 0x80
  | .sbfxu fw fo fa fd => 0x59 + fw.toNat * 0x2000000 + fo.toNat * 0x80000 + fa.toNat * 0x2000 + fd.toNat * 0x80
  | .sbfx fw fo fa fd => 0x5b + fw.toNat * 0x2000000 + fo.toNat * 0x80000 + fa.toNat * 0x2000 + fd.toNat * 0x80
  | .sbfi fw fo fa fd => 0x5d + fw.toNat * 0x2000000 + fo.toNat * 0x80000 + fa.toNat * 0x2000 + fd.toNat * 0x80
  | .bra fi => 0x5f + fi.toNat * 0x800
  | .brnz fi fa => 0xdf + fi.toNat * 0x20000 + fa.toNat * 0x800
  | .brz fi fa => 0x15f + fi.toNat * 0x20000 + fa.toNat * 0x800
  | .brm fi fa => 0x1df + fi.toNat * 0x20000 + fa.toNat * 0x800
  | .join fc => 0x25f + fc.toNat * 0x800
  | .call fi => 0x2df + fi.toNat * 0x800
  | .callr fa => 0x35f + fa.toNat * 0x800
  | .ret fa => 0x3df + fa.toNat * 0x800
  | .loop fe fa => 0x45f + fe.toNat * 0x20000 + fa.toNat * 0x800
  | .loopi fe fn => 0x4df + fe.toNat * 0x200000 + fn.toNat * 0x800
  | .exit => 0x55f
  | .trap fi => 0x5df + fi.toNat * 0x800
  | .bkpt fi => 0x65f + fi.toNat * 0x800
  | .yield fi => 0x6df + fi.toNat * 0x800
  | .fuse fw => 0x75f + fw.toNat * 0x800
  | .nop => 0x7df
  | .sread fd fs => 0x61 + fd.toNat * 0x200000 + fs.toNat * 0x800
  | .swrite fa fs => 0xe1 + fa.toNat * 0x200000 + fs.toNat * 0x800
  | .acquire => 0x161
  | .release => 0x1e1
  | .tqinit fb fa => 0x261 + fb.toNat * 0x20000 + fa.toNat * 0x800
  | .tqtake fa fd => 0x2e1 + fa.toNat * 0x20000 + fd.toNat * 0x800
  | .launch fd fa => 0x361 + fd.toNat * 0x40000 + fa.toNat * 0x800
  | .sleep fi => 0x3e1 + fi.toNat * 0x800
  | .gettime fd => 0x461 + fd.toNat * 0x800
  | .vld fn fk fz fb fd ff => 0x63 + fn.toNat * 0x20000000 + fk.toNat * 0x1000000 + fz.toNat * 0x200000 + fb.toNat * 0x8000 + fd.toNat * 0x100 + ff.toNat * 0x80
  | .vst fn fk fz fb fs => 0x65 + fn.toNat * 0x20000000 + fk.toNat * 0x1000000 + fz.toNat * 0x200000 + fb.toNat * 0x8000 + fs.toNat * 0x100
  | .sld fi fz fa fd => 0x67 + fi.toNat * 0x400000 + fz.toNat * 0x80000 + fa.toNat * 0x2000 + fd.toNat * 0x80
  | .sst fi fz fa fd => 0x69 + fi.toNat * 0x400000 + fz.toNat * 0x80000 + fa.toNat * 0x2000 + fd.toNat * 0x80
  | .ldl fi fz fa fd ff => 0x6b + fi.toNat * 0x2000000 + fz.toNat * 0x400000 + fa.toNat * 0x8000 + fd.toNat * 0x100 + ff.toNat * 0x80
  | .stl fi fz fa fs => 0x6d + fi.toNat * 0x2000000 + fz.toNat * 0x400000 + fa.toNat * 0x8000 + fs.toNat * 0x100
  | .atoml fo fb fa fd ff => 0x6f + fo.toNat * 0x20000000 + fb.toNat * 0x400000 + fa.toNat * 0x8000 + fd.toNat * 0x100 + ff.toNat * 0x80
  | .atomg fc fz fo fb fa fd ff => 0x71 + fc.toNat * 0x40000000 + fz.toNat * 0x20000000 + fo.toNat * 0x4000000 + fb.toNat * 0x100000 + fa.toNat * 0x4000 + fd.toNat * 0x100 + ff.toNat * 0x80
  | .atomgv fb fo fk fd ff => 0x73 + fb.toNat * 0x1000000 + fo.toNat * 0x200000 + fk.toNat * 0x8000 + fd.toNat * 0x100 + ff.toNat * 0x80
  | .fence fk fs => 0x75 + fk.toNat * 0x800 + fs.toNat * 0x80
  | .bfence => 0x2075
  | .tcopy fv fb fa => 0x77 + fv.toNat * 0x800000 + fb.toNat * 0x20000 + fa.toNat * 0x800
  | .sealBatch fd => 0xf7 + fd.toNat * 0x800
  | .waitb fa => 0x177 + fa.toNat * 0x800
  | .gather fv fb fa => 0x1f7 + fv.toNat * 0x800000 + fb.toNat * 0x20000 + fa.toNat * 0x800
  | .putsig fa => 0x277 + fa.toNat * 0x800
  | .pref fl fn fa => 0x2f7 + fl.toNat * 0x2000000 + fn.toNat * 0x20000 + fa.toNat * 0x800
  | .barinit fb fa => 0x79 + fb.toNat * 0x20000 + fa.toNat * 0x800
  | .bararr fd fa => 0xf9 + fd.toNat * 0x20000 + fa.toNat * 0x800
  | .bartx fb fa => 0x179 + fb.toNat * 0x20000 + fa.toNat * 0x800
  | .barwait fb fa => 0x1f9 + fb.toNat * 0x20000 + fa.toNat * 0x800
  | .bartry fd fb fa => 0x279 + fd.toNat * 0x800000 + fb.toNat * 0x20000 + fa.toNat * 0x800
  | .gbar fs => 0x2f9 + fs.toNat * 0x800
  | .bmv ff fa => 0x7b + ff.toNat * 0x80000000 + fa.toNat * 0x800
  | .bmvacc ff fa => 0xfb + ff.toNat * 0x80000000 + fa.toNat * 0x800
  | .bstat ff fa fd => 0x17b + ff.toNat * 0x80000000 + fa.toNat * 0x20000 + fd.toNat * 0x800
  | .clauseStart => 0
  | .commit => 0
  | .heldAtCommitRelease => 0
  | .pageWalk => 0
  | .longLatencyReturn => 0
  | .accessFailedAfterCommit => 0
  | .issuePick => 0
  | .starvationPromote => 0
  | .spinDemote => 0
  | .spinDemotionExpiry => 0
  | .sleepExpiry => 0
  | .yieldExpiry => 0
  | .missSplit => 0
  | .scalarCopyDone => 0
  | .joinFuse => 0
  | .joinTimeout => 0
  | .joinRelease => 0
  | .widthFuse => 0
  | .fuseTimeout => 0
  | .allotmentGrant => 0
  | .allotmentDeadlockPreempt => 0
  | .gbarRelease => 0
  | .trapStop => 0
  | .trapRecordWrite => 0
  | .breakpointMatch => 0
  | .stepTimeout => 0
  | .waveRetire => 0
  | .matrixQueueHeadStart => 0
  | .mmaArrayStart => 0
  | .matrixOpComplete => 0
  | .matrixFlagClear => 0
  | .courseMmaDispatch => 0
  | .chartCompileStart => 0
  | .chartCompileEnd => 0
  | .copyGranule => 0
  | .copyFailure => 0
  | .gatherElement => 0
  | .putsigSignal => 0
  | .bankUnitGroup => 0
  | .bmvComplete => 0
  | .homeSliceStore => 0
  | .homeSliceLoad => 0
  | .pulseTick => 0
  | .spanLeave => 0
  | .packetAccept => 0
  | .groupAdmit => 0
  | .launchComplete => 0
  | .preemptRequest => 0
  | .preemptSave => 0
  | .preemptFail => 0
  | .groupRestore => 0
  | .qctlWrite => 0
  | .qdoorbellWrite => 0
  | .invcmdWrite => 0
  | .invalidationComplete => 0
  | .apfaultWrite => 0
  | .bar2Read => 0
  | .bar2Write => 0
  | .pulsecfgWrite => 0
  | .pwrcapWrite => 0
  | .spanctlWrite => 0
  | .cntdataWrite => 0
  | .registerWrite => 0
  | .fundamentalReset => 0
  | .bootComplete => 0
  | .functionLevelReset => 0
  | .decodeTableUpdate => 0
  | .powerWindow => 0
  | .thermalStop => 0
  | .wearUpdate => 0
  | .uncorrectableError => 0
  | .correctedErrorRecord => 0
  | .linkReplay => 0
  | .linkOperationFailure => 0
  | .spanRequest => 0
  | .stallSample => 0
  | .dbgHaltWave => 0
  | .dbgHaltGroup => 0
  | .dbgResume => 0
  | .dbgStep => 0
  | .dbgKillWave => 0
  | .dbgKillGroup => 0
  | .dbgSave => 0
  | .dbgInvalidCommand => 0
  | .getVersion => 0
  | .getCapabilities => 0
  | .negotiateAlgorithms => 0
  | .getDigests => 0
  | .getCertificate => 0
  | .challenge => 0
  | .getMeasurements => 0
  | .storeTimeReturn => 0
  | .tickCompletion => 0
  | .portRetrain => 0
  | .msixVectorUnmask => 0
  | .coreClockStop => 0
  | .coreClockRestart => 0

/-- Bits of an instruction's encoding; 0 for a step without one. -/
def width : Instr → Nat
  | .vmov16 _ _ => 16
  | .vadd16 _ _ => 16
  | .vsub16 _ _ => 16
  | .vmullo16 _ _ => 16
  | .vand16 _ _ => 16
  | .vor16 _ _ => 16
  | .vxor16 _ _ => 16
  | .vshl16 _ _ => 16
  | .vshrl16 _ _ => 16
  | .vshra16 _ _ => 16
  | .vaddF3216 _ _ => 16
  | .vsubF3216 _ _ => 16
  | .vmulF3216 _ _ => 16
  | .vmaxF3216 _ _ => 16
  | .vminF3216 _ _ => 16
  | .vmax16 _ _ => 16
  | .clauseStart => 0
  | .commit => 0
  | .heldAtCommitRelease => 0
  | .pageWalk => 0
  | .longLatencyReturn => 0
  | .accessFailedAfterCommit => 0
  | .issuePick => 0
  | .starvationPromote => 0
  | .spinDemote => 0
  | .spinDemotionExpiry => 0
  | .sleepExpiry => 0
  | .yieldExpiry => 0
  | .missSplit => 0
  | .scalarCopyDone => 0
  | .joinFuse => 0
  | .joinTimeout => 0
  | .joinRelease => 0
  | .widthFuse => 0
  | .fuseTimeout => 0
  | .allotmentGrant => 0
  | .allotmentDeadlockPreempt => 0
  | .gbarRelease => 0
  | .trapStop => 0
  | .trapRecordWrite => 0
  | .breakpointMatch => 0
  | .stepTimeout => 0
  | .waveRetire => 0
  | .matrixQueueHeadStart => 0
  | .mmaArrayStart => 0
  | .matrixOpComplete => 0
  | .matrixFlagClear => 0
  | .courseMmaDispatch => 0
  | .chartCompileStart => 0
  | .chartCompileEnd => 0
  | .copyGranule => 0
  | .copyFailure => 0
  | .gatherElement => 0
  | .putsigSignal => 0
  | .bankUnitGroup => 0
  | .bmvComplete => 0
  | .homeSliceStore => 0
  | .homeSliceLoad => 0
  | .pulseTick => 0
  | .spanLeave => 0
  | .packetAccept => 0
  | .groupAdmit => 0
  | .launchComplete => 0
  | .preemptRequest => 0
  | .preemptSave => 0
  | .preemptFail => 0
  | .groupRestore => 0
  | .qctlWrite => 0
  | .qdoorbellWrite => 0
  | .invcmdWrite => 0
  | .invalidationComplete => 0
  | .apfaultWrite => 0
  | .bar2Read => 0
  | .bar2Write => 0
  | .pulsecfgWrite => 0
  | .pwrcapWrite => 0
  | .spanctlWrite => 0
  | .cntdataWrite => 0
  | .registerWrite => 0
  | .fundamentalReset => 0
  | .bootComplete => 0
  | .functionLevelReset => 0
  | .decodeTableUpdate => 0
  | .powerWindow => 0
  | .thermalStop => 0
  | .wearUpdate => 0
  | .uncorrectableError => 0
  | .correctedErrorRecord => 0
  | .linkReplay => 0
  | .linkOperationFailure => 0
  | .spanRequest => 0
  | .stallSample => 0
  | .dbgHaltWave => 0
  | .dbgHaltGroup => 0
  | .dbgResume => 0
  | .dbgStep => 0
  | .dbgKillWave => 0
  | .dbgKillGroup => 0
  | .dbgSave => 0
  | .dbgInvalidCommand => 0
  | .getVersion => 0
  | .getCapabilities => 0
  | .negotiateAlgorithms => 0
  | .getDigests => 0
  | .getCertificate => 0
  | .challenge => 0
  | .getMeasurements => 0
  | .storeTimeReturn => 0
  | .tickCompletion => 0
  | .portRetrain => 0
  | .msixVectorUnmask => 0
  | .coreClockStop => 0
  | .coreClockRestart => 0
  | _ => 32

/-- The bytes of an instruction, least significant first (00 R3). -/
def encode (i : Instr) : List Byte := Sys2Proof.Machine.leBytes (width i / 8) (word i)

/-- The instruction read from an instruction whose bits are `w`, laid out as memory holds them. -/
def decodeTableWord (nbits w : Nat) : Option Instr :=
  if nbits = 0 then none
  else match decode (Sys2Proof.Machine.leBytes 4 (w % 2 ^ nbits)) with
    | .ok r => some r.1
    | .error _ => none

end Sys2Proof
end

