-- ==== Sys2Proof/Machine/Float.lean ====
section
/-! DEFINITION. Number formats and arithmetic (02): values as exact dyadic numbers, one rounding into a format, and the
exceptions of R61. Bit patterns are natural numbers here. -/

namespace Sys2Proof.Machine

/-- The floating-point formats (02 R46). -/
inductive Fmt where
  | f64
  | f32
  | f16
  | bf16
  | e4m3
  | e5m2
  deriving DecidableEq, Repr

namespace Fmt

/-- Exponent bits (02 R46). -/
def eb : Fmt → Nat
  | f64 => 11 | f32 => 8 | f16 => 5 | bf16 => 8 | e4m3 => 4 | e5m2 => 5

/-- Fraction bits (02 R46). -/
def fb : Fmt → Nat
  | f64 => 52 | f32 => 23 | f16 => 10 | bf16 => 7 | e4m3 => 3 | e5m2 => 2

/-- Bias (02 R46). -/
def bias (f : Fmt) : Int := 2 ^ (f.eb - 1) - 1

/-- Width in bits (02 R46). -/
def width (f : Fmt) : Nat := 1 + f.eb + f.fb

/-- Canonical NaN (02 R47). -/
def nan : Fmt → Nat
  | f64 => 0x7FF8000000000000 | f32 => 0x7FC00000 | f16 => 0x7E00 | bf16 => 0x7FC0 | e4m3 => 0x7F | e5m2 => 0x7E

/-- Exponent of the last place of the largest finite value (02 R46). -/
def maxUlp : Fmt → Int
  | e4m3 => 5
  | f => f.bias - f.fb

/-- Significand of the largest finite value (02 R46). -/
def maxSig : Fmt → Nat
  | e4m3 => 14
  | f => 2 ^ (f.fb + 1) - 1

end Fmt

/-- The value of a bit pattern. A finite value is m × 2^e with its sign; m = 0 is a zero. -/
inductive Num where
  | nan (sig : Bool)
  | inf (neg : Bool)
  | fin (neg : Bool) (m : Nat) (e : Int)
  deriving DecidableEq, Repr

/-- Raised exceptions: bit 0 NV, 1 DZ, 2 OF, 3 UF, 4 NX, as in FPX[4:0]; bit 5 FE (01 R22). -/
abbrev Fx := BitVec 6

/-- Exceptions (01 R22, 02 R61). -/
def fxNV : Fx := 1#6
/-- Division by zero. -/
def fxDZ : Fx := 2#6
/-- Overflow. -/
def fxOF : Fx := 4#6
/-- Underflow. -/
def fxUF : Fx := 8#6
/-- Inexact. -/
def fxNX : Fx := 16#6
/-- Format error. -/
def fxFE : Fx := 32#6

/-- An exception under a condition. -/
def fxIf (b : Bool) (x : Fx) : Fx := if b then x else 0

namespace Num

/-- Positive zero. -/
def zero : Num := fin false 0 0

/-- The value 1. -/
def one : Num := fin false 1 0

/-- Any NaN. -/
def isNan : Num → Bool
  | nan _ => true
  | _ => false

/-- A signalling NaN (02 R47). -/
def isSNan : Num → Bool
  | nan s => s
  | _ => false

/-- An infinity. -/
def isInf : Num → Bool
  | inf _ => true
  | _ => false

/-- A zero of either sign. -/
def isZero : Num → Bool
  | fin _ m _ => m = 0
  | _ => false

/-- The sign. -/
def neg? : Num → Bool
  | nan _ => false
  | inf s => s
  | fin s _ _ => s

/-- The value with its sign changed. -/
def negate : Num → Num
  | nan s => nan s
  | inf s => inf !s
  | fin s m e => fin (!s) m e

/-- The magnitude. -/
def abs : Num → Num
  | nan s => nan s
  | inf _ => inf false
  | fin _ m e => fin false m e

/-- The signed significand. -/
def smant : Num → Int
  | fin s m _ => if s then -(m : Int) else m
  | _ => 0

/-- The exponent of the last place. -/
def expo : Num → Int
  | fin _ _ e => e
  | _ => 0

/-- An exact integer. -/
def ofInt (i : Int) : Num := fin (decide (i < 0)) i.natAbs 0

/-- i × 2^e. -/
def ofDy (i e : Int) : Num := fin (decide (i < 0)) i.natAbs e

end Num

/-- The significand of m × 2^e at exponent e' ≤ e. -/
def alignTo (m : Int) (e e' : Int) : Int := m * ((2 ^ (e - e').toNat : Nat) : Int)

/-- Compares two numbers that are not NaN, -0 equal to +0: −1, 0 or 1 (02 R75). -/
def cmpNum (a b : Num) : Int :=
  match a, b with
  | .inf s, .inf t => if s = t then 0 else if s then -1 else 1
  | .inf s, _ => if s then -1 else 1
  | _, .inf t => if t then 1 else -1
  | a, b =>
    let e := min a.expo b.expo
    let x := alignTo a.smant a.expo e
    let y := alignTo b.smant b.expo e
    if x < y then -1 else if y < x then 1 else 0

/-- The value of a bit pattern (02 R46, R47). -/
def val (f : Fmt) (b : Nat) : Num :=
  let neg := b.testBit (f.eb + f.fb)
  let ex := b / 2 ^ f.fb % 2 ^ f.eb
  let fr := b % 2 ^ f.fb
  let top := ex = 2 ^ f.eb - 1
  match f with
  | .e4m3 =>
    if top && decide (fr = 7) then .nan false
    else if ex = 0 then .fin neg fr (1 - f.bias - f.fb) else .fin neg (2 ^ f.fb + fr) ((ex : Int) - f.bias - f.fb)
  | _ =>
    if top then
      if fr = 0 then .inf neg
      else .nan (match f with | .e5m2 => false | _ => decide (fr < 2 ^ (f.fb - 1)))
    else if ex = 0 then .fin neg fr (1 - f.bias - f.fb)
    else .fin neg (2 ^ f.fb + fr) ((ex : Int) - f.bias - f.fb)

/-- The sign bit of a pattern of a format. -/
def signBit (f : Fmt) (neg : Bool) : Nat := if neg then 2 ^ (f.eb + f.fb) else 0

/-- A zero of a sign. -/
def zeroBits (f : Fmt) (neg : Bool) : Nat := signBit f neg

/-- The largest finite value of a sign. -/
def maxBits (f : Fmt) (neg : Bool) : Nat :=
  signBit f neg + (match f with | .e4m3 => 0x7E | _ => (2 ^ f.eb - 1) * 2 ^ f.fb - 1)

/-- An infinity, or the canonical NaN where the format has none (02 R56). -/
def infBits (f : Fmt) (neg : Bool) : Nat :=
  match f with
  | .e4m3 => f.nan
  | _ => signBit f neg + (2 ^ f.eb - 1) * 2 ^ f.fb

/-- m / 2^sh rounded under a mode of R55, and whether it is inexact. A negative shift is exact. -/
def roundShift (mode : Nat) (neg : Bool) (m : Nat) (sh : Int) : Nat × Bool :=
  if sh ≤ 0 then (m * 2 ^ (-sh).toNat, false)
  else
    let n := sh.toNat
    let q := m / 2 ^ n
    let r := m % 2 ^ n
    let half := 2 ^ (n - 1)
    let up :=
      match mode with
      | 2 => false
      | 3 => decide (r ≠ 0) && !neg
      | 4 => decide (r ≠ 0) && neg
      | 5 => decide (half ≤ r)
      | _ => decide (half < r) || (decide (r = half) && decide (q % 2 = 1))
    (if up then q + 1 else q, decide (r ≠ 0))

/-- The result of an overflow (02 R56). -/
def overflowBits (f : Fmt) (mode : Nat) (neg : Bool) : Nat :=
  match mode with
  | 2 => maxBits f neg
  | 3 => if neg then maxBits f neg else infBits f neg
  | 4 => if neg then infBits f neg else maxBits f neg
  | 6 => maxBits f neg
  | _ => infBits f neg

/-- Rounds m × 2^e of a sign into a format, once (02 R55 to R58, R61). -/
def roundFin (f : Fmt) (mode : Nat) (neg : Bool) (m : Nat) (e : Int) : Nat × Fx :=
  if m = 0 then (zeroBits f neg, 0)
  else
    let ex : Int := (m.log2 : Int) + e
    let emin : Int := 1 - f.bias
    let ulp0 : Int := max ex emin - f.fb
    let r := roundShift mode neg m (ulp0 - e)
    let sig := if r.1 = 2 ^ (f.fb + 1) then 2 ^ f.fb else r.1
    let ulp := if r.1 = 2 ^ (f.fb + 1) then ulp0 + 1 else ulp0
    if decide (f.maxUlp < ulp) || (decide (ulp = f.maxUlp) && decide (f.maxSig < sig)) then
      (overflowBits f mode neg, fxOF ||| fxNX)
    else
      let tiny :=
        if emin ≤ ex then false
        else if ex < emin - 1 then true
        else decide ((roundShift mode neg m (ex - f.fb - e)).1 < 2 ^ (f.fb + 1))
      let body :=
        if sig < 2 ^ f.fb then sig else (ulp + f.fb + f.bias).toNat * 2 ^ f.fb + (sig - 2 ^ f.fb)
      (signBit f neg + body, fxIf r.2 fxNX ||| fxIf (r.2 && tiny) fxUF)

/-- Rounds a number; NaN gives the canonical NaN and raises nothing here (02 R48, R57). -/
def roundNum (f : Fmt) (mode : Nat) : Num → Nat × Fx
  | .nan _ => (f.nan, 0)
  | .inf s => (infBits f s, 0)
  | .fin s m e => roundFin f mode s m e

/-- The pattern of a number that the format holds exactly (02 R74). -/
def enc (f : Fmt) (x : Num) : Nat := (roundNum f 1 x).1

/-- Whether a pattern is a subnormal that is not zero. -/
def isSub (f : Fmt) (b : Nat) : Bool := decide (b / 2 ^ f.fb % 2 ^ f.eb = 0) && decide (b % 2 ^ f.fb ≠ 0)

/-- `ftz` of an F32 pattern (02 R59, R74). -/
def ftzBits (ftz : Bool) (b : Nat) : Nat := if ftz && isSub .f32 b then signBit .f32 (b.testBit 31) else b

/-- A flushed F32 result (02 R59, R61). -/
def flushRes (ftz : Bool) (r : Nat × Fx) : Nat × Fx :=
  if ftz && isSub .f32 r.1 then (ftzBits true r.1, r.2 ||| fxUF ||| fxNX) else r

/-- The exact product; 0 × ∞ is NaN with NV (02 R48). -/
def mulNum (a b : Num) : Num × Fx :=
  match a, b with
  | .nan _, .nan _ => (.nan false, 0)
  | .nan _, _ => (.nan false, 0)
  | _, .nan _ => (.nan false, 0)
  | .inf s, b => if b.isZero then (.nan false, fxNV) else (.inf (s != b.neg?), 0)
  | a, .inf t => if a.isZero then (.nan false, fxNV) else (.inf (a.neg? != t), 0)
  | .fin s m e, .fin t n g => (.fin (s != t) (m * n) (e + g), 0)

/-- The exact product, no exception. -/
def mulX (a b : Num) : Num := (mulNum a b).1

/-- The exact sum of two finite or infinite numbers; an exact zero has the sign of R58. -/
def addNum (mode : Nat) (a b : Num) : Num × Fx :=
  match a, b with
  | .nan _, _ => (.nan false, 0)
  | _, .nan _ => (.nan false, 0)
  | .inf s, .inf t => if s = t then (.inf s, 0) else (.nan false, fxNV)
  | .inf s, _ => (.inf s, 0)
  | _, .inf t => (.inf t, 0)
  | a, b =>
    let e := min a.expo b.expo
    let x := alignTo a.smant a.expo e + alignTo b.smant b.expo e
    if x = 0 then
      (.fin (if a.neg? = b.neg? then a.neg? else decide (mode = 4)) 0 0, 0)
    else (Num.ofDy x e, 0)

/-- The exact sum of terms (02 R66). -/
def xsum (mode : Nat) (l : List Num) : Num × Fx :=
  match l with
  | [] => (Num.zero, 0)
  | a :: l =>
    let inf (s : Bool) : Bool := (a :: l).any fun x => x.isInf && (x.neg? == s)
    if (a :: l).any Num.isNan then (.nan false, fxIf (inf true && inf false) fxNV)
    else if inf true && inf false then (.nan false, fxNV)
    else (l.foldl (fun r b => (addNum mode r b).1) a, 0)

/-- NV for a signalling operand (02 R48). -/
def snanFx (l : List Num) : Fx := fxIf (l.any Num.isSNan) fxNV

/-- a + b, one rounding (02 R133). -/
def fAdd (f : Fmt) (mode : Nat) (a b : Num) : Nat × Fx :=
  let s := addNum mode a b
  let r := roundNum f mode s.1
  (r.1, r.2 ||| s.2 ||| snanFx [a, b])

/-- a − b, one rounding. -/
def fSub (f : Fmt) (mode : Nat) (a b : Num) : Nat × Fx :=
  let s := addNum mode a b.negate
  let r := roundNum f mode s.1
  (r.1, r.2 ||| s.2 ||| snanFx [a, b])

/-- a × b, one rounding. -/
def fMul (f : Fmt) (mode : Nat) (a b : Num) : Nat × Fx :=
  let p := mulNum a b
  let r := roundNum f mode p.1
  (r.1, r.2 ||| p.2 ||| snanFx [a, b])

/-- a × b + c, one rounding; 0 × ∞ raises NV whatever c holds (02 R48). -/
def fFma (f : Fmt) (mode : Nat) (a b c : Num) : Nat × Fx :=
  let p := mulNum a b
  let s := addNum mode p.1 c
  let r := roundNum f mode s.1
  (r.1, r.2 ||| p.2 ||| s.2 ||| snanFx [a, b, c])

/-- An exact quotient of finite numbers carried to 64 bits and more with a sticky bit, which rounds as the quotient does. -/
def divSticky (s t : Bool) (m n : Nat) (e g : Int) : Num :=
  let k := 80 + n.log2
  let q := m * 2 ^ k / n
  .fin (s != t) (2 * q + b2n (decide (m * 2 ^ k % n ≠ 0))) (e - g - k - 1)

/-- a / b with one rounding to be applied: zero over zero and infinity over infinity are NaN (08 R217, R220). -/
def divNum (a b : Num) : Num :=
  match a, b with
  | .nan _, _ => .nan false
  | _, .nan _ => .nan false
  | .inf s, .inf _ => (fun _ => .nan false) s
  | .inf s, b => .inf (s != b.neg?)
  | a, .inf t => .fin (a.neg? != t) 0 0
  | .fin s m e, .fin t n g =>
    if n = 0 then (if m = 0 then .nan false else .inf (s != t))
    else if m = 0 then .fin (s != t) 0 0
    else divSticky s t m n e g

/-- Integer square root by trying bits downwards. -/
def isqrtGo : Nat → Nat → Nat → Nat
  | 0, _, r => r
  | k + 1, n, r => isqrtGo k n (if (r + 2 ^ k) * (r + 2 ^ k) ≤ n then r + 2 ^ k else r)

/-- The integer square root. -/
def isqrt (n : Nat) : Nat := isqrtGo (n.log2 / 2 + 1) n 0

/-- The square root of m × 2^e with a sticky bit. -/
def sqrtSticky (m : Nat) (e : Int) : Num :=
  let m' := if e % 2 = 0 then m else 2 * m
  let e' := if e % 2 = 0 then e else e - 1
  let n := m' * 2 ^ 128
  let r := isqrt n
  .fin false (2 * r + b2n (decide (r * r ≠ n))) (e' / 2 - 64 - 1)

/-- 1 over the square root of m × 2^e with a sticky bit. -/
def rsqrtSticky (m : Nat) (e : Int) : Num :=
  let m' := if e % 2 = 0 then m else 2 * m
  let e' := if e % 2 = 0 then e else e - 1
  let k : Nat := 160
  let q := 2 ^ (2 * k) / m'
  let r := isqrt q
  .fin false (2 * r + b2n (decide (r * r * m' ≠ 2 ^ (2 * k)))) (-(e' / 2) - k - 1)

/-- F32 value of a pattern read through ftz (02 R75). -/
def f32 (ftz : Bool) (b : Nat) : Num := val .f32 (ftzBits ftz b)

/-! ## Narrow integers, UE5M3 and Q4X (02 R49 to R54) -/

/-- The value of a UE5M3 scale code; NaN for 0xFF (02 R51). -/
def ue5m3 (b : Nat) : Num :=
  if b = 0 then Num.zero
  else if b = 255 then .nan false
  else .fin false (8 + b % 8) ((b / 8 : Nat) - 15 - 3)

/-- Nibble `i` of a list of bytes read as a number (02 R50). -/
def nib (b : Nat) (i : Nat) : Nat := b / 16 ^ i % 16

/-- A signed nibble. -/
def nibVal (n : Nat) : Num := Num.ofInt (sextNat 4 n)

/-- Four elements of a Q4X quad, and whether it sets FE (02 R53). -/
def q4xQuad (n0 n1 n2 n3 : Nat) : List Num × Bool :=
  let n := [n0, n1, n2, n3]
  let marks := (n.filter fun x => decide (x = 8)).length
  let z := [Num.zero, Num.zero, Num.zero, Num.zero]
  if marks = 0 then (n.map nibVal, false)
  else if marks = 1 then
    let low := decide (n0 = 8) || decide (n1 = 8)
    let byte := if low then n3 * 16 + n2 else n1 * 16 + n0
    if byte = 0x7F || byte = 0xFF then (z, true)
    else
      let o := val .e4m3 byte
      (if n0 = 8 then [o, nibVal n1, Num.zero, Num.zero]
        else if n1 = 8 then [nibVal n0, o, Num.zero, Num.zero]
        else if n2 = 8 then [Num.zero, Num.zero, o, nibVal n3]
        else [Num.zero, Num.zero, nibVal n2, o], false)
  else (z, true)

/-- The four nibbles that start at nibble `i` of a number. -/
def q4xAt (b i : Nat) : List Num × Bool := q4xQuad (nib b i) (nib b (i + 1)) (nib b (i + 2)) (nib b (i + 3))

/-! ## Conversion (02 R64) -/

/-- Types of VCVT (03 R88). -/
inductive CvtTy where
  | flt (f : Fmt)
  | i32
  | u32
  deriving DecidableEq, Repr

/-- The type of a code (03 R88). -/
def cvtTy : Nat → CvtTy
  | 0 => .flt .f32
  | 1 => .flt .f16
  | 2 => .flt .bf16
  | 3 => .flt .e4m3
  | 4 => .flt .e5m2
  | 5 => .i32
  | 6 => .u32
  | _ => .flt .f64

/-- Bytes of a type's element. -/
def CvtTy.bytes : CvtTy → Nat
  | .flt f => f.width / 8
  | _ => 4

/-- Rounds to an integer under a mode. -/
def roundInt (mode : Nat) (x : Num) : Int × Bool :=
  match x with
  | .fin s m e =>
    let r := roundShift mode s m (-e)
    (if s then -(r.1 : Int) else r.1, r.2)
  | _ => (0, false)

/-- Saturation of a float result (02 R64). -/
def cvtToFloat (f : Fmt) (mode : Nat) (sat : Bool) (x : Num) : Nat × Fx :=
  match x with
  | .nan s => (f.nan, fxIf s fxNV)
  | .inf s => if sat then (maxBits f s, 0) else (infBits f s, 0)
  | .fin s m e =>
    let r := roundFin f mode s m e
    if sat && (r.2 &&& fxOF != 0) then (maxBits f s, r.2) else r

/-- A float or integer value into an integer type of limits lo to hi (02 R64). -/
def cvtToInt (lo hi : Int) (mode : Nat) (sat : Bool) (x : Num) : Int × Fx :=
  match x with
  | .nan _ => (0, fxNV)
  | .inf s => (if s then lo else hi, if sat then 0 else fxNV)
  | x =>
    let r := roundInt mode x
    if r.1 < lo then (lo, if sat then fxNX else fxNV)
    else if hi < r.1 then (hi, if sat then fxNX else fxNV)
    else (r.1, fxIf r.2 fxNX)

/-- The source value of a conversion; F32 subnormals are flushed under ftz (02 R59). -/
def cvtSrc (s : CvtTy) (ftz : Bool) (b : Nat) : Num :=
  match s with
  | .flt .f32 => f32 ftz b
  | .flt f => val f (b % 2 ^ f.width)
  | .i32 => Num.ofInt (sextNat 32 b)
  | .u32 => Num.ofInt (b % 2 ^ 32)

/-- Pairs whose conversion is exact for every source value, which ignore rnd and sat (05 R141). -/
def exactPair : CvtTy → CvtTy → Bool
  | .flt .f16, .flt .f32 => true
  | .flt .bf16, .flt .f32 => true
  | .flt .e4m3, .flt d => d != .e5m2
  | .flt .e5m2, .flt d => d != .e4m3
  | .flt _, .flt .f64 => true
  | .i32, .flt .f64 => true
  | .u32, .flt .f64 => true
  | _, _ => false

/-- A conversion of one element (02 R64, 05 R141). -/
def convert (s d : CvtTy) (mode : Nat) (sat0 ftz : Bool) (b : Nat) : Nat × Fx :=
  let x := cvtSrc s ftz b
  let sat := sat0 && !exactPair s d
  match s, d with
  | .flt .f32, .flt .f32 =>
    match x with
    | .nan sg => (Fmt.nan .f32, fxIf sg fxNV)
    | .inf sg => (if sat then maxBits .f32 sg else infBits .f32 sg, 0)
    | .fin sg _ _ =>
      let r := roundInt mode x
      (if r.1 = 0 then zeroBits .f32 sg else enc .f32 (Num.ofInt r.1), fxIf r.2 fxNX)
  | .i32, .u32 => if sat && x.neg? then (0, fxNX) else (b % 2 ^ 32, 0)
  | .u32, .i32 => if sat && decide (2 ^ 31 ≤ b % 2 ^ 32) then (0x7FFFFFFF, fxNX) else (b % 2 ^ 32, 0)
  | _, .flt .f32 => flushRes ftz (cvtToFloat .f32 mode sat x)
  | _, .flt f => cvtToFloat f mode sat x
  | _, .i32 => let r := cvtToInt (-2147483648) 2147483647 mode sat x; ((r.1 % 4294967296).toNat, r.2)
  | _, .u32 => let r := cvtToInt 0 4294967295 mode sat x; ((r.1 % 4294967296).toNat, r.2)

/-! ## Minimum and maximum (05 R144) -/

/-- Orders −0 below +0. -/
def leTotal (a b : Num) : Bool :=
  let c := cmpNum a b
  if c = 0 then a.neg? || !b.neg? else decide (c < 0)

/-- Minimum or maximum of two patterns of a format (05 R144). -/
def minMax (f : Fmt) (isMax : Bool) (a b : Nat) : Nat × Fx :=
  let x := val f a
  let y := val f b
  let fx := snanFx [x, y]
  if x.isNan && y.isNan then (f.nan, fx)
  else if x.isNan then (b, fx)
  else if y.isNan then (a, fx)
  else ((if leTotal x y == isMax then b else a), fx)

end Sys2Proof.Machine
end

