-- ==== Sys2Proof/Machine/State.lean ====
section
/-! DEFINITION. The state of one WV80 as plain data: lanes, parts, waves, groups, cores, engines, memory, the launch
machinery and the host's registers. Every field names the rule of the spec that gives it and its value at reset or at
creation. "none" in a reset note says that the object does not exist at device reset. -/

namespace Sys2Proof.Machine

/-! ## Results, windows, clauses -/

/-- Where a short-latency result goes (01 R12, R32). -/
inductive RegLoc where
  /-- Vector register `r` of a lane. -/
  | v (r lane : Nat)
  /-- Scalar register `r` of the part. -/
  | s (r : Nat)
  /-- Reservoir register `r` of a lane. -/
  | q (r lane : Nat)
  deriving DecidableEq, Repr

/-- One entry of the forwarding window (01 R32). -/
structure WEntry where
  /-- (01 R32, R33) The T bit: the bank write is elided when the entry leaves. Creation: from the instruction. -/
  t : Bool
  /-- (01 R32) The values for the part's lanes. Creation: from the instruction. -/
  w : List (RegLoc × Word128)
  deriving DecidableEq, Repr

/-- State of a divergence stack entry (04 R110). -/
inductive DivState where
  | first
  | second
  deriving DecidableEq, Repr

/-- One divergence stack entry (04 R110). -/
structure DivEntry where
  /-- (04 R110) Resume PC. Creation: the clause after the BRM. -/
  resume : Word64
  /-- (04 R110) Resume mask. Creation: the fall-through set. -/
  rmask : Word64
  /-- (04 R110) Saved mask. Creation: s63 before the BRM. -/
  smask : Word64
  /-- (04 R110, R111) First or second. Creation: first. -/
  st : DivState
  deriving DecidableEq, Repr

/-- One active level of the hardware loop (04 R115). -/
structure LoopLevel where
  /-- (04 R115) LC0 or LC1 of the level. Creation: the count. -/
  count : Word32
  /-- (04 R115) Start: the clause after the LOOP. Creation: that clause. -/
  start : Word64
  /-- (04 R115) The end clause. Creation: base + 2 × end. -/
  stop : Word64
  deriving DecidableEq, Repr

/-- Why a clause is held at commit (06 R167, R172, R179; 07 R192, R197; 01 R37; 10 R257). -/
inductive HoldReason where
  /-- FENCE of a kind at scope 9 or 10 (06 R167). -/
  | fence (kind : Nat)
  /-- WAITB of a batch number (06 R172). -/
  | waitb (n : Word32)
  /-- BFENCE (06 R168). -/
  | bfence
  /-- BARWAIT on the object at an offset, against a phase; whether the clause itself has updated it (06 R179). -/
  | barwait (off : Nat) (ph own : Bool)
  /-- GBAR on a set (06 R180). -/
  | gbar (set : Nat)
  /-- A flag of some quad would pass 15 (01 R37). -/
  | flag (f : Nat)
  /-- The group's matrix queue is full (07 R192). -/
  | matrixFull
  /-- Sixteen chart requests are outstanding (07 R205). -/
  | chartLimit
  /-- OBRES or OBFREE waits for MMAs that name the record (07 R197). -/
  | record (o : Nat)
  /-- TFREE waits for queue entries that name the tile (07 R198). -/
  | tile (t : Nat)
  /-- Sixty-four bank products are in flight (06 R181). -/
  | bmvLimit
  /-- The copy front end or the range scoreboard is full (06 R171). -/
  | copyFull
  /-- A scratchpad access overlaps a live range, as a read or a write (10 R257). -/
  | board (write : Bool) (ranges : List (Nat × Nat))
  /-- The result of a TQTAKE has not arrived (04 R126). -/
  | taskQueue
  /-- The destination queue of LAUNCH is full (04 R127). -/
  | launchFull
  /-- The course partner's group is not resident (07 R202). -/
  | partner
  /-- An earlier access of the part keeps a scratchpad access waiting: one of lost data, or an atomic of scope span or system that has not
  returned (06 R165, 11 R274). -/
  | line
  /-- An access that a child of LAUNCH observes has yet to be performed (04 R127). -/
  | child
  /-- Page walks that the clause's accesses need have not ended (12 R299). -/
  | walk
  deriving DecidableEq, Repr

/-- What a part does at the moment (09 R223, R224, R233). -/
inductive Phase where
  /-- It stands at a clause header. -/
  | header
  /-- It has started its clause and `k` of the clause's instructions have been issued. -/
  | issuing (k : Nat)
  /-- It is held at commit. -/
  | held (r : HoldReason)
  deriving DecidableEq, Repr

/-- The clause a part has reached: the fetched bytes and what the header says (03 R76, R79). -/
structure Clause where
  /-- (03 R79) The header word. Creation: fetched. -/
  hdr : Word32
  /-- (03 R76, R78) The bytes of the instructions. Creation: fetched through an X leaf. -/
  bytes : List Byte
  /-- (04 R107) Address of the next clause. Creation: after the last halfword. -/
  next : Word64
  deriving DecidableEq, Repr

/-- A leaf translation (12 R292, R298). -/
structure Leaf where
  /-- (12 R298) Function and address space. -/
  space : Nat × Nat
  /-- (12 R293, R295) First virtual address of the range. -/
  vbase : Nat
  /-- (12 R293, R295) Size of the range. -/
  size : Nat
  /-- (12 R293) Physical address of the range. -/
  pbase : Nat
  /-- (12 R292) Kind. -/
  kind : Nat
  /-- (12 R292) Cache policy. -/
  policy : Nat
  /-- (12 R292) Compression allowed. -/
  ca : Bool
  /-- (12 R292) Bank format. -/
  fmt : Nat
  /-- (12 R292) X. -/
  x : Bool
  /-- (12 R292) W. -/
  w : Bool
  /-- (12 R292) R. -/
  r : Bool
  deriving DecidableEq, Repr

/-- What a walk ended in: its leaf, or a fault's subcode and level (12 R293). -/
inductive WalkEnd where
  /-- The leaf. -/
  | leaf (l : Leaf)
  /-- A translation fault. -/
  | fault (sub lv : Nat)
  deriving DecidableEq, Repr

/-- The result of a walk that a part asked for (12 R299). -/
structure Walked where
  /-- (12 R299) Virtual address of the request. -/
  va : Word64
  /-- (12 R299) What the walk ended in. -/
  res : WalkEnd
  deriving DecidableEq, Repr

/-- A part of a wave (01 R6, R12). -/
structure Part where
  /-- (01 R6) The part's quads; the part is named by its lowest quad. Creation: every quad of the wave. -/
  quads : BitVec 16
  /-- (01 R12, R15, R16) s0 to s63, the bank values. Creation: s0 to s15 the argument block, s63 the lanes, else zero. -/
  sregs : SMap 64
  /-- (01 R12) PC: the address of the clause header. Creation: the entry clause. -/
  pc : Word64
  /-- (04 R110) Divergence stack, top first, at most 32 entries. Creation: empty. -/
  stack : List DivEntry
  /-- (04 R115) Active loop levels, inner first, at most two. Creation: none. -/
  loops : List LoopLevel
  /-- (01 R12, 11 R287) pts. Creation: the larger of the floor and the launch's start time. -/
  pts : Word64
  /-- (01 R32) Forwarding window, youngest first, at most eight entries. Creation: empty. -/
  window : List WEntry
  /-- (09 R223, R224) What the part does. Creation: at its header. -/
  phase : Phase
  /-- (03 R76) The clause it has started. Creation: none. -/
  clause : Option Clause
  /-- (01 R21) MODE under which the part's clause runs. Creation: the group's MODE. -/
  mode : Word64
  /-- (04 R112) The join wait at this header has ended. Creation: false. -/
  joinDone : Bool
  /-- (04 R118) The JOIN of the clause it stands at is passed over. Creation: false. -/
  skipJoin : Bool
  /-- (04 R119) The pass bit. Creation: false. -/
  passBit : Bool
  /-- (14 R337) The next start is not matched by a breakpoint. Creation: false. -/
  bpPass : Bool
  /-- (09 R232, 14 R335) It has stood at this header, and the limits and the breakpoint below are those it reached it with. Creation: false. -/
  reached : Bool
  /-- (09 R232) SPLITD as it reached its header. Creation: 32. -/
  limSplit : Nat
  /-- (09 R232) FUSEL as it reached its header. Creation: 2^20. -/
  limFuse : Nat
  /-- (09 R232) JOINT as it reached its header. Creation: 10. -/
  limJoin : Nat
  /-- (14 R335, R337) The lowest breakpoint that named its header as it reached it. Creation: none. -/
  bpHere : Option Nat
  /-- (09 R227) Cycles until the copied scalar bank is ready, plus one; 0 when it is. Creation: 0. -/
  copyWait : Nat
  /-- (04 R112) Cycles waited at a join and the limit (none is unbounded). Creation: no wait. -/
  joinWait : Option (Nat × Option Nat)
  /-- (09 R228) Cycles waited for a fuse and the limit. Creation: no wait. -/
  fuseWait : Option (Nat × Nat)
  /-- (09 R226) The ready set, how many cycles it has held, and the limit. Creation: none. -/
  splitWait : Option (BitVec 16 × Nat × Nat)
  /-- (04 R128) Cycles of sleep left, plus one; 0 when awake. Creation: 0. -/
  sleep : Nat
  /-- (04 R128) Asleep until the next pulse tick. Creation: false. -/
  sleepTick : Bool
  /-- (04 R120) Cycles of YIELD left, plus one; 0 when it does not yield. Creation: 0. -/
  yieldLeft : Nat
  /-- (04 R120) Yields until another part of its slot has issued. Creation: false. -/
  yieldOther : Bool
  /-- (09 R235) Starvation count. Creation: 0. -/
  starve : Nat
  /-- (09 R235) In class 0. Creation: false. -/
  starved : Bool
  /-- (09 R236) Spin count. Creation: 0. -/
  spin : Nat
  /-- (09 R236) Spin line. Creation: none. -/
  spinLine : Option Nat
  /-- (09 R236) Write time of the spin line at the last load of it. Creation: 0. -/
  spinWts : Word64
  /-- (09 R236) Commit order before which what a load still does leaves the count as it is. Creation: 0. -/
  spinFrom : Nat
  /-- (09 R236) Cycles of spin demotion left, plus one; 0 when not demoted. Creation: 0. -/
  demoted : Nat
  /-- (11 R284) Time of the part's latest access that has not returned. Creation: 0. -/
  owed : Word64
  /-- (10 R259, 11 R278) Timebase of the last acquire at scope 9 or 10. Creation: the packet's fetch. -/
  acquired : Nat
  /-- (06 R167) The tick a FENCE.SC waits for. Creation: none. -/
  fenceTick : Option Nat
  /-- (12 R299) Results of the walks asked for at the clause it stands at. Creation: none. -/
  walked : List Walked
  /-- (14 R335) The watchpoint registers as they stood when the checks of the clause it is held at began. Creation: none. -/
  watch : Option (SMap 64)
  /-- (04 R126) The result of the TQTAKEs of the clause it is held at has arrived. Creation: false. -/
  tqReady : Bool
  /-- (06 R168) Largest output time of the bank products of its quads that have completed. Creation: 0. -/
  bmvTime : Word64
  /-- (06 R180) Sets whose GBAR in the clause it is held at is released, with the pts to raise to. Creation: none. -/
  gbarGo : List (Nat × Word64)
  /-- (09 R245) Cycles without a break that it has waited on ACQUIRE or TALLOC at its header. Creation: 0. -/
  allotWait : Nat
  /-- (07 R198) First units granted to the TALLOCs of that clause, in slot order: first unit and count. Creation: none. -/
  tallocGrant : List (Nat × Nat)
  /-- (01 R11, 03 R81) The clause it has started holds ACQUIRE and runs under the full allotment. Creation: false. -/
  acqClause : Bool
  /-- (06 R167) Cycle at which its clause was last held at commit. Creation: 0. -/
  heldAt : Nat
  /-- (09 R233) Cycle at which the issue of its last instruction ends. Creation: 0. -/
  issueEnd : Nat
  /-- (03 R81) It stood at its header when a cycle ended: its clause has passed the decode checks. Creation: false. -/
  arrived : Bool
  deriving DecidableEq, Repr

/-! ## Waves and groups -/

/-- A failure of an engine operation, kept for the WAITB that reports it (06 R173). -/
structure Failure where
  /-- (06 R172) Batch number. -/
  batch : Word32
  /-- (06 R173) Commit order of the failed operation. -/
  order : Nat
  /-- (12 R301) Failure cause: 1 translation, 2 permission, 3 uncorrectable, 4 link. -/
  cause : Nat
  /-- (12 R301) First failing address. -/
  va : Word64
  /-- (06 R173) Granules done. -/
  granules : Nat
  /-- (12 R305) Address of the header of the failed instruction's clause. -/
  pos : Word64
  deriving DecidableEq, Repr

/-- What a stop of a wave reports (12 R301, R305). -/
structure TrapInfo where
  /-- (12 R301) Cause code, 0 for a halt or step (14 R336). -/
  cause : Nat
  /-- (12 R301) Subcode. -/
  sub : Nat
  /-- (12 R301) Detail. -/
  detail : Nat
  /-- (12 R301) Lane mask. -/
  lanes : Word64
  /-- (12 R301) Address. -/
  addr : Word64
  /-- (12 R305) Slot index, when valid. -/
  slot : Option Nat
  /-- (12 R305) Bits of the reported instruction. -/
  bits : Word32
  /-- (12 R305) Granules done, cause 0x0C. -/
  granules : Nat
  /-- (12 R305) Batch number, cause 0x0C. -/
  batch : Nat
  /-- (12 R305) Second position: the clause header's address. -/
  second : Option Word64
  /-- (06 R173) Commit order of the failed item, cause 0x0C. -/
  order : Nat
  deriving DecidableEq, Repr

/-- A stopped wave (09 R231, 12 R307, R308). -/
structure Halt where
  /-- (12 R305) What the record reports. -/
  info : TrapInfo
  /-- (12 R306) Lowest quad of the part that raised it; none for a halt or step. -/
  raiser : Option Nat
  /-- (09 R231) Every part stands at a header. -/
  stopped : Bool
  /-- (12 R307) The record is written. -/
  written : Bool
  /-- (12 R308, 14 R336) The wave is being killed. -/
  kill : Bool
  /-- (14 R338) Cycle of the event that stops it. -/
  since : Nat
  deriving DecidableEq, Repr

/-- A wave (01 R6, R12). -/
structure Wave where
  /-- (09 R237) Launch sequence number. -/
  launch : Nat
  /-- (01 R6) Key of its group. -/
  group : Nat
  /-- (04 R122) WAVEID: wave index within the group. -/
  index : Nat
  /-- (01 R8) Core. -/
  core : Nat
  /-- (01 R8) Issue slot. -/
  slot : Nat
  /-- (09 R244) Wave context within the slot. -/
  ctx : Nat
  /-- (01 R12, R40) Generation number. Creation: assigned by the core. -/
  gen : BitVec 16
  /-- (01 R7) Launch width code 0 to 4. Creation: from the packet. -/
  width : Nat
  /-- (01 R10) Role. -/
  role : Nat
  /-- (01 R10) Prologue allotment. -/
  prologue : Nat
  /-- (01 R10) Full allotment. -/
  full : Nat
  /-- (01 R11) Current allotment. Creation: the prologue allotment. -/
  cur : Nat
  /-- (01 R22) FPX. Creation: zero. -/
  fpx : Word64
  /-- (04 R123) The cycle, plus one, in which events last set FPX bits. Creation: 0. -/
  fpxAt : Nat
  /-- (04 R123) The bits that events have set in that cycle. Creation: zero. -/
  fpxNew : Word64
  /-- (06 R172) Copy batch counter. Creation: zero. -/
  batch : Word32
  /-- (01 R12) v0 to v127 of every lane, key lane × 128 + register. Creation: zero. -/
  vregs : SMap 32
  /-- (01 R14) q0 and q1 of every lane, key lane × 2 + register. Creation: zero. -/
  qregs : SMap 128
  /-- (01 R36) Pending counts of f0 to f11 of every quad, key quad × 12 + flag. Creation: clear. -/
  flags : SMap 4
  /-- (01 R36) Position that last raised each flag: key quad × 12 + flag, header address and slot. Creation: none. -/
  blame : AMap (Word64 × Nat)
  /-- (01 R16, 04 R118) Lanes that have executed EXIT. Creation: none. -/
  exited : Word64
  /-- (01 R6) Parts, in ascending lowest quad. Creation: one part of every quad. -/
  parts : List Part
  /-- (09 R231) The stop of the wave, if it is stopped or stopping. Creation: none. -/
  halt : Option Halt
  /-- (12 R304) Failures after commit that the wave has still to report, its stop being for something else. Creation: none. -/
  late : List (Option Nat × TrapInfo)
  /-- (09 R245) Pending ACQUIRE request: cycles waited. Creation: none. -/
  acqReq : Option Nat
  /-- (04 R124) ACQUIRE granted to the clause that waits for it. Creation: false. -/
  acqGrant : Bool
  /-- (06 R173) Failures not yet reported. Creation: none. -/
  failures : List Failure
  /-- (06 R172, 11 R286) Largest granule time of each batch's finished items, by batch number. Creation: none. -/
  btimes : SMap 64
  /-- (14 R340) Counters 0 to 10. Creation: zero. -/
  counters : SMap 64
  /-- (09 R227, 14 R340) Splits. Creation: 0. -/
  splits : Nat
  /-- (14 R340) Fuses. Creation: 0. -/
  fuses : Nat
  /-- (14 R336) Cycles left of a Step, if stepping. Creation: none. -/
  stepping : Option Nat
  /-- (04 R118) Retired. Creation: false. -/
  retired : Bool
  /-- (12 R308) Killed. Creation: false. -/
  killed : Bool
  /-- (14 R341) The profile record is written. Creation: false. -/
  profiled : Bool
  /-- (12 R308) Saved by the debugger, its context held in the context area. Creation: false. -/
  saved : Bool
  deriving DecidableEq, Repr

/-- An operand-buffer record (01 R23). -/
structure OBRec where
  /-- (01 R23) Scratchpad offset of B. -/
  base : Nat
  /-- (01 R23) Bytes reserved. -/
  size : Nat
  /-- (01 R23) B type. -/
  fmt : Nat
  /-- (01 R23) Block length code. -/
  blen : Nat
  /-- (01 R23) Scale area offset. -/
  soff : Nat
  /-- (01 R23) Tensor scale. -/
  tscale : Word32
  /-- (01 R23) Sparse. -/
  sparse : Bool
  /-- (01 R23) Identity. -/
  ident : Word64
  deriving DecidableEq, Repr

/-- An accumulator tile handle (01 R24). -/
structure Tile where
  /-- (01 R24) First unit, 0 to 15. -/
  first : Nat
  /-- (01 R24) Unit count, 1 to 16. -/
  units : Nat
  /-- (01 R24) Integer flag. -/
  int : Bool
  deriving DecidableEq, Repr

/-- The work of one entry of a group's matrix queue (07 R191, R198, R200, R201). -/
inductive MQWork where
  /-- MMA: Z, C, S, tile, record number, shape, the record, the course partner's record and tile, and A's registers row by row
  (07 R187, R189, R202). -/
  | mma (z c s : Bool) (t o shape : Nat) (obrec : OBRec) (mate : Option (OBRec × Tile)) (a : List (List Word32))
  /-- ACCZERO of a tile. -/
  | acczero (t : Nat)
  /-- ACCRD: tile, first register, control word, active lanes, scales by row or column (07 R200). -/
  | accrd (t vd : Nat) (ctl : Word64) (lanes : Word64) (scales : SMap 32)
  /-- ACCWR: tile, control word, and each lane's registers (07 R201). -/
  | accwr (t : Nat) (ctl : Word64) (data : List (Nat × List Word32))
  deriving DecidableEq, Repr

/-- One entry of a group's matrix queue (07 R192). -/
structure MQEntry where
  /-- (07 R192) Identity, in commit order. -/
  id : Nat
  /-- (07 R192) Key of the issuing wave. -/
  wave : Nat
  /-- (01 R40) Generation at dispatch. -/
  gen : BitVec 16
  /-- (01 R36) Quads whose flag it raised, and the flag. -/
  quads : BitVec 16
  /-- (01 R36) The flag, if any. -/
  flag : Option Nat
  /-- (07 R192) The work. -/
  work : MQWork
  /-- (07 R192, R194) The cycle at which it ends, once started. -/
  ends : Option Nat
  /-- (07 R203) Dispatched to the follower core. -/
  dispatched : Bool
  /-- (07 R193) Scratchpad writes of later instructions of its own clause, which wait until it has read its last byte: offset and byte. -/
  later : List (Nat × Byte)
  deriving DecidableEq, Repr

/-- An MMA or ACCRD that has left the queue and whose flag has not cleared (07 R192). -/
structure MDone where
  /-- (07 R192) Cycle at which its flag clears. -/
  due : Nat
  /-- (07 R192) Key of the wave. -/
  wave : Nat
  /-- (01 R40) Generation at dispatch. -/
  gen : BitVec 16
  /-- (01 R36) Quads. -/
  quads : BitVec 16
  /-- (01 R36) Flag. -/
  flag : Option Nat
  /-- (07 R200) Registers ACCRD writes: key lane × 128 + register. -/
  writes : List (Nat × Word32)
  deriving DecidableEq, Repr

/-- A group (01 R6, R12). -/
structure Group where
  /-- (09 R237) Launch sequence number. -/
  launch : Nat
  /-- (04 R122) Group index within its launch. -/
  index : Nat
  /-- (09 R243) Core; none while saved. -/
  core : Option Nat
  /-- (10 R256) Base of the scratchpad allotment. -/
  base : Nat
  /-- (10 R256) Size of the scratchpad allotment. -/
  size : Nat
  /-- (10 R256) Scratchpad contents by offset. Creation: zero. -/
  spad : SMap 8
  /-- (11 R286) Scratchpad time st. Creation: 0. -/
  st : Word64
  /-- (01 R19) MODE. Creation: from the packet, or 0x000A_0001. -/
  mode : Word64
  /-- (01 R23) Records o0 to o7, by number. Creation: none valid. -/
  recs : AMap OBRec
  /-- (01 R24) Tile handles t0 to t15, by number. Creation: none valid. -/
  tiles : AMap Tile
  /-- (01 R25) SPDOOB. Creation: zero. -/
  spdoob : Word64
  /-- (04 R123) The cycle, plus one, in which an access was last out of range. Creation: 0. -/
  oobAt : Nat
  /-- (04 R123) What SPDOOB would record of the first such access of that cycle. Creation: zero. -/
  oobNew : Word64
  /-- (09 R232) SPLITD. Creation: 32. -/
  splitd : Nat
  /-- (09 R232) FUSEL. Creation: 2^20. -/
  fusel : Nat
  /-- (07 R192) Matrix queue, head first, at most four. Creation: empty. -/
  mq : List MQEntry
  /-- (12 R304) Failed. Creation: false. -/
  failed : Bool
  /-- (09 R249) Pending pre-emption: cycles since the request. Creation: none. -/
  preempt : Option Nat
  /-- (09 R245) The pre-emption was asked for by the arbiter for this list. Creation: none. -/
  preemptFor : Option Nat
  /-- (09 R249) A request of the host's runtime beside the arbiter's pending one: cycles since it. Creation: none. -/
  preemptHost : Option Nat
  /-- (09 R245) Lists whose arbiter passes it over, because a pre-emption for them failed. Creation: none. -/
  passed : List Nat
  /-- (09 R249) Saved, with its context in the context area. Creation: false. -/
  saved : Bool
  /-- (09 R249, 12 R309) Tile images of a saved group: key tile × 2^20 + word. Creation: none. -/
  images : SMap 32
  /-- (09 R234) Occupancy counts of the pipeline queues. Creation: 0. -/
  occ : AMap Nat
  /-- (09 R241) Every wave retired and its resources returned. Creation: false. -/
  left : Bool
  deriving DecidableEq, Repr

/-! ## Cores -/

/-- A copy of a line in an L1 (10 R258, 11 R283). -/
structure L1Line where
  /-- (10 R258) Line key: the memory key of its first byte divided by 128. -/
  line : Nat
  /-- (11 R283) Lease end. -/
  lease : Word64
  /-- (10 R258) Write time of the copy. -/
  wts : Word64
  /-- (10 R258) The 128 bytes. -/
  data : List Byte
  /-- (10 R259) Timebase of its fill, for span and system lines. -/
  filled : Nat
  deriving DecidableEq, Repr

/-- A walk cache entry (12 R298). -/
structure WalkEntry where
  /-- (12 R298) Function and address space. -/
  space : Nat × Nat
  /-- (12 R298) Level of the entry read. -/
  level : Nat
  /-- (12 R298) Virtual address bits above the level's offset. -/
  tag : Nat
  /-- (12 R298) Physical address of the next table. -/
  next : Nat
  deriving DecidableEq, Repr

/-- A walk request (12 R298, R299). -/
structure WalkReq where
  /-- (12 R298) Core that asked. -/
  core : Nat
  /-- (12 R298) Function and address space. -/
  space : Nat × Nat
  /-- (12 R293) Virtual address. -/
  va : Word64
  /-- (12 R299) Key of the wave that waits for it. -/
  wave : Nat
  /-- (12 R299) Quads of the part that waits for it. -/
  quads : BitVec 16
  /-- (12 R299) What it ended in with another walk whose result it takes. -/
  res : Option WalkEnd
  deriving DecidableEq, Repr

/-- A live range of the range scoreboard (10 R257). -/
structure Range where
  /-- (10 R257) Owning engine operation. -/
  op : Nat
  /-- (10 R257) Key of the group whose allotment it lies in. -/
  group : Nat
  /-- (10 R257) Write range. -/
  write : Bool
  /-- (10 R257) First granule. -/
  lo : Nat
  /-- (10 R257) First granule after the range. -/
  hi : Nat
  deriving DecidableEq, Repr

/-- Key of a chart (07 R205). -/
structure ChartKey where
  /-- (07 R205) Identity. -/
  ident : Word64
  /-- (07 R205) Shape. -/
  shape : Nat
  /-- (07 R205) Format. -/
  fmt : Nat
  deriving DecidableEq, Repr

/-- An entry of the chart cache (07 R205, R206). -/
structure Chart where
  /-- (07 R205) Key. -/
  key : ChartKey
  /-- (07 R205) 0 ready, 1 dense fallback for density, 2 for size. -/
  reason : Nat
  /-- (07 R208) Present elements. -/
  nnz : Nat
  /-- (07 R205) Micro-operations. -/
  count : Nat
  /-- (07 R197, R204) The pattern it was compiled from: of each column, the present elements as the bits of a number. -/
  pattern : List Nat
  /-- (07 R207) Discarded while pinned: the MMAs that pinned it, by their places in the commit order. -/
  dead : Option (List Nat)
  deriving DecidableEq, Repr

/-- A request to the chart compiler (07 R205). -/
structure ChartReq where
  /-- (07 R205) Key. -/
  key : ChartKey
  /-- (07 R205) Group and record it reads. -/
  group : Nat
  /-- (07 R205) The record. -/
  obrec : OBRec
  /-- (07 R186) Columns of the key's half. -/
  nt : Nat
  /-- (07 R207) Made for CHARTPF alone. -/
  pf : Bool
  /-- (10 R257) Its place in the commit order: its read waits only on ranges older than it. -/
  born : Nat
  deriving DecidableEq, Repr

/-- A core (01 R1, R26; 09 R233, R245; 07 R194, R205). -/
structure Core where
  /-- (01 R26) STALE. Reset: DESIGN CHOICE 0 (log entry 4). -/
  stale : Word64
  /-- (04 R123) The cycle, plus one, in which STALE last counted. Reset: 0. -/
  staleAt : Nat
  /-- (04 R123) What STALE counted in that cycle. Reset: 0. -/
  staleNew : Word64
  /-- (09 R233) Cycle at which each slot falls free. Reset: 0. -/
  slotFree : SMap 64
  /-- (10 R258) L1 lines, most recently used first. Reset: empty. -/
  l1 : List L1Line
  /-- (10 R260) Its cluster is fused. Reset: false. -/
  fused : Bool
  /-- (12 R298) L1 TLB, most recently used first, at most 128. Reset: empty. -/
  tlb : List Leaf
  /-- (07 R186, R198) Accumulator memory words, 65,536 of them. Reset: DESIGN CHOICE 0 (log entry 4). -/
  acc : SMap 32
  /-- (07 R194) Cycle at which the array falls free. Reset: 0. -/
  arrayFree : Nat
  /-- (07 R194) Group served last by the array. Reset: 0. -/
  lastGroup : Nat
  /-- (07 R203) Leader group of the course MMA this core follows. Reset: none. -/
  slaved : Option Nat
  /-- (07 R206) Chart cache, most recently used first. Reset: empty. -/
  charts : List Chart
  /-- (07 R205) Chart requests in arrival order. Reset: empty. -/
  chartQ : List ChartReq
  /-- (07 R205) Compile in progress and the cycle it ends. Reset: none. -/
  compiling : Option (ChartReq × Nat)
  /-- (10 R257) Range scoreboard. Reset: empty. -/
  board : List Range
  /-- (14 R346) The core's clock is stopped. Reset: false. -/
  stopped : Bool
  /-- (14 R343) Splits of the core's waves. Reset: 0. -/
  splits : Word64
  /-- (14 R343) Fuses of the core's waves. Reset: 0. -/
  fuses : Word64
  /-- (13 R327) Retired. Reset: false. -/
  retired : Bool
  /-- (01 R40) Next generation number of each context, key slot × 16 + context. Reset: DESIGN CHOICE 0 (log entry 4). -/
  gens : SMap 16
  /-- (09 R245) Lists in which the arbiter is breaking the wait of a request: list, wave and lowest quad. Reset: none. -/
  breaks : List (Nat × Nat × Nat)
  deriving DecidableEq, Repr

/-! ## Memory traffic and engines -/

/-- What a request asks of memory (06 R158, R159, R164, R166). -/
inductive ReqKind where
  /-- A load into vector registers: first register and size code. -/
  | vload (d size : Nat)
  /-- A load into scalar registers: first register and size code. -/
  | sload (d size : Nat)
  /-- A store. -/
  | store
  /-- A scalar atomic: op, size code (0 for 32 bits), operand, swap, destination, scope. -/
  | atom (op size : Nat) (b c : Word64) (d scope : Nat)
  /-- A vector atomic: op and destination. -/
  | vatom (op d : Nat)
  /-- A scratchpad load, served when it committed. -/
  | lload (d size : Nat)
  /-- A scratchpad atomic, served when it committed. -/
  | latom (d : Nat)
  /-- A scalar result that needs no memory: BSTAT, CHARTQ. -/
  | sres (d : Nat)
  deriving DecidableEq, Repr

/-- One lane's access of a request (11 R273). -/
structure Access where
  /-- (06 R158) Lane; 64 for a scalar access. -/
  lane : Nat
  /-- (06 R153) Virtual address. -/
  va : Word64
  /-- (12 R293) Memory keys of its bytes, least significant first. -/
  keys : List Nat
  /-- (12 R292) Kind and cache policy of the leaf. -/
  kind : Nat
  /-- (10 R252) Cache policy. -/
  policy : Nat
  /-- (10 R262) Compression allowed. -/
  ca : Bool
  /-- Store data or atomic operand and swap, and after service the value returned, as bytes. -/
  data : List Byte
  /-- (06 R166) Second operand of a CAS. -/
  data2 : List Byte
  /-- (11 R283, R284) Served. -/
  served : Bool
  /-- (11 R284) Time it was given. -/
  time : Word64
  /-- (11 R284) Lease end it was served under from an L1, if it was. -/
  lease : Option Word64
  /-- (10 R268, 11 R284) It has reached its line and been timed, and waits there: a bank product holds the line, or its data is lost. -/
  parked : Bool
  /-- (12 R304, 13 R324) Its first failure has been retried. -/
  retried : Bool
  /-- (13 R324) Port of the span on which it failed first. -/
  port : Option Nat
  /-- (13 R324) Port of the span on which it was sent, noted before a change to the ports. -/
  sent : Option Nat
  deriving DecidableEq, Repr

/-- A committed request in flight (11 R273, R284; 01 R36, R40). -/
structure Req where
  /-- (01 R40) Key of the wave. -/
  wave : Nat
  /-- (01 R40) Generation at dispatch. -/
  gen : BitVec 16
  /-- (01 R36) Quads of the issuing part. -/
  quads : BitVec 16
  /-- (11 R272) Quads of the parts in whose program order it stands: those of the issuing part and of every part it has fused into. -/
  after : BitVec 16
  /-- (01 R36) Quads whose flag is still up for it. -/
  pending : BitVec 16
  /-- (01 R36) The flag it raised, if any. -/
  flag : Option Nat
  /-- (06 R158) What it asks. -/
  kind : ReqKind
  /-- (06 R156) Its accesses, in program order. -/
  accs : List Access
  /-- (10 R269) Cycle before which nothing of it returns. -/
  ready : Nat
  /-- (11 R284) Timebase by which it has been delivered. -/
  due : Nat
  /-- (12 R305) Header address of its clause. -/
  pos : Word64
  /-- (11 R284) Its time has returned to the part. -/
  timed : Bool
  /-- (06 R165) A scoped atomic has returned to the part, whose later accesses may leave. -/
  back : Bool
  deriving DecidableEq, Repr

/-- What an engine operation does (06 R170, R174, R175). -/
inductive EngKind where
  /-- TCOPY: the descriptor's dwords. -/
  | copy (desc : List Word64)
  /-- GATHER. -/
  | gather (desc : List Word64)
  /-- PUTSIG. -/
  | putsig (desc : List Word64)
  deriving DecidableEq, Repr

/-- A copy, gather or PUTSIG in flight (06 R171 to R175). -/
structure EngOp where
  /-- (06 R172) Key of the wave. -/
  wave : Nat
  /-- (01 R40) Generation at commit. -/
  gen : BitVec 16
  /-- (06 R167) Quads of the issuing part. -/
  quads : BitVec 16
  /-- (11 R272) Quads of the parts in whose program order it stands, as a request's. -/
  after : BitVec 16
  /-- (10 R257) Key of the group. -/
  group : Nat
  /-- (06 R171) Core whose front end holds it. -/
  core : Nat
  /-- (12 R291) Function and address space. -/
  space : Nat × Nat
  /-- (06 R172) Batch number. -/
  batch : Word32
  /-- (06 R173) Commit order. -/
  order : Nat
  /-- (06 R169) Barrier object offset, if any. -/
  barrier : Option Nat
  /-- (06 R170) The descriptor. -/
  kind : EngKind
  /-- (06 R170) Rounding mode and FTZ at commit: MODE. -/
  mode : Word64
  /-- (11 R286) The part's pts at commit. -/
  c : Word64
  /-- (06 R171) Granules or elements done. -/
  done : Nat
  /-- (06 R178) Destination bytes counted down. -/
  counted : Nat
  /-- (06 R171) Row of the copy it has reached. -/
  row : Nat
  /-- (06 R171) Destination bytes of that row that are done. -/
  pos : Nat
  /-- (06 R172) Largest time of its granules. -/
  time : Word64
  /-- (12 R305) Header address of its clause. -/
  hdrAt : Word64
  /-- (13 R324) Port of the span on which its present item failed first. -/
  port : Option Nat
  /-- (13 R324) Port of the span on which its present item was sent, noted before a change to the ports. -/
  sent : Option Nat
  /-- (10 R269) Cycle before which it does not go on. -/
  ready : Nat
  deriving DecidableEq, Repr

/-- What waits at a line that a bank product holds, to be done when it is released (10 R268, 11 R284). -/
inductive Parked where
  /-- The bytes of a store, by memory key, with the policy and the compression attribute of its page. -/
  | bytes (kb : List (Nat × Byte)) (policy : Nat) (ca : Bool)
  /-- The status byte of a group of another product, and the key of the group's unit. -/
  | status (key : Nat) (b : Byte) (unit : Option Nat) (policy : Nat) (ca : Bool)
  /-- A load or an atomic: the request and which of its accesses. -/
  | access (rid i : Nat)
  deriving DecidableEq, Repr

/-- A bank product in flight (06 R181 to R183, 10 R267, R268). -/
structure BmvOp where
  /-- (06 R181) Key of the wave. -/
  wave : Nat
  /-- (01 R40) Generation at dispatch. -/
  gen : BitVec 16
  /-- (06 R181) Quads and flag. -/
  quads : BitVec 16
  /-- (06 R168, 11 R272) Quads of the parts in whose program order it stands, as a request's. -/
  after : BitVec 16
  /-- (01 R36) Flag. -/
  flag : Option Nat
  /-- (12 R291) Function and address space. -/
  space : Nat × Nat
  /-- (12 R298) Core that issued it. -/
  core : Nat
  /-- (06 R183) BMVACC. -/
  acc : Bool
  /-- (06 R182) The descriptor's dwords. -/
  desc : List Word64
  /-- (11 R286) The part's pts at commit. -/
  c : Word64
  /-- (10 R268) x as staged, once staged. -/
  x : Option (List Byte)
  /-- (10 R268) Lines held for y. -/
  held : List Nat
  /-- (10 R268, 11 R284) What has reached a line that it holds, oldest first. -/
  parked : List Parked
  /-- (06 R183, 10 R267) Status bytes of the row groups that are done, by group; no status is 0. -/
  status : SMap 8
  /-- (06 R183) Every group fails with this status: x or the status range faulted. -/
  allFail : Option Nat
  /-- (06 R183) A Q4X format error or NaN scale was met. -/
  fe : Bool
  /-- (10 R269) Cycle before which it does not go on. -/
  ready : Nat
  deriving DecidableEq, Repr

/-- Times of one line of device memory (11 R282). -/
structure LineTime where
  /-- (11 R282) Time of the last write. -/
  wts : Word64
  /-- (11 R282) End of the latest lease. -/
  rts : Word64
  deriving DecidableEq, Repr

/-- What an L2 slice holds of a span or system line (10 R259). -/
structure FarCopy where
  /-- (10 R259) The bytes that its owner returned. -/
  data : List Byte
  /-- (10 R259) Pulse count of its fill: the lease ends at the next tick. -/
  tick : Nat
  /-- (10 R259) Timebase of its fill. -/
  filled : Nat
  deriving DecidableEq, Repr

/-- A line held by an L2 slice (10 R262). -/
structure L2Line where
  /-- (10 R261) Line key. -/
  line : Nat
  /-- (10 R262) Form: 0 zero, 1 compressed, 2 full. -/
  form : Nat
  /-- (10 R262) The code kept in its tag: 0 none, 1 H4, 2 W8, 3 W12, 4 D24. -/
  code : Nat
  /-- (10 R262) Its page permits compression. -/
  ca : Bool
  /-- (10 R262) Dirty. -/
  dirty : Bool
  /-- (10 R259) The copy of a span or system line. -/
  far : Option FarCopy
  deriving DecidableEq, Repr

/-- A bank unit (10 R266, R269; 06 R184). -/
structure BankUnit where
  /-- (13 R327) Retired. -/
  retired : Bool
  /-- (06 R184) Groups completed since reset. -/
  completed : Word32
  deriving DecidableEq, Repr

/-- A task queue (04 R125, R126; 09 R247). -/
structure TaskQueue where
  /-- (04 R126) Next item. -/
  next : Word32
  /-- (04 R126) Items remaining. -/
  remaining : Word32
  /-- (04 R125) Smallest chunk. -/
  minChunk : Word32
  /-- (04 R125) Consumers. -/
  consumers : Nat
  deriving DecidableEq, Repr

/-! ## Launches, code objects, the host -/

/-- A packet waiting in a queue or admitted as a launch (09 R238). -/
structure Launch where
  /-- (09 R237) Function of the queue. -/
  fn : Nat
  /-- (13 R316) Address space. -/
  as : Nat
  /-- (09 R237) Host queue 0 to 7, or 8 + device queue. -/
  queue : Nat
  /-- (09 R238) The packet's 32 dwords. -/
  packet : List Word64
  /-- (01 R15) The argument block's 16 dwords. -/
  args : List Word64
  /-- (09 R239) The set table rows, two dwords each. -/
  sets : List (Word64 × Word64)
  /-- (11 R287) Start time. -/
  start : Word64
  /-- (10 R259, 13 R316) Timebase of the fetch of its packet, which is an acquire for its waves. -/
  fetched : Nat
  /-- (09 R241, 11 R287) Largest time of the engine and bank accesses of its waves. Creation: 0. -/
  time : Word64
  /-- (09 R242) Its dependences held. -/
  depsMet : Bool
  /-- (09 R242) Groups admitted so far. -/
  admitted : Nat
  /-- (09 R241) A group failed, or a dependence word faulted. -/
  failed : Bool
  /-- (09 R240) Refusal cause. -/
  refused : Option Nat
  /-- (09 R241) Status written and resources freed. -/
  complete : Bool
  deriving DecidableEq, Repr

/-- A packet that LAUNCH placed in a device queue (09 R248). -/
structure Child where
  /-- (04 R127) Sequence number. -/
  seq : Nat
  /-- (12 R291) Function and address space. -/
  space : Nat × Nat
  /-- (09 R238) The packet's dwords. -/
  packet : List Word64
  /-- (11 R287) The parent's pts at commit. -/
  start : Word64
  deriving DecidableEq, Repr

/-- A loaded code object: the device's own tables for it (03 R77, 15 R349 to R352). -/
structure CodeObj where
  /-- (15 R352) Identifier. -/
  ident : Word64
  /-- (13 R314) Function and address space. -/
  space : Nat × Nat
  /-- (03 R77) Address of `.text`. -/
  base : Word64
  /-- (03 R77) Size of `.text` in bytes. -/
  size : Nat
  /-- (03 R77) Clause-start map: halfword offsets of headers, rising. -/
  starts : List Nat
  /-- (15 R350) Halfword offsets of the markers' headers, rising. -/
  markers : List Nat
  /-- (15 R350) Address in device memory of the marker table, whose entries hold the liveness masks. -/
  table : Nat
  deriving DecidableEq, Repr

/-- A command queue of a function (13 R314, R316). -/
structure HostQueue where
  /-- (13 R314) QBASE. Reset: DESIGN CHOICE 0 (log entry 4). -/
  base : Word64
  /-- (13 R314) QCTL. Reset: DESIGN CHOICE 0 (log entry 4). -/
  ctl : Word64
  /-- (13 R316) QREAD. Reset: DESIGN CHOICE 0 (log entry 4). -/
  read : Word32
  /-- (13 R316) QDOORBELL. Reset: DESIGN CHOICE 0 (log entry 4). -/
  write : Word32
  /-- (13 R314) QSTAT: cause and stopped. Reset: DESIGN CHOICE 0 (log entry 4). -/
  stat : Word64
  /-- (13 R320) Doorbells that are held until DEVSTATE is 2, oldest first. Reset: none. -/
  held : List Word32
  deriving DecidableEq, Repr

/-- An open trace stream of a core (14 R344, R346). -/
structure Stream where
  /-- (14 R346) Stamp of the previous record. Creation: the stamp it opens with. -/
  last : Nat
  /-- (14 R344) Records lost since the last LOST record. Creation: 0. -/
  lost : Nat
  deriving DecidableEq, Repr

/-- An event to be recorded in a trace stream at the end of its nanosecond (14 R344, R345). -/
structure TraceEv where
  /-- (14 R335) Function whose stream takes it. -/
  fn : Nat
  /-- (14 R344) Core. -/
  core : Nat
  /-- (14 R345) Type. -/
  ty : Nat
  /-- (14 R345) Payload. -/
  payload : Nat
  /-- (14 R345) Argument. -/
  arg : Word64
  deriving DecidableEq, Repr

/-- The registers of one function (13 R314, 14 R335). -/
structure HostFn where
  /-- (13 R314) APBASE, APAS, APFAULT, APFVA, INVVA, INVLEN and the debug registers by offset. Reset: DESIGN CHOICE 0 (log entry 4). -/
  regs : SMap 64
  /-- (13 R314) ASROOT 0 to 15. Reset: DESIGN CHOICE 0 (log entry 4). -/
  asroot : SMap 64
  /-- (13 R314, R316) Queues 0 to 7. Reset: DESIGN CHOICE disabled (log entry 4). -/
  queues : AMap HostQueue
  /-- (13 R317) Invalidation in flight: address space. Reset: none. -/
  inv : Option Nat
  /-- (14 R335) DBGCMD: busy, and the result. Reset: idle, result 0. -/
  dbgBusy : Option Nat
  /-- (14 R335) DBGCMD result. Reset: DESIGN CHOICE 0 (log entry 4). -/
  dbgResult : Nat
  /-- (14 R336) Launch, group and wave that the command in flight names. Reset: 0. -/
  dbgTarget : Nat × Nat × Nat
  /-- (12 R310, 14 R336) Cycle, plus one, at which a Save began to wait. Reset: 0. -/
  dbgSince : Nat
  /-- (13 R318) MSI-X vectors masked. Reset: PRESUMED all masked (log entry 5). -/
  masked : Word32
  /-- (13 R318) MSI-X pending bits. Reset: zero. -/
  pendingMsix : Word32
  /-- (14 R344) Open trace streams by core. Reset: none. -/
  streams : AMap Stream
  /-- (14 R342) Age of the part that each core sampled last, plus one, by core. Reset: 0. -/
  sampled : AMap Nat
  /-- (14 R342) Cycle at which each core last took a sample, plus one, by core. Reset: 0. -/
  sampleCycle : AMap Nat
  deriving DecidableEq, Repr

/-- The clock, the pulse and the power state (11 R280; 13 R330; 14 R346). -/
structure Clocks where
  /-- (04 R122) CLOCK: cycles since device reset. Reset: 0. -/
  cycle : Nat
  /-- (14 R346) Timebase: nanoseconds since device reset. Reset: 0. -/
  ns : Nat
  /-- (14 R346) Fraction of a nanosecond, in units of 1/MHz microseconds. Reset: 0. -/
  frac : Nat
  /-- (13 R330, R332) Arithmetic clock in MHz. Reset: 2,400. -/
  mhz : Nat
  /-- (13 R330) Matrix issue rate halved. Reset: false. -/
  halved : Bool
  /-- (13 R332) Throttled by power. Reset: false. -/
  powerThr : Bool
  /-- (13 R332) Throttled by temperature. Reset: false. -/
  thermThr : Bool
  /-- (13 R330) Every core is stopped. Reset: false. -/
  stopped : Bool
  /-- (11 R280) PULSE: the pulse count. Reset: 0. -/
  pulse : Nat
  /-- (11 R280) Timebase of the next tick. Reset: 128. -/
  nextTick : Nat
  /-- (11 R280) Period code in force. Reset: 1 (128 ns). -/
  period : Nat
  /-- (11 R280) Tension in force. Reset: 2. -/
  tension : Nat
  /-- (11 R280, 13 R332) PULSECFG as written. Reset: period 1, tension 2. -/
  pulsecfg : Word64
  /-- (11 R280) Last tick known to be complete in the span. Reset: 0. -/
  complete : Nat
  /-- (13 R325) Timebase of the last tick received from the span. Reset: 0. -/
  lastSpanTick : Nat
  /-- (13 R325) It has left the span and not joined it again. Reset: false. -/
  leftSpan : Bool
  deriving DecidableEq, Repr

/-- Management, reliability, span and security state (13 R320 to R334). -/
structure Mgmt where
  /-- (13 R314, R320) DEVSTATE state. Reset: 0. -/
  devstate : Nat
  /-- (13 R320) Boot failure cause. Reset: 0. -/
  bootCause : Nat
  /-- (13 R314) Enabled cores. Reset: DESIGN CHOICE 192 (log entry 6). -/
  cores : Nat
  /-- (13 R314) HBM GiB. Reset: DESIGN CHOICE 768 (log entry 6). -/
  gib : Nat
  /-- (15 R347) Ruson minor. Reset: 0. -/
  minor : Nat
  /-- (15 R347) Ruson patch. Reset: DESIGN CHOICE 0 (log entry 6). -/
  patch : Nat
  /-- (03 R93) A decode table waits for the device to drain: minor, patch, digest. Reset: none. -/
  table : Option (Nat × Nat × Nat)
  /-- (13 R332) PWRCAP, TEMPLIM, PWRNOW, TEMP, ERRBASE, ERRCTL, ERRLOST, SPANCTL, SPANIMP, by offset. Reset: DESIGN CHOICE (log entry 6). -/
  regs : SMap 64
  /-- (13 R322) ROUTE 0 to 127. Reset: DESIGN CHOICE 0 (log entry 6). -/
  route : SMap 18
  /-- (13 R332) Ports up. Reset: DESIGN CHOICE none (log entry 6). -/
  portUp : BitVec 18
  /-- (13 R324) Ports marked down. Reset: none. -/
  portDown : BitVec 18
  /-- (13 R332) Replays per port. Reset: 0. -/
  replays : SMap 64
  /-- (13 R324) Transient failures per port. Reset: 0. -/
  transient : SMap 64
  /-- (13 R329) Wear registers, 46 of them. Reset: DESIGN CHOICE 65,535 days (log entry 6). -/
  wear : AMap Word64
  /-- (13 R327) Addresses of the HBM rows that have been remapped to spare rows. Reset: none. -/
  rows : List Nat
  /-- (13 R333) Fused minimum security version. Reset: DESIGN CHOICE 0 (log entry 6). -/
  fuseVersion : Nat
  /-- (13 R333) Fused hash of the key that signs firmware. Reset: DESIGN CHOICE 0 (log entry 6). -/
  fuseKey : Nat
  /-- (13 R326) Corrected and transient errors counted per unit: key class × 2^32 + unit. Reset: 0. -/
  errCount : SMap 64
  /-- (13 R328) Timebase of the last record of corrected errors of a unit, plus one: key as errCount. Reset: 0. -/
  errStamp : AMap Nat
  /-- (13 R333, R334) Measurements: the digest that each firmware stage extended, the decode table's last. Reset: DESIGN CHOICE none (log entry 7). -/
  measures : List Nat
  /-- (13 R334) Replies of the SPDM responder, newest first: code and words. Reset: none. -/
  spdm : List (Nat × List Nat)
  deriving DecidableEq, Repr

/-- What leaves the device towards the host, newest first (13 R315, R318, R323). -/
inductive Output where
  /-- An MSI-X message of a function and a vector. -/
  | msix (fn vector : Nat)
  /-- A BAR0 read that completed with its data, or to which the device did not respond. -/
  | bar0 (data : Option Word64)
  /-- A BAR2 read that completed with its data. -/
  | bar2 (data : List Byte)
  /-- A BAR2 read that completed with Unsupported Request. -/
  | bar2Refused
  /-- A span request answered, with data for a load. -/
  | spanReply (data : List Byte)
  /-- A span request refused. -/
  | spanRefused
  /-- A pre-emption of a group that the host runtime asked for has failed (09 R249). -/
  | preemptFailed (group : Nat)
  /-- A write of the device on the span or to the host that has left. -/
  | pulseComplete (k : Nat)
  deriving DecidableEq, Repr

/-- The whole device (01 R1). -/
structure Device where
  /-- (11 R280, 13 R330) Clocks. -/
  clk : Clocks
  /-- (10 R251) Memory by key: device bytes from 0, system bytes from 2^52, span bytes from 2^60. Reset: nothing listed, DESIGN CHOICE 0 (log entry 3). -/
  mem : SMap 8
  /-- (11 R282) Times of lines; a line not listed has wts = rts = ER of its slice. Reset: none. -/
  lines : AMap LineTime
  /-- (11 R282) ER of each slice. Reset: 0. -/
  er : SMap 64
  /-- (10 R262) Lines held by each slice, most recently used first. Reset: empty. -/
  l2 : AMap (List L2Line)
  /-- (10 R263) Event counters of the slices: key slice × 8 + counter. Reset: 0. -/
  l2cnt : SMap 64
  /-- (14 R343) What unit counters have counted in the cycle below, by key. Reset: none. -/
  tally : SMap 64
  /-- (14 R343) That cycle, plus one. Reset: 0. -/
  tallyAt : Nat
  /-- (13 R327) Ways retired of each slice set: key of the line. Reset: none. -/
  l2dead : List Nat
  /-- (12 R298) L2 TLB of each cluster, at most 4,096 entries. Reset: empty. -/
  tlb2 : AMap (List Leaf)
  /-- (12 R298) Walk cache of each die, at most 256 entries a level. Reset: empty. -/
  walks : AMap (List WalkEntry)
  /-- (13 R327) Lines of device memory whose data a lasting error has lost and nothing has rewritten. Reset: none. -/
  bad : List Nat
  /-- (13 R319, R323) Lines of span and system memory whose accesses their owner refuses. Reset: none. -/
  refused : List Nat
  /-- (12 R299) Walk requests in flight, oldest first. Reset: none. -/
  walkQ : List WalkReq
  /-- (01 R1) Cores that differ from a fresh core. Reset: none. -/
  cores : AMap Core
  /-- (01 R6) Groups. Reset: none. -/
  groups : AMap Group
  /-- (01 R6) Waves. Reset: none. -/
  waves : AMap Wave
  /-- (09 R237) Launches by sequence number. Reset: none. -/
  launches : AMap Launch
  /-- (09 R237) Next launch sequence number, 48 bits. Reset: DESIGN CHOICE 1 (log entry 8). -/
  seq : Nat
  /-- (09 R237) Device queues 0 to 63. Reset: empty. -/
  devQ : AMap (List Child)
  /-- (04 R125) Task queues 0 to 63. Reset: DESIGN CHOICE empty (log entry 4). -/
  taskQ : AMap TaskQueue
  /-- (03 R77, 15 R350) Code objects loaded. Reset: none. -/
  objs : List CodeObj
  /-- (11 R273) Requests in flight, by commit order. Reset: none. -/
  reqs : AMap Req
  /-- (06 R171) Copies, gathers and PUTSIGs in flight, by commit order. Reset: none. -/
  ops : AMap EngOp
  /-- (06 R181) Bank products in flight. Reset: none. -/
  bmvs : AMap BmvOp
  /-- (07 R192) MMAs and ACCRDs whose flags have not cleared. Reset: none. -/
  mdone : AMap MDone
  /-- (10 R266) Bank units, key stack × 64 + unit. Reset: none retired, counts 0. -/
  banks : AMap BankUnit
  /-- (13 R314) Functions 0 to 16. Reset: none configured. -/
  fns : AMap HostFn
  /-- (13 R320) Management. -/
  mgmt : Mgmt
  /-- (14 R344) Trace events of the present nanosecond, newest first. Reset: none. -/
  trace : List TraceEv
  /-- (13 R318) What has left the device. Reset: nothing. -/
  out : List Output
  /-- (01 R21, 04 R127) The latest commit: its cycle, and its place in the order of the commits of one cycle. Reset: none. -/
  lastCommit : Option (Nat × Nat)
  /-- The model's own field: how many free values have been drawn. Reset: DESIGN CHOICE 0 (log entry 1). -/
  draws : Nat
  /-- (06 R173) Commit order given to the next operation or request. Reset: 0. -/
  nextId : Nat
  deriving DecidableEq, Repr

/-- What a PREF asks for when its clause commits (01 R28, 06 R176). -/
structure Prefetch where
  /-- (06 R176) Into L1 as well. -/
  l1 : Bool
  /-- (06 R176) Address of the first line. -/
  base : Nat
  /-- (06 R176) Lines. -/
  count : Nat
  /-- (11 R283) pts of the part at the PREF. -/
  c : Word64
  deriving DecidableEq, Repr

/-- One speculative pass over a clause (01 R28): a copy of the device, with the executing part, its wave and its group in
front. Nothing of it is architectural until COMMIT; a trap or a hold drops it. -/
structure Spec where
  /-- (01 R28) The device as the clause's instructions leave it. -/
  dev : Device
  /-- (01 R28) Key of the group, and the group. -/
  gid : Nat
  /-- (01 R28) The group as the clause leaves it. -/
  grp : Group
  /-- (01 R28) Key of the wave, and the wave. -/
  wid : Nat
  /-- (01 R28) The wave as the clause leaves it. -/
  wav : Wave
  /-- (01 R28) The part as the clause leaves it. -/
  prt : Part
  /-- (01 R28) Slot of the next instruction. -/
  slot : Nat
  /-- (03 R76) Byte offset of the next instruction in the clause. -/
  off : Nat
  /-- (01 R28) Transfer of control that takes place at commit. -/
  xfer : Option Word64
  /-- (04 R117) The transfer takes the place of the loop end action. -/
  taken : Bool
  /-- (04 R111) The rest of the clause does not run. -/
  cut : Bool
  /-- (04 R109) The BRM of the clause splits the part: taken quads and target. -/
  split : Option (BitVec 16 × Word64)
  /-- (06 R176) Prefetches of the clause, which leave at commit. -/
  prefs : List Prefetch
  /-- (07 R193) What MMAs of the clause have yet to read of bytes that the clause writes over: identity of the MMA, offset and byte. -/
  kept : List (Nat × Nat × Byte)
  /-- (01 R38) Destinations of the clause's long-latency instructions: vector or scalar file, first register, count. -/
  dests : List (Bool × Nat × Nat)
  /-- (04 R124) RELEASE has run: the registers above the prologue allotment are discarded at commit. -/
  released : Bool
  /-- (01 R28, R37) The first reason for which the clause is to be held at commit. -/
  hold : Option HoldReason
  /-- (10 R257) Commit order of the clause's first operation: what has a smaller number is older than the clause. -/
  first : Nat
  /-- (04 R129) pts as the clause found it. -/
  pts0 : Word64
  /-- (01 R11, 03 R81) The allotment under which the clause runs. -/
  allot : Nat
  /-- (01 R22, 04 R123) FPX as the clause found it or an SWRITE of it left it; the wave in front holds the bits its events set. -/
  fpxBase : Word64
  /-- (01 R25, 04 R123) SPDOOB in the same way; the group in front holds what its accesses record. -/
  oobBase : Word64
  deriving DecidableEq, Repr

/-- What the outside world does next (13 R314 to R334). -/
inductive Input where
  /-- The host writes a BAR0 register: function, offset, value. -/
  | barWrite (fn off : Nat) (val : Word64)
  /-- The host reads a BAR0 register: function, offset. -/
  | barRead (fn off : Nat)
  /-- The host reads through BAR2: function, aperture offset, bytes. -/
  | bar2Read (fn off n : Nat)
  /-- The host writes through BAR2. -/
  | bar2Write (fn off n : Nat) (val : Word64)
  /-- A step of the table that arrives from outside, with its operands: resets, boot, errors, link, power, SPDM. -/
  | event (i : Instr) (args : List Nat)
  /-- The host or another device writes bytes of system or span memory, by memory key. -/
  | ext (key : Nat) (data : List Byte)
  /-- The host or another device begins or ceases to refuse accesses of a line of system or span memory (13 R319, R323). -/
  | refuse (line : Nat) (on : Bool)
  /-- The host masks a vector in the MSI-X table of a function (13 R318). -/
  | mask (fn v : Nat)
  /-- The pulse of the span reaches a device that is not a member (13 R325). -/
  | spanTick
  /-- The host's runtime asks for the pre-emption of a group (09 R249). -/
  | preempt (g : Nat)
  /-- The loader makes a code object's tables known (15 R352). -/
  | load (o : CodeObj)
  deriving DecidableEq, Repr

/-- The state of the model. -/
structure State where
  /-- The device. -/
  dev : Device
  /-- The pass over a clause, if one is running. -/
  spec : Option Spec
  /-- What arrives from outside, first first: the timebase from which it may be taken, and what it is (log entry 10). -/
  inputs : List (Nat × Input)
  /-- The model's own field: operands of a step that has no encoding, in the order its constructor names them.
  Reset: DESIGN CHOICE empty (log entry 10). -/
  arg : List Nat
  deriving DecidableEq, Repr

/-- Why a step stops. No step of a state with a well-formed pass ends in one of these. -/
inductive Fault where
  /-- An encoded instruction was given to `exec` while no part executes a clause. Raised by every meaning of an encoded
  instruction; `step` never calls one then. Safe: nothing is computed. -/
  | noIssuingPart
  deriving DecidableEq, Repr

/-- Why an instruction has no meaning. -/
inductive Refusal where
  /-- The instruction is not modelled; raised by an arm of `exec` only. Safe: nothing is computed. -/
  | notModelled (mnemonic : String)
  deriving DecidableEq, Repr

/-! ## Reset -/

/-- Clocks at device reset (11 R280, 13 R330). -/
def Clocks.reset : Clocks :=
  ⟨0, 0, 0, 2400, false, false, false, false, 0, 128, 1, 2, 0x201#64, 0, 0, false⟩

/-- A core with nothing resident. -/
def Core.reset : Core :=
  ⟨0, 0, 0, [], [], false, [], [], 0, 0, none, [], [], none, [], false, 0, 0, false, [], []⟩

/-- A queue that is not enabled. -/
def HostQueue.reset : HostQueue := ⟨0, 0, 0, 0, 0, []⟩

/-- A function whose registers have not been written. -/
def HostFn.reset : HostFn := ⟨[], [], [], none, none, 0, (0, 0, 0), 0, 0xFFFFFFFF#32, 0, [], [], []⟩

/-- Management state at device reset (13 R320, R332). PWRCAP and TEMPLIM start at their largest values. -/
def Mgmt.reset : Mgmt :=
  ⟨0, 0, 192, 768, 0, 0, none, [(0x8008, 2800#64), (0x8018, 0x690000#64)], [], 0, 0, [], [], [], [], 0, 0, [], [], [], []⟩

/-- A bank unit at reset. -/
def BankUnit.reset : BankUnit := ⟨false, 0⟩

/-- The device right after reset: nothing resident, nothing listed in memory, DEVSTATE 0. -/
def Device.reset : Device :=
  ⟨Clocks.reset, [], [], [], [], [], [], 0, [], [], [], [], [], [], [], [], [], [], 1, [], [], [], [], [], [], [], [], [],
    Mgmt.reset, [], [], none, 0, 0⟩

/-- The state right after reset. -/
def State.reset : State := ⟨Device.reset, none, [], []⟩

end Sys2Proof.Machine
end

