-- ==== Sys2Proof/Machine/Ops.lean ====
section
/-! DEFINITION. Named operations on a pass over a clause: registers through the forwarding window, flags, special-register
side effects, taking a trap and returning from one, and `issue`, through which every encoded instruction runs. -/

namespace Sys2Proof.Machine

/-- What an instruction does to a pass: go on, or raise a trap at the clause (01 R28, R29). -/
abbrev Res := Except TrapInfo Spec

/-! ## Parts, waves, groups and cores by name -/

namespace Device

/-- A core; a core that was never touched is a fresh one. -/
def core (d : Device) (c : Nat) : Core := d.cores.getD c Core.reset

/-- Replaces a core. -/
def setCore (d : Device) (c : Nat) (x : Core) : Device := { d with cores := d.cores.set c x }

/-- A function's registers; one that was never written is at reset. -/
def fn (d : Device) (f : Nat) : HostFn := d.fns.getD f HostFn.reset

/-- Replaces a function's registers. -/
def setFn (d : Device) (f : Nat) (x : HostFn) : Device := { d with fns := d.fns.set f x }

/-- Replaces a wave. -/
def setWave (d : Device) (w : Nat) (x : Wave) : Device := { d with waves := d.waves.set w x }

/-- Replaces a group. -/
def setGroup (d : Device) (g : Nat) (x : Group) : Device := { d with groups := d.groups.set g x }

end Device

/-- The part of a wave that holds a quad. -/
def partAt? (l : List Part) (q : Nat) : Option Part := l.find? fun p => bit p.quads q

/-- Replaces the part that has the same quads. -/
def putPart (l : List Part) (p : Part) : List Part := l.map fun q => if q.quads = p.quads then p else q

/-- Changes every part that holds one of some quads. -/
def onParts (l : List Part) (q : BitVec 16) (f : Part → Part) : List Part :=
  l.map fun p => if p.quads &&& q = 0 then p else f p

/-- Launch width in lanes (01 R7). -/
def Wave.lanes (w : Wave) : Nat := 4 * 2 ^ w.width

/-- Quads of the launch width. -/
def Wave.allQuads (w : Wave) : BitVec 16 := BitVec.ofNat 16 (2 ^ 2 ^ w.width - 1)

/-- Lanes of a part that have not exited. -/
def liveLanes (w : Wave) (q : BitVec 16) : Word64 := laneMask q &&& ~~~ w.exited

/-- Quads that still have a lane not retired. -/
def liveQuads (w : Wave) (q : BitVec 16) : BitVec 16 := quadsWith (liveLanes w q)

/-- Parts of a wave that have not retired (04 R118). -/
def Wave.live (w : Wave) : List Part := w.parts.filter fun q => liveLanes w q.quads != 0

namespace Spec

/-- The launch's function and address space, (0, 0) when the wave belongs to none. -/
def space (p : Spec) : Nat × Nat :=
  match p.dev.launches.get? p.wav.launch with
  | some l => (l.fn, l.as)
  | none => (0, 0)

/-- The device with the executing part, wave and group put back. -/
def sync (p : Spec) : Device :=
  (p.dev.setWave p.wid { p.wav with parts := putPart p.wav.parts p.prt }).setGroup p.gid p.grp

/-- The pass over a device that an operation on the whole device has changed. -/
def reload (p : Spec) (d : Device) : Spec :=
  let w := d.waves.getD p.wid p.wav
  { p with dev := d, wav := w, grp := d.groups.getD p.gid p.grp,
           prt := (w.parts.find? fun q => q.quads = p.prt.quads).getD p.prt }

/-- Applies an operation on the whole device. -/
def on (p : Spec) (f : Device → Device) : Spec := p.reload (f p.sync)

/-- Slot count of the clause. -/
def count (p : Spec) : Nat :=
  match p.prt.clause with
  | some c => bits c.hdr 9 7 + 1
  | none => 0

/-- Set-flag field A or B of the header (03 R79, R83). -/
def flagField (p : Spec) (b : Bool) : Nat :=
  match p.prt.clause with
  | some c => if b then bits c.hdr 31 28 else bits c.hdr 27 24
  | none => 15

/-- Address of the next clause (04 R107). -/
def nextClause (p : Spec) : Word64 :=
  match p.prt.clause with
  | some c => c.next
  | none => p.prt.pc

/-- Records the first reason to hold the clause at commit (01 R28). -/
def holdFor (p : Spec) (r : HoldReason) : Spec :=
  match p.hold with
  | some _ => p
  | none => { p with hold := some r }

/-- Holds the clause and ends the pass here: the result that is lacking may be read by the later slots. -/
def stopFor (p : Spec) (r : HoldReason) : Spec := { p.holdFor r with cut := true }

/-- The pass `p` after an instruction of `n` bytes whose body left `q`: the next slot of the same clause, by the same part. -/
def advance (p : Spec) (n : Nat) (q : Spec) : Spec :=
  { q with slot := p.slot + 1, off := p.off + n, gid := p.gid, wid := p.wid,
           prt := { q.prt with quads := p.prt.quads, clause := p.prt.clause } }

end Spec

/-! ## The forwarding window (01 R32 to R35) -/

/-- The value of a register in one entry. -/
def assoc (loc : RegLoc) : List (RegLoc × Word128) → Option Word128
  | [] => none
  | (k, v) :: l => if k = loc then some v else assoc loc l

/-- The value in the youngest entry that names a register (01 R32). -/
def look (loc : RegLoc) : List WEntry → Option Word128
  | [] => none
  | e :: l => match assoc loc e.w with
    | some v => some v
    | none => look loc l

/-- Key of a vector register in its bank. -/
def vkey (r lane : Nat) : Nat := lane * 128 + r

/-- A bank, as the wave and the part hold it. -/
def bankRead (w : Wave) (q : Part) : RegLoc → Word128
  | .v r l => (w.vregs.get (vkey r l)).setWidth 128
  | .s r => (q.sregs.get r).setWidth 128
  | .q r l => w.qregs.get (l * 2 + r)

/-- Writes one register of a bank. -/
def bankWrite (wq : Wave × Part) (x : RegLoc × Word128) : Wave × Part :=
  match x.1 with
  | .v r l => ({ wq.1 with vregs := wq.1.vregs.set (vkey r l) (x.2.setWidth 32) }, wq.2)
  | .s r => (wq.1, { wq.2 with sregs := wq.2.sregs.set r (x.2.setWidth 64) })
  | .q r l => ({ wq.1 with qregs := wq.1.qregs.set (l * 2 + r) x.2 }, wq.2)

/-- Entries leave the window, oldest first; a transient one writes nothing unless `all` says so (01 R33, R34). -/
def leave (all : Bool) (wq : Wave × Part) (l : List WEntry) : Wave × Part :=
  l.foldr (fun e wq => if e.t && !all then wq else e.w.foldr (fun x wq => bankWrite wq x) wq) wq

/-- Every entry is written to its bank and the window becomes empty (01 R34). -/
def flushWindow (w : Wave) (q : Part) : Wave × Part :=
  let r := leave true (w, q) q.window
  (r.1, { r.2 with window := [] })

/-- Whether a location is one of `n` registers from `d` on, of the vector or the scalar file. -/
def names (isV : Bool) (d n : Nat) (loc : RegLoc) : Bool :=
  match loc with
  | .v r _ => isV && decide (d ≤ r) && decide (r < d + n)
  | .s r => !isV && decide (d ≤ r) && decide (r < d + n)
  | .q _ _ => false

/-- What leaves and what stays of a window, youngest entry first, when the entries that name a register of `f` leave: such an entry
whole, and of an older one the values that a younger entry leaving with it stands over (01 R33, R38; log entry 70). -/
def partWindow (f : RegLoc → Bool) : List RegLoc → List WEntry → List WEntry × List WEntry
  | _, [] => ([], [])
  | over', e :: l =>
    let whole := e.w.any fun x => f x.1
    let out := if whole then e.w else e.w.filter fun x => over'.contains x.1
    let kept := if whole then [] else e.w.filter fun x => !over'.contains x.1
    let r := partWindow f (if whole && !e.t then e.w.map (·.1) ++ over' else over') l
    ({ e with w := out } :: r.1, if kept.isEmpty then r.2 else { e with w := kept } :: r.2)

/-- The entries that name a register of `f` leave the window of a part (01 R38). -/
def retire (f : RegLoc → Bool) (w : Wave) (q : Part) : Wave × Part :=
  let r := partWindow f [] q.window
  let wq := leave false (w, q) r.1
  (wq.1, { wq.2 with window := r.2 })

namespace Spec

/-- A register as the next instruction reads it (01 R32). -/
def read (p : Spec) (loc : RegLoc) : Word128 :=
  match look loc p.prt.window with
  | some v => v
  | none => bankRead p.wav p.prt loc

/-- A short-latency result enters the window; a ninth entry makes the oldest leave (01 R32, R33). -/
def push (p : Spec) (t : Bool) (ws : List (RegLoc × Word128)) : Spec :=
  let l := (⟨t, ws⟩ : WEntry) :: p.prt.window
  let wq := leave false (p.wav, p.prt) (l.drop 8)
  { p with wav := wq.1, prt := { wq.2 with window := l.take 8 } }

/-- Lanes whose activity bits s63 may hold (01 R16). -/
def s63Lanes (p : Spec) : Word64 := liveLanes p.wav p.prt.quads

/-- A scalar register; s63 reads zero outside the part and in retired lanes (01 R16). -/
def sreg (p : Spec) (r : Nat) : Word64 :=
  let v := (p.read (.s r)).setWidth 64
  if r = 63 then v &&& p.s63Lanes else v

/-- The value that a write to a scalar register leaves there (01 R16). -/
def sval (p : Spec) (r : Nat) (v : Word64) : Word128 :=
  (if r = 63 then v &&& p.s63Lanes else v).setWidth 128

/-- A scalar result (01 R32, 04 R101). -/
def setS (p : Spec) (t : Bool) (r : Nat) (v : Word64) : Spec := p.push t [(.s r, p.sval r v)]

/-- Two scalar results of one instruction. -/
def setS2 (p : Spec) (r : Nat) (v w : Word64) : Spec :=
  p.push false [(.s r, p.sval r v), (.s (r + 1), p.sval (r + 1) w)]

/-- A vector register of one lane. -/
def vreg (p : Spec) (r lane : Nat) : Word32 := (p.read (.v r lane)).setWidth 32

/-- A pair of vector registers of one lane (01 R13). -/
def vpair (p : Spec) (r lane : Nat) : Word64 :=
  BitVec.ofNat 64 ((p.vreg r lane).toNat + (p.vreg (r + 1) lane).toNat * 2 ^ 32)

/-- `n` registers of one lane as one value, least significant first. -/
def vwide (p : Spec) (r lane : Nat) : Nat → Nat
  | 0 => 0
  | n + 1 => (p.vreg r lane).toNat + 2 ^ 32 * vwide p (r + 1) lane n

/-- A reservoir register of one lane (01 R14). -/
def qreg (p : Spec) (r lane : Nat) : Word128 := p.read (.q r lane)

/-- Whether a lane of the part is active (01 R16). -/
def active (p : Spec) (lane : Nat) : Bool := bit (p.sreg 63) lane

/-- The active lanes, ascending (01 R17, R45). -/
def act (p : Spec) : List Nat := (lanesOf p.prt.quads).filter p.active

/-- A vector result of one register in every active lane (05 R130). -/
def setV (p : Spec) (t : Bool) (r : Nat) (f : Nat → Word32) : Spec :=
  p.push t (p.act.map fun l => (.v r l, (f l).setWidth 128))

/-- A vector result of several consecutive registers in every active lane. -/
def setVs (p : Spec) (t : Bool) (r : Nat) (f : Nat → List Word32) : Spec :=
  p.push t ((p.act.map fun l => (f l).mapIdx fun i v => (RegLoc.v (r + i) l, v.setWidth 128)).flatten)

/-- A reservoir result in every active lane. -/
def setQ (p : Spec) (t : Bool) (r : Nat) (f : Nat → Word128) : Spec :=
  p.push t (p.act.map fun l => (.q r l, f l))

/-- Values of some registers leave the window at once, oldest first, and an entry left with none leaves with them. -/
def expel (p : Spec) (f : RegLoc → Bool) : Spec :=
  let out (e : WEntry) : WEntry := { e with w := e.w.filter fun x => f x.1 }
  let kept (e : WEntry) : Option WEntry :=
    if e.w.any fun x => f x.1 then
      let r := e.w.filter fun x => !f x.1
      if r.isEmpty then none else some { e with w := r }
    else some e
  let wq := leave false (p.wav, p.prt) (p.prt.window.map out)
  { p with wav := wq.1, prt := { wq.2 with window := p.prt.window.filterMap kept } }

/-- A long-latency instruction names its destination registers; window entries that name one leave when the clause commits (01 R38). -/
def longDst (p : Spec) (isV : Bool) (d n : Nat) : Spec := { p with dests := (isV, d, n) :: p.dests }

/-- A control operation sets s63 beside the window (01 R16, 04 R109 to R118). -/
def putMask (p : Spec) (m : Word64) : Spec :=
  let p := p.expel fun l => decide (l = .s 63)
  { p with prt := { p.prt with sregs := p.prt.sregs.set 63 ((p.sval 63 m).setWidth 64) } }

end Spec

/-! ## Flags (01 R36, R37) -/

/-- Key of a flag of a quad. -/
def fkey (quad f : Nat) : Nat := quad * 12 + f

/-- The pending count of a flag of a quad. -/
def Wave.flag (w : Wave) (quad f : Nat) : Nat := (w.flags.get (fkey quad f)).toNat

/-- One more pending in each of some quads, with the blamed position (01 R36). -/
def Wave.raise (w : Wave) (quads : List Nat) (f : Nat) (pos : Word64 × Nat) : Wave :=
  quads.foldl (fun w q =>
    { w with flags := w.flags.set (fkey q f) (w.flags.get (fkey q f) + 1), blame := w.blame.set (fkey q f) pos }) w

/-- One less pending in each of some quads. -/
def Wave.lower (w : Wave) (quads : List Nat) (f : Nat) : Wave :=
  quads.foldl (fun w q => { w with flags := w.flags.set (fkey q f) (w.flags.get (fkey q f) - 1) }) w

namespace Spec

/-- Raises the selected flag in some quads; a count that would pass 15 holds the clause (01 R36, R37). -/
def raise (p : Spec) (sel : Bool) (quads : BitVec 16) : Spec :=
  let f := p.flagField sel
  if (quadsOf quads).any fun q => decide (15 ≤ p.wav.flag q f) then p.holdFor (.flag f)
  else { p with wav := p.wav.raise (quadsOf quads) f (p.prt.pc, p.slot) }

/-- Quads with at least one active lane. -/
def actQuads (p : Spec) : BitVec 16 := quadsWith (p.sreg 63 &&& laneMask p.prt.quads)

end Spec

/-! ## FPX (01 R22, 02 R61, R62) -/

/-- An event of a cycle sets FPX bits; a write of FPX in the same cycle keeps them (04 R123). -/
def Wave.addFpx (w : Wave) (cycle : Nat) (x : Word64) : Wave :=
  { w with fpx := w.fpx ||| x, fpxAt := cycle + 1, fpxNew := (if w.fpxAt = cycle + 1 then w.fpxNew else 0) ||| x }

/-- The FPX bits that events of a cycle have set so far. -/
def Wave.fpxOf (w : Wave) (cycle : Nat) : Word64 := if w.fpxAt = cycle + 1 then w.fpxNew else 0

/-- STALE of a core counts a drop; a write of STALE in the same cycle keeps it (01 R26, 04 R123). -/
def Device.countStale (d : Device) (core : Nat) : Device :=
  let c := d.core core
  let n := d.clk.cycle + 1
  d.setCore core { c with stale := c.stale + 1, staleAt := n, staleNew := (if c.staleAt = n then c.staleNew else 0) + 1 }

/-- What STALE has counted in the present cycle. -/
def Device.staleOf (d : Device) (core : Nat) : Word64 := if (d.core core).staleAt = d.clk.cycle + 1 then (d.core core).staleNew else 0

/-- Sets FPX bits. -/
def Spec.setFpx (p : Spec) (x : Fx) : Spec := { p with wav := { p.wav with fpx := p.wav.fpx ||| x.setWidth 64 } }

/-- The exceptions that MODE traps, in the order of FPX[4:0]. -/
def Spec.enabled (p : Spec) : Fx := BitVec.ofNat 6 (bits p.prt.mode 8 4)

/-- A trap of a cause, to be completed with the slot by `issue`. -/
def trapOf (cause sub detail : Nat) (lanes addr : Word64) : TrapInfo :=
  ⟨cause, sub, detail, lanes, addr, none, 0, 0, 0, none, 0⟩

/-- Illegal Instruction. The record's lane mask is 0, as the table of 12 R301 gives (log entry 12). -/
def illegalTrap : TrapInfo := trapOf 1 0 0 0 0

/-- Illegal Clause (12 R301). -/
def clauseTrap : TrapInfo := trapOf 2 0 0 0 0

/-- Stops at Illegal Instruction when a condition holds. -/
def refuseIf (b : Bool) (p : Spec) : Res := if b then .error illegalTrap else .ok p

/-- The union of exceptions. -/
def fxUnion (l : List (Nat × Fx)) : Fx := l.foldl (fun x e => x ||| e.2) 0

/-- Raised exceptions by lane: an enabled one traps, otherwise FPX takes them all (02 R61, R62). -/
def Spec.raiseFx (p : Spec) (l : List (Nat × Fx)) : Res :=
  let e := fxUnion l &&& p.enabled
  if e = 0 then .ok (p.setFpx (fxUnion l))
  else .error (trapOf 5 0 e.toNat (maskOf 64 ((l.filter fun x => x.2 &&& p.enabled != 0).map Prod.fst)) 0)

/-! ## Taking a trap and returning from one (01 R29, R34; 09 R231; 12 R301 to R308) -/

/-- A part stops at its header: nothing of its clause has happened (01 R29). -/
def atHeader (q : Part) : Part := { q with phase := .header, clause := none, arrived := false, walked := [], watch := none }

/-- Place of an event among those that stop a wave in one cycle: traps, breakpoints, halts and steps (14 R338). -/
def TrapInfo.rank (t : TrapInfo) : Nat := if t.cause = 0 then 2 else if t.cause = 6 && t.slot.isNone then 1 else 0

/-- Whether an event is the one a wave reports: the first to stop it, and of several in one cycle the first in rank, then the one of
the lowest quad (14 R338). -/
def Wave.reports (w : Wave) (cycle : Nat) (raiser : Option Nat) (t : TrapInfo) : Bool :=
  match w.halt with
  | none => true
  | some h => !h.stopped && !h.kill && decide (h.since = cycle) && (decide (t.rank < h.info.rank) ||
      (decide (t.rank = h.info.rank) && decide (raiser.getD 16 < h.raiser.getD 16)))

/-- A stop that begins. -/
def beginHalt (cycle : Nat) (raiser : Option Nat) (t : TrapInfo) : Halt := ⟨t, raiser, false, false, false, cycle⟩

/-- TRAP or BKPT, which set the pass bit of the part that reports them (04 R119). -/
def TrapInfo.passes (t : TrapInfo) : Bool := (t.cause == 6 || t.cause == 7) && t.slot.isSome

/-- A part that no longer reports the event it raised loses the pass bit of it. -/
def unpass (h : Option Halt) (q : Part) : Part :=
  match h with
  | some h => if h.info.passes && h.raiser == some (lowQuad q.quads) then { q with passBit := false } else q
  | none => q

/-- Takes a trap on a device that holds nothing of the clause: the part's window is written back, the part stands at its
header, the wave begins to stop (09 R231), the FPX bits of an FP exception are set in the saved state (01 R22) and the pass
bit is set for TRAP and BKPT (04 R119). A batch failure that is reported is not reported again (06 R173); a group of which data is lost has
failed (12 R304; log entry 80). Of several causes in one wave only the first is reported (14 R338). -/
def takeTrap (d : Device) (w : Nat) (quads : BitVec 16) (t : TrapInfo) : Device :=
  match d.waves.get? w with
  | none => d
  | some wv =>
    match wv.parts.find? fun q => q.quads = quads with
    | none => d
    | some q =>
      let wq := flushWindow wv (atHeader q)
      let raiser := some (lowQuad quads)
      let taken := wv.reports d.clk.cycle raiser t
      let q' := { wq.2 with passBit := wq.2.passBit || (t.passes && taken) }
      let h := if taken then some (beginHalt d.clk.cycle raiser t) else wv.halt
      let fs := if taken then wv.failures.filter fun f => decide (t.cause ≠ 12) || decide (f.order ≠ t.order) else wv.failures
      let ps := if taken then wq.1.parts.map (unpass wv.halt) else wq.1.parts
      let d := if t.cause = 13 then { d with groups := d.groups.upd wv.group fun g => { g with failed := g.failed || taken } } else d
      let wf := if t.cause = 5 then wq.1.addFpx d.clk.cycle (BitVec.ofNat 64 t.detail) else wq.1
      d.setWave w { wf with parts := putPart ps q', halt := h, failures := fs }

/-- Returns from a trap: each part takes up its state again and the trapping part reruns its clause from the header, not
matched by the breakpoint that stopped it (09 R231, 12 R308, 14 R337). -/
def resumeWave (d : Device) (w : Nat) : Device :=
  match d.waves.get? w with
  | none => d
  | some wv =>
    match wv.halt with
    | none => d
    | some h =>
      let bp (q : Part) : Part :=
        if h.info.cause = 6 && h.info.slot.isNone && h.raiser == some (lowQuad q.quads) then { q with bpPass := true } else q
      d.setWave w { wv with halt := none, parts := wv.parts.map bp }

/-! ## Issue -/

/-- What a step ends in. -/
abbrev Out := Host.Outcome State Fault Refusal

/-- The allotment holds every vector register the instruction touches (01 R11). -/
def inAllot (p : Spec) (l : List (Nat × Nat)) : Bool := l.all fun x => decide (x.1 + x.2 ≤ p.allot)

/-- The decode checks of one slot (03 R81, R82, R83, R90; 01 R11). -/
def legalAt (p : Spec) (i : Instr) : Bool :=
  let f := form i
  f.bad.isNone && inAllot p f.vregs &&
    (match f.flag with | some b => decide (p.flagField b ≠ 15) | none => true) &&
    (match f.place with | .any => true | .first => decide (p.slot = 0) | .last => decide (p.slot + 1 = p.count))

/-- What the lookups of a pass leave behind when it is dropped: the TLBs they have used, and the walks they have asked for (12 R298, R299). -/
def Device.lookups (d e : Device) (core : Nat) : Device :=
  { d.setCore core { d.core core with tlb := (e.core core).tlb } with tlb2 := e.tlb2, walkQ := e.walkQ }

/-- What becomes of a pass in which an instruction traps: it is dropped, and the trap is taken on the device as it stood before the clause, its
lookups apart (01 R28, R29). A pass that is held at commit anyway ends there: a lower slot may still fail, so its clause runs again before the trap
is reported (12 R299, R302). -/
def Spec.trapped (p : Spec) (i : Instr) (s : State) (t : TrapInfo) : State :=
  if p.hold.isSome then { s with spec := some { p with cut := true } }
  else
    { s with spec := none
             dev := takeTrap (s.dev.lookups p.dev p.wav.core) p.wid p.prt.quads { t with slot := some p.slot, bits := BitVec.ofNat 32 (word i) } }

/-- Runs one instruction of the pass: its decode checks, then its body. -/
def issue (i : Instr) (s : State) (body : Spec → Res) : Out :=
  match s.spec with
  | none => .fault .noIssuingPart
  | some p =>
    match (if legalAt p i then body p else .error illegalTrap) with
    | .ok p' => .next { s with spec := some (p.advance (width i / 8) p') }
    | .error t => .next (p.trapped i s t)

end Sys2Proof.Machine
end

