-- ==== Sys2Proof/Machine/Slices.lean ====
section
/-! DEFINITION. Memory by key, logical time, and the L2 slices with their line times and forms (10 R251 to R255, R261 to R263, R268;
11 R280 to R286). -/

namespace Sys2Proof.Machine

/-! ## Memory keys (10 R251, R254) -/

/-- First key of system memory. -/
def sysBase : Nat := 2 ^ 52

/-- First key of the bank view of device memory: a physical address above it. -/
def bankBase : Nat := 2 ^ 56

/-- First key of span memory: device index × 2^40 + offset above it. -/
def spanBase : Nat := 2 ^ 60

/-- Bytes of installed device memory (13 R314). -/
def Device.capacity (d : Device) : Nat := d.mgmt.gib * 2 ^ 30

/-- The device-view address of a byte named through a bank-layout leaf (10 R254). -/
def bankView (pa : Nat) : Nat :=
  let o := pa % 2 ^ 21
  let b := o % 2 ^ 15
  pa / 2 ^ 21 * 2 ^ 21 + b / 128 * 2 ^ 13 + o / 2 ^ 15 * 128 + b % 128

/-- This device's span index (13 R332). -/
def Device.spanIndex (d : Device) : Nat := bits (d.mgmt.regs.get 0x8100) 6 0

/-- The key of the byte that a physical address names under a kind (10 R251). -/
def keyOf (kind pa : Nat) : Nat :=
  match kind with
  | 0 => pa
  | 1 => spanBase + pa % 2 ^ 47
  | 2 => sysBase + pa
  | _ => bankBase + pa

/-- Whether a key names device memory, in either view. -/
def isDev (key : Nat) : Bool := decide (key < sysBase) || (decide (bankBase ≤ key) && decide (key < spanBase))

/-- Whether a line is of device memory. -/
def devLine (line : Nat) : Bool := isDev (line * 128)

/-- Device of the span that a span key lies in. -/
def keyOwner (key : Nat) : Nat := (key - spanBase) / 2 ^ 40 % 128

/-- Whether a key names memory of this device by its span index (10 R251). -/
def Device.ownKey (d : Device) (key : Nat) : Bool := decide (spanBase ≤ key) && decide (keyOwner key = d.spanIndex)

/-- The key under which the byte of a key is stored: a byte of the bank view, and one that is named by this device's own span index, is
a byte of device memory. -/
def Device.home (d : Device) (key : Nat) : Nat :=
  if key < sysBase then key
  else if decide (bankBase ≤ key) && decide (key < spanBase) then bankView (key - bankBase)
  else if d.ownKey key then (key - spanBase) % 2 ^ 40
  else key

/-- The line in which the bytes of a line are stored. -/
def Device.homeLine (d : Device) (line : Nat) : Nat := d.home (line * 128) / 128

/-- Little-endian value of `n` bytes of memory. -/
def memNat (m : SMap 8) (key : Nat) : Nat → Nat
  | 0 => 0
  | n + 1 => (m.get key).toNat + 256 * memNat m (key + 1) n

/-- The bytes at some keys. -/
def Device.bytes (d : Device) (keys : List Nat) : List Byte := keys.map fun k => d.mem.get (d.home k)

/-- The canonical form of a memory: keys strictly rising, and no byte listed that reads as an unlisted one does (log entry 3). -/
def Memory.wf (m : List Host.Cell) : Bool := SMap.wf m

/-- Writes bytes at some keys. -/
def memPut (m : SMap 8) (keys : List Nat) (b : List Byte) : SMap 8 := m.setAll (keys.zip b)

/-- Lines of some memory keys, each once. -/
def linesOf (keys : List Nat) : List Nat :=
  keys.foldl (fun l k => if l.contains (k / 128) then l else l ++ [k / 128]) []

/-- The 128 bytes of a line. -/
def Device.lineBytes (d : Device) (line : Nat) : List Byte := d.bytes ((List.range 128).map fun i => line * 128 + i)

/-! ## Logical time (11 R281) -/

/-- Phase of a time. -/
def phase (t : Word64) : Nat := t.toNat / 2 ^ 40

/-- The start of the phase of a tick count. -/
def phaseStart (k : Nat) : Word64 := BitVec.ofNat 64 (k % 2 ^ 24 * 2 ^ 40)

/-- Rank of a time at pulse count `k`: larger is later; a phase ahead of the pulse is older than every live time. -/
def timeRank (k : Nat) (t : Word64) : Nat :=
  let df := (phase t + 2 ^ 24 - k % 2 ^ 24) % 2 ^ 24
  if 0 < df && df < 2 ^ 23 then 0 else (df + 2 ^ 23) % 2 ^ 24 * 2 ^ 40 + t.toNat % 2 ^ 40 + 1

/-- The later of two times. -/
def tmax (k : Nat) (a b : Word64) : Word64 := if timeRank k a < timeRank k b then b else a

/-- Whether a is not later than b. -/
def tle (k : Nat) (a b : Word64) : Bool := decide (timeRank k a ≤ timeRank k b)

/-- The end of a time's phase (11 R283). -/
def phaseEnd (t : Word64) : Word64 := BitVec.ofNat 64 (phase t * 2 ^ 40 + (2 ^ 40 - 1))

/-- How many ticks a time's phase lies behind the pulse; 0 when it does not. -/
def behind (k : Nat) (t : Word64) : Nat :=
  let df := (k % 2 ^ 24 + 2 ^ 24 - phase t) % 2 ^ 24
  if df < 2 ^ 23 then df else 0

/-- The floor of every part after the tick to count `k` (11 R285). -/
def floorTime (k tension : Nat) : Word64 := phaseStart (k - tension - 1)

namespace Device

/-- The pulse count. -/
def pulse (d : Device) : Nat := d.clk.pulse

/-- The present floor. -/
def floor (d : Device) : Word64 := floorTime d.pulse d.clk.tension

/-- Writes bytes of memory; a line whose data was lost holds new data then. -/
def putBytes (d : Device) (keys : List Nat) (b : List Byte) : Device :=
  let ks := keys.map d.home
  { d with mem := memPut d.mem ks b, bad := d.bad.filter fun l => !ks.any fun k => decide (k / 128 = l) }

/-- Whether the data of a line is lost (13 R327). -/
def lostLine (d : Device) (line : Nat) : Bool := d.bad.contains (d.homeLine line)

/-- Whether the data at some keys is lost. -/
def lost (d : Device) (keys : List Nat) : Bool := (linesOf keys).any d.lostLine

/-- Whether a bank product holds a line (10 R268). -/
def lineHeld (d : Device) (line : Nat) : Bool := d.bmvs.any fun b => b.2.held.contains (d.homeLine line)

/-- Home slice of a line, of the physical address by which it is named (10 R261). -/
def slice (line : Nat) : Nat :=
  let l := line % (bankBase / 128)
  let f := l / 2 ^ 14
  if devLine line then (if 6 ≤ f % 12 then 96 else 0) + (l % 2 ^ 14 + f) % 96
  else (l % 2 ^ 14 + f % 2 ^ 26) % 192

/-- The set of a slice that holds a line; the manual does not give it (log entry 13). -/
def l2Set (line : Nat) : Nat := line / 192 % 768

/-- A stored time raised when its phase is more than 2^20 behind (11 R282). -/
def raised (d : Device) (t : Word64) : Word64 :=
  if 2 ^ 20 < behind d.pulse t then phaseStart (d.pulse + 2 ^ 24 - 2 ^ 20) else t

/-- ER of the slice of a line. -/
def erOf (d : Device) (line : Nat) : Word64 := d.raised (d.er.get (slice line))

/-- Times of a line of device memory as its slice keeps them, or ER of that slice (11 R282). -/
def keptTime (d : Device) (line : Nat) : LineTime :=
  match d.lines.get? line with
  | some l => ⟨d.raised l.wts, d.raised l.rts⟩
  | none => ⟨d.erOf line, d.erOf line⟩

/-- Times of a line: those of the line it is stored in; one named in the bank view, whose own slice holds none of it, is no earlier
than ER of that slice (10 R261, 11 R282; log entry 75). -/
def lineTime (d : Device) (line : Nat) : LineTime :=
  let x := d.keptTime (d.homeLine line)
  if devLine line && decide (bankBase / 128 ≤ line) then ⟨tmax d.pulse x.wts (d.erOf line), tmax d.pulse x.rts (d.erOf line)⟩ else x

/-- Lines a slice holds, most recently used first. -/
def held (d : Device) (s : Nat) : List L2Line := d.l2.getD s []

/-- What the L2 holds of a line. -/
def l2Find (d : Device) (line : Nat) : Option L2Line := (d.held (slice line)).find? fun l => decide (l.line = line)

/-- Whether the L2 holds a line. -/
def inL2 (d : Device) (line : Nat) : Bool := (d.l2Find line).isSome

/-- Raises ER of a line's slice to at least a time. -/
def raiseEr (d : Device) (line : Nat) (t : Word64) : Device :=
  { d with er := d.er.set (slice line) (tmax d.pulse (d.er.get (slice line)) t) }

/-- Records the times of a line; a line that no slice holds leaves them in ER (11 R282). -/
def setLineTime (d : Device) (line : Nat) (x : LineTime) : Device :=
  let h := d.homeLine line
  let d := if d.inL2 h then { d with lines := d.lines.set h x } else d.raiseEr h x.rts
  if h = line || !devLine line then d else d.raiseEr line x.rts

end Device

/-! ## L2 forms (10 R262) -/

/-- Elements of `n` bytes of some bytes. -/
def chunks (n : Nat) : Nat → List Byte → List Nat
  | 0, _ => []
  | k + 1, l => leNat (l.take n) :: chunks n k (l.drop n)

/-- Whether every element's delta from element 0 fits `b` signed bits (10 R262). -/
def deltaFits (w n b : Nat) (bytes : List Byte) : Bool :=
  let es := chunks w n bytes
  let e0 := es.headD 0
  es.all fun e =>
    let x := sextNat (8 * w) (e + 2 ^ (8 * w) - e0)
    decide (-(2 ^ (b - 1) : Nat) ≤ x) && decide (x < (2 ^ (b - 1) : Nat))

/-- The first code of the table that a line fits: 1 H4, 2 W8, 3 W12, 4 D24; 0 for none. -/
def lineCode (b : List Byte) : Nat :=
  if deltaFits 2 64 4 b then 1 else if deltaFits 4 32 8 b then 2 else if deltaFits 4 32 12 b then 3 else if deltaFits 8 16 24 b then 4 else 0

/-- The form of a line, 0 zero, 1 compressed or 2 full, its code, and whether its page refused compression. -/
def lineForm (ca : Bool) (b : List Byte) : Nat × Nat × Bool :=
  if b.all (· == 0) then (0, 0, false)
  else if lineCode b = 0 then (2, 0, false)
  else if ca then (1, lineCode b, false)
  else (2, 0, true)

/-- Data halves that a form takes. -/
def halves (form : Nat) : Nat := form

namespace Device

/-- Key of a unit counter: class, unit, counter (14 R343). -/
def tallyKey (cls unit k : Nat) : Nat := (cls * 2 ^ 16 + unit) * 2 ^ 8 + k

/-- A unit counter counts an event, which a clearing write of the same cycle leaves in it (04 R123, 14 R343). -/
def tallied (d : Device) (cls unit k : Nat) : Device :=
  let m := if d.tallyAt = d.clk.cycle + 1 then d.tally else []
  { d with tally := m.set (tallyKey cls unit k) (m.get (tallyKey cls unit k) + 1), tallyAt := d.clk.cycle + 1 }

/-- What a unit counter has counted in the present cycle. -/
def tallyOf (d : Device) (cls unit k : Nat) : Word64 := if d.tallyAt = d.clk.cycle + 1 then d.tally.get (tallyKey cls unit k) else 0

/-- Adds one to a counter of a slice (10 R263). -/
def bumpL2 (d : Device) (s c : Nat) : Device :=
  ({ d with l2cnt := d.l2cnt.set (s * 8 + c) (d.l2cnt.get (s * 8 + c) + 1) } : Device).tallied 1 s c

/-- Removes the copy of a line from the L2, keeping its times in ER (11 R282). -/
def dropL2 (d : Device) (line : Nat) : Device :=
  if d.inL2 line then
    let d := if devLine line then d.raiseEr line (d.keptTime line).rts else d
    { d with l2 := d.l2.set (slice line) ((d.held (slice line)).filter fun l => decide (l.line ≠ line)),
             lines := d.lines.del line }
  else d

/-- Evicts least recently used lines of a set until it fits its tags and halves (10 R262, 13 R327). -/
def evictL2 (s st : Nat) : Nat → Device → Device
  | 0, d => d
  | n + 1, d =>
    let ls := (d.held s).filter fun l => decide (l2Set l.line = st)
    let dead := (d.l2dead.filter fun l => decide (slice l = s) && decide (l2Set l = st)).length
    if decide (ls.length + dead ≤ 32) && decide ((ls.map fun l => halves l.form).foldl (· + ·) 0 ≤ 32) then d
    else match ls.getLast? with
      | some l => evictL2 s st n (d.dropL2 l.line)
      | none => d

/-- Puts a line in front of its slice, its form and code chosen afresh, with the copy of it when it is a far one (10 R262, R263). -/
def fillL2 (d : Device) (line : Nat) (ca write : Bool) (far : Option FarCopy) : Device :=
  let s := slice line
  let f := lineForm ca (match far with | some c => c.data | none => d.lineBytes line)
  let old := d.l2Find line
  let t := d.keptTime line
  let x : L2Line := ⟨line, f.1, f.2.1, ca, write || (match old with | some l => l.dirty | none => false), far⟩
  let d := { d with l2 := d.l2.set s (x :: (d.held s).filter fun l => decide (l.line ≠ line)),
                    lines := if devLine line then d.lines.set line t else d.lines }
  let d := d.bumpL2 s (match f.1 with | 0 => 5 | 1 => 4 | _ => 3)
  let d := if f.2.2 && old.isNone then d.bumpL2 s 6 else d
  evictL2 s (l2Set line) 40 d

/-- A line of device memory is read or written at its home slice: it is filled if it may be, its form is chosen, and it becomes the most
recently used (10 R252, R262, R263). -/
def touchL2 (d : Device) (line : Nat) (policy : Nat) (ca write : Bool) : Device :=
  let s := slice line
  match d.l2Find line with
  | none => if policy = 2 then d else d.fillL2 line ca write none
  | some l =>
    if write then d.fillL2 line ca true none
    else { d with l2 := d.l2.set s (l :: (d.held s).filter fun x => decide (x.line ≠ line)) }

/-- A line that is named in the bank view or by the own span index has been written: what the L2 holds of the line it is stored in takes
its form afresh, under the page by which it is held there, so that no two copies disagree (10 R252, R262). -/
def retouch (d : Device) (line : Nat) : Device :=
  if d.homeLine line = line then d
  else match d.l2Find (d.homeLine line) with
    | some l => d.touchL2 (d.homeLine line) 2 l.ca true
    | none => d

/-! ## Timed accesses at a home slice (11 R283, R284, R286) -/

/-- A load at the home slice that takes no lease: its time. Its line's `rts` is not left below it, so that no later write of the line comes
before it in the device order (11 R273, R283; log entry 74). -/
def readTime (d : Device) (line : Nat) (pts : Word64) : Word64 × Device :=
  let lt := d.lineTime line
  let t := tmax d.pulse pts lt.wts
  (t, d.setLineTime line ⟨lt.wts, tmax d.pulse lt.rts t⟩)

/-- A load at the home slice: its time and the lease end it is given, if any. -/
def loadTime (d : Device) (line : Nat) (pts : Word64) : Word64 × Option Word64 × Device :=
  let lt := d.lineTime line
  let t := tmax d.pulse pts lt.wts
  if 1 ≤ behind d.pulse t then
    let r := tmax d.pulse lt.rts (phaseEnd t)
    (t, some r, d.setLineTime line ⟨lt.wts, r⟩)
  else (t, none, (d.readTime line pts).2)

/-- A store, an atomic or an engine write at the home slice: its time. -/
def storeTime (d : Device) (line : Nat) (pts : Word64) : Word64 × Device :=
  let ts := tmax d.pulse pts ((d.lineTime line).rts + 1)
  (ts, d.setLineTime line ⟨ts, ts⟩)

/-- Key of the first byte of what waits at a line. -/
def parkedKey (d : Device) (x : Parked) : Nat :=
  match x with
  | .bytes kb _ _ => (kb.map (·.1)).headD 0
  | .status k _ _ _ _ => k
  | .access r i => (((d.reqs.get? r).bind fun q => q.accs[i]?).map fun a => a.keys.headD 0).getD 0

/-- What reaches a line that a bank product holds waits with the product that holds it, behind what waits there (10 R268, 11 R284). -/
def park (d : Device) (line : Nat) (x : Parked) : Device :=
  let h := d.homeLine line
  let holds (b : Nat × BmvOp) : Bool := b.2.held.contains h
  match (d.bmvs.find? fun b => holds b && b.2.parked.any fun y => decide (d.homeLine (d.parkedKey y / 128) = h)).orElse fun _ => d.bmvs.find? holds with
  | some b => { d with bmvs := d.bmvs.set b.1 { b.2 with parked := b.2.parked ++ [x] } }
  | none => d

/-! ## Owners of span and system memory (13 R319, R322, R323) -/

/-- Ports that lead to a device of the span and are up (13 R322). -/
def portsTo (d : Device) (dst : Nat) : BitVec 18 := d.mgmt.route.get dst &&& d.mgmt.portUp &&& ~~~ d.mgmt.portDown

/-- Whether a line lies in another device of the span to which no port leads (13 R322). -/
def noRoute (d : Device) (line : Nat) : Bool :=
  decide (spanBase / 128 ≤ line) && !d.ownKey (line * 128) && d.portsTo (keyOwner (line * 128)) == 0

/-- The port on which a request for a line is sent. -/
def portOf (d : Device) (line : Nat) : Option Nat :=
  let ps := below 18 fun p => bit (d.portsTo (keyOwner (line * 128))) p
  ps[Config.spanHash line % ps.length]?

/-- An access that failed first on a port has been delivered: the failure was transient (13 R324). -/
def transientOn (d : Device) (port : Option Nat) : Device :=
  match port with
  | some p => ({ d with mgmt := { d.mgmt with transient := d.mgmt.transient.set p (d.mgmt.transient.get p + 1) } } : Device).tallied 3 p 1
  | none => d

/-- Whether the owner of a line refuses accesses of it: the host or another device does, or this device because the offset lies beyond its
capacity. -/
def refuses (d : Device) (line : Nat) : Bool :=
  d.refused.contains line || (d.ownKey (line * 128) && decide (d.capacity ≤ (line * 128 - spanBase) % 2 ^ 40))

/-- Why an access of a line cannot be served, as the failure cause of an engine (12 R301): lost data, no port, a refusal. -/
def gone (d : Device) (load : Bool) (line : Nat) : Option Nat :=
  if d.refuses line then some 2 else if d.noRoute line then some 4 else if load && d.lostLine line then some 3 else none

end Device

end Sys2Proof.Machine
end

