-- ==== Sys2Proof/Machine/Translate.lean ====
section
/-! DEFINITION. Translation: page walks, the TLBs and walk caches, the permission rules, and the keys of a range of virtual addresses
(06 R153 to R155; 10 R264; 12 R291 to R300). -/

namespace Sys2Proof.Machine

/-! ## Walks (12 R291 to R297) -/

/-- A virtual address is canonical when bits 63 to 57 equal bit 56 (06 R153). -/
def canonical (va : Word64) : Bool := bits va 63 57 == (if bit va 56 then 127 else 0)

/-- Index of a virtual address into the table of a level (12 R291). -/
def vaIndex (va : Word64) (lv : Nat) : Nat := bits va (20 + 9 * lv) (12 + 9 * lv)

/-- The leaf that a valid leaf entry gives at a level, or the fault of its checks (12 R293, R295). -/
def leafOf (d : Device) (sp : Nat × Nat) (va : Word64) (lv e : Nat) : Except (Nat × Nat) Leaf :=
  let x : Word64 := BitVec.ofNat 64 e
  let kind := bits x 6 5
  let s64 := bit x 52
  let pa := bits x 51 12 * 2 ^ 12
  let size := if lv = 1 then 2 ^ 21 else if s64 then 2 ^ 16 else 2 ^ 12
  let merged := bit x 53
  let big := 16 * size
  let out :=
    match kind with
    | 1 => decide (2 ^ 47 ≤ pa)
    | 2 => false
    | _ => decide (d.capacity < pa + size)
  if bits x 63 54 ≠ 0 then .error (2, lv)
  else if kind ≠ 3 && decide (bits x 8 7 ≠ 0) then .error (2, lv)
  else if 2 ≤ lv then .error (3, lv)
  else if lv = 1 && decide (bits x 20 12 ≠ 0) then .error (3, lv)
  else if s64 && (decide (lv ≠ 0) || decide (bits x 15 12 ≠ 0)) then .error (3, lv)
  else if merged && decide (pa % big ≠ va.toNat % big / size * size) then .error (3, lv)
  else if decide (bits x 11 10 = 3) || (decide (kind = 3) && (decide (lv ≠ 1) || decide (bits x 8 7 = 3) || bit x 4)) || out then
    .error (4, lv)
  else
    let sz := if merged then big else size
    .ok { space := sp, vbase := va.toNat / sz * sz, size := sz, pbase := pa / sz * sz, kind := kind,
          policy := bits x 11 10, ca := bit x 9, fmt := bits x 8 7, x := bit x 4, w := bit x 3, r := bit x 2 }

/-- Tag of a walk cache entry: the address bits that select the entry of a level. -/
def walkTag (va : Word64) (lv : Nat) : Nat := va.toNat % 2 ^ 57 / 2 ^ (12 + 9 * lv)

/-- A walk: what it ends in, the table entries that it leaves to the walk cache, and the addresses of the entries it reads, the final one
last. -/
structure Walk where
  /-- What it ends in. -/
  res : WalkEnd
  /-- Entries for the walk cache. -/
  tables : List WalkEntry
  /-- Addresses of the entries read. -/
  reads : List Nat
  deriving DecidableEq, Repr

/-- A walk from the table at `ta` of level `lv` down (12 R293). -/
def walkGo (d : Device) (sp : Nat × Nat) (va : Word64) : Nat → Nat → Walk
  | lv, ta =>
    let key := ta + 8 * vaIndex va lv
    let e := memNat d.mem key 8
    let stop (s l : Nat) : Walk := ⟨.fault s l, [], [key]⟩
    if d.lostLine (key / 128) then stop 6 lv
    else if e % 2 = 0 then stop 1 lv
    else if e / 2 % 2 = 1 then
      match leafOf d sp va lv e with
      | .ok l => ⟨.leaf l, [], [key]⟩
      | .error x => stop x.1 x.2
    else if e / 2 ^ 52 ≠ 0 || decide (e / 4 % 2 ^ 10 ≠ 0) then stop 2 lv
    else
      match lv with
      | 0 => stop 3 0
      | n + 1 =>
        let t := e / 2 ^ 12 % 2 ^ 40 * 2 ^ 12
        if d.capacity ≤ t then stop 3 (n + 1)
        else
          let r := walkGo d sp va n t
          ⟨r.res, ⟨sp, n + 1, walkTag va (n + 1), t⟩ :: r.tables, key :: r.reads⟩

/-- Die of a core (04 R122). -/
def dieOf (core : Nat) : Nat := core / 96

/-- The walk cache entry of a die for an address at level `lv`. -/
def cachedAt (d : Device) (die : Nat) (sp : Nat × Nat) (va : Word64) (lv : Nat) : Option WalkEntry :=
  (d.walks.getD die []).find? fun w => w.space == sp && decide (w.level = lv) && decide (w.tag = walkTag va lv)

/-- The deepest entry of the walk cache of a die that gives a table for an address. -/
def cachedNext (d : Device) (die : Nat) (sp : Nat × Nat) (va : Word64) : Option WalkEntry :=
  [2, 3, 4].findSome? (cachedAt d die sp va)

/-- What a walk leaves to the walk cache: nothing new when it faults (12 R297); the entry that it started from has been used. -/
def Walk.from (w : Walk) (hit : Option WalkEntry) : Walk :=
  { w with tables := (match w.res with | .leaf _ => w.tables | .fault _ _ => []) ++ hit.toList }

/-- A walk that starts at the deepest level the walk cache supplies (12 R293, R298). -/
def walk (d : Device) (core : Nat) (sp : Nat × Nat) (va : Word64) : Walk :=
  let root := (d.fn sp.1).asroot.get sp.2
  let ta := bits root 51 12 * 2 ^ 12
  let stop (s : Nat) : Walk := ⟨.fault s 4, [], []⟩
  if !canonical va then stop 5
  else if !bit root 0 then stop 1
  else if d.capacity ≤ ta then stop 3
  else
    let hit := cachedNext d (dieOf core) sp va
    (match hit with
      | some e => walkGo d sp va (e.level - 1) e.next
      | none => walkGo d sp va 4 ta).from hit

/-- Address of the final entry of a walk (12 R299). -/
def Walk.last (w : Walk) : Option Nat := w.reads.getLast?

/-- Whether a walk meets an entry whose line a bank product holds (10 R268, 12 R297). -/
def Walk.held (d : Device) (w : Walk) : Bool := w.reads.any fun a => d.lineHeld (a / 128)

/-- Puts table entries in front of the walk cache of a die, at most 256 for each level (12 R298). -/
def fillWalk (d : Device) (core : Nat) (es : List WalkEntry) : Device :=
  let old := d.walks.getD (dieOf core) []
  let all := (es ++ old.filter fun e => !es.contains e).filter fun e => decide (2 ≤ e.level)
  let lv (n : Nat) : List WalkEntry := (all.filter fun e => decide (e.level = n)).take 256
  { d with walks := d.walks.set (dieOf core) (lv 2 ++ lv 3 ++ lv 4) }

/-- A table entry is read as a load at the home slice of its line, with a pts of the floor and no lease (12 R297). The manual gives the
entry's line no page: it is filled as one of a page that is cached and permits compression (log entry 76). -/
def readEntry (d : Device) (a : Nat) : Device := ((d.touchL2 (a / 128) 1 true false).readTime (a / 128) d.floor).2

/-- The device after a walk. -/
def Device.afterWalk (d : Device) (core : Nat) (w : Walk) : Device := fillWalk (w.reads.foldl readEntry d) core w.tables

/-- Whether a walk in flight ends at the entry at which a walk on the die of a core ends (12 R299). -/
def Device.ends? (d : Device) (core : Nat) (w : Walk) (x : WalkReq) : Bool :=
  x.res.isNone && w.last.isSome && decide (dieOf x.core = dieOf core) && (walk d x.core x.space x.va).last == w.last

/-- The walks in flight of a device that end at the entry at which a walk ends end with it, and with the result of its read, which they still
have to give to the parts that asked for them (12 R299). -/
def Device.share (d : Device) (core : Nat) (w : Walk) (e : Device) : Device :=
  { e with walkQ := e.walkQ.map fun x => if d.ends? core w x then { x with res := some (walk d x.core x.space x.va).res } else x }

/-- Asks for the walk that a part needs, unless it has asked for it already (12 R299). -/
def Device.ask (d : Device) (q : WalkReq) : Device :=
  if d.walkQ.any fun x => decide (x.wave = q.wave) && (x.quads &&& q.quads != 0) && decide (x.space = q.space) &&
      decide (x.va.toNat / 4096 = q.va.toNat / 4096) then d
  else { d with walkQ := d.walkQ ++ [q] }

/-! ## TLBs (12 R298) -/

/-- Whether a leaf translates an address of a space. -/
def Leaf.covers (l : Leaf) (sp : Nat × Nat) (va : Word64) : Bool :=
  l.space == sp && decide (l.vbase ≤ va.toNat) && decide (va.toNat < l.vbase + l.size)

/-- Puts an entry in front of a list of at most `n`, the least recently used leaving (12 R298). -/
def lruPut {α : Type} [DecidableEq α] (n : Nat) (x : α) (l : List α) : List α := (x :: l.filter fun y => y ≠ x).take n

/-- Cluster of a core (10 R260). -/
def clusterOf (core : Nat) : Nat := core / 4

/-- Puts a leaf in front of the L1 TLB of a core. -/
def fillTlb1 (d : Device) (core : Nat) (l : Leaf) : Device :=
  let c := d.core core
  d.setCore core { c with tlb := lruPut 128 l c.tlb }

/-- Puts a leaf into the L1 TLB of a core and the L2 TLB of its cluster. -/
def fillTlb (d : Device) (core : Nat) (l : Leaf) : Device :=
  let d := fillTlb1 d core l
  { d with tlb2 := d.tlb2.set (clusterOf core) (lruPut 4096 l (d.tlb2.getD (clusterOf core) [])) }

/-- Why an access is not served. -/
inductive AccFault where
  /-- Translation fault: subcode and level. -/
  | tr (sub lv : Nat)
  /-- Permission fault: subcode. -/
  | pm (sub : Nat)
  /-- Its line cannot be reached, as the failure cause of an engine: 2 refused, 3 lost, 4 no port (13 R319, R322, R323, R327). -/
  | gone (cause : Nat)
  /-- It has to wait: for a walk, or for a line that a bank product holds. -/
  | wait
  deriving DecidableEq, Repr

/-- Who asks for a translation. -/
inductive Asker where
  /-- A part of a wave, with the results of the walks it has asked for. -/
  | part (wave : Nat) (quads : BitVec 16) (had : List Walked)
  /-- An engine, a bank unit or the device's own machinery. -/
  | unit
  deriving DecidableEq, Repr

/-- What a walk ended in, as the result of a translation. -/
def WalkEnd.give (x : WalkEnd) : Except AccFault Leaf :=
  match x with
  | .leaf l => .ok l
  | .fault s lv => .error (.tr s lv)

/-- Whether the result of a walk answers for an address: its leaf covers it, or it faulted for an address of the same page. -/
def Walked.answers (x : Walked) (sp : Nat × Nat) (va : Word64) : Bool :=
  match x.res with
  | .leaf l => l.covers sp va
  | .fault _ _ => decide (x.va.toNat / 4096 = va.toNat / 4096)

/-- A translation that no TLB gives. A part waits for the walk that it asks for. Every other agent walks at once, unless an entry stands in a
held line, which it waits for; a walk in flight that ends at the same entry ends then too, so that both take the result of one read
(12 R297 to R299; log entry 77). -/
def missTlb (d : Device) (who : Asker) (core : Nat) (sp : Nat × Nat) (va : Word64) : Except AccFault Leaf × Device :=
  match who with
  | .part w q had =>
    match had.find? (·.answers sp va) with
    | some x => (x.res.give, d)
    | none => (.error .wait, d.ask ⟨core, sp, va, w, q, none⟩)
  | .unit =>
    let w := walk d core sp va
    if w.held d then (.error .wait, d)
    else
      let d := d.share core w (d.afterWalk core w)
      (w.res.give, match w.res with | .leaf l => fillTlb d core l | .fault _ _ => d)

/-- Translates an address for a core: the checks that need no table, the L1 TLB, the L2 TLB, then a walk (12 R293, R298). -/
def translate (d : Device) (who : Asker) (core : Nat) (sp : Nat × Nat) (va : Word64) : Except AccFault Leaf × Device :=
  if !canonical va then (.error (.tr 5 4), d)
  else if !bit ((d.fn sp.1).asroot.get sp.2) 0 then (.error (.tr 1 4), d)
  else
    match (d.core core).tlb.find? (·.covers sp va) with
    | some l => (.ok l, fillTlb1 d core l)
    | none =>
      match (d.tlb2.getD (clusterOf core) []).find? (·.covers sp va) with
      | some l => (.ok l, fillTlb d core l)
      | none => missTlb d who core sp va

/-- Physical address of a virtual address under its leaf. -/
def Leaf.phys (l : Leaf) (va : Word64) : Nat := l.pbase + (va.toNat - l.vbase)

/-- Key of the byte at a virtual address under its leaf. -/
def Leaf.key (l : Leaf) (va : Word64) : Nat := keyOf l.kind (l.phys va)

/-! ## Permission (06 R154, 12 R296) -/

/-- What an access asks of a leaf (12 R296). -/
inductive Acc where
  | load
  | store
  | atomic
  | atomicV
  | fetch
  | engRead
  /-- An engine write; true when it converts to the bank layout. -/
  | engWrite (bank : Bool)
  /-- A host access through BAR2. -/
  | barRead
  | barWrite
  deriving DecidableEq, Repr

/-- Whether an access is an atomic, which must be naturally aligned (06 R155). -/
def Acc.isAtomic : Acc → Bool
  | .atomic => true
  | .atomicV => true
  | _ => false

/-- The subcode of an access that some of its leaves refuse: the first reason in the order of the manual, whichever leaf gives it, or none
(12 R296). `mis` says that an atomic is not naturally aligned. -/
def perm (a : Acc) (mis : Bool) (ls : List Leaf) : Option Nat :=
  let need (k : Leaf → Bool) (x r w : Bool) : Option Nat :=
    if ls.any fun l => !k l then some 5
    else if x && ls.any (·.x) then some 6
    else if r && ls.any (!·.r) then some 1
    else if w && ls.any (!·.w) then some 2
    else if mis then some 4
    else none
  let all (_ : Leaf) : Bool := true
  let flat (l : Leaf) : Bool := decide (l.kind ≠ 3)
  match a with
  | .load => need all false true false
  | .store => need flat true false true
  | .atomic => need flat true true true
  | .atomicV => need (fun l => decide (l.kind = 0)) true true true
  | .fetch => if ls.any (!·.x) then some 3 else none
  | .engRead => need all false true false
  | .engWrite bank => need (fun l => decide (l.kind ≠ 3) || bank) true false true
  | .barRead => need all false true false
  | .barWrite => need flat false false true

/-! ## Elements and ranges (06 R155) -/

/-- Leaves and keys of the bytes of an access, in ascending address. -/
abbrev Bytes := List (Leaf × Nat)

/-- Keys of bytes. -/
def Bytes.keys (b : Bytes) : List Nat := b.map (·.2)

/-- The bytes of an element of `n` bytes: a second page is translated where the element crosses into one (06 R155). -/
def element (d : Device) (who : Asker) (core : Nat) (sp : Nat × Nat) (a : Acc) (mis : Bool) (va : Word64) (n : Nat) :
    Except AccFault Bytes × Device :=
  let last := va + BitVec.ofNat 64 (n - 1)
  let r := translate d who core sp va
  let one := (match r.1 with | .ok l => l.covers sp last | .error _ => false) || decide (va.toNat / 4096 = last.toNat / 4096)
  let r2 := if one then r else translate r.2 who core sp last
  (match r.1, r2.1 with
    | .error .wait, _ => .error .wait
    | _, .error .wait => .error .wait
    | .error x, _ => .error x
    | .ok _, .error x => .error x
    | .ok l, .ok l2 =>
      match perm a mis [l, l2] with
      | some s => .error (.pm s)
      | none => .ok ((List.range n).map fun i =>
          let v := va + BitVec.ofNat 64 i
          let m := if l.covers sp v then l else l2
          (m, m.key v)), r2.2)

/-- The pieces of a range cut at multiples of `w`: address and bytes. -/
def pieces (w : Nat) (va : Word64) (n : Nat) : List (Word64 × Nat) :=
  let a := va.toNat
  (List.range (n / w + 2)).filterMap fun i =>
    let lo := max a (a / w * w + w * i)
    let hi := min (a + n) (a / w * w + w * (i + 1))
    if lo < hi then some (BitVec.ofNat 64 lo, hi - lo) else none

/-- The bytes of a list of pieces, or the address of the first that fails and why. -/
def reachGo (who : Asker) (core : Nat) (sp : Nat × Nat) (a : Acc) : List (Word64 × Nat) → Device → Except (Word64 × AccFault) Bytes × Device
  | [], d => (.ok [], d)
  | x :: l, d =>
    match element d who core sp a false x.1 x.2 with
    | (.error e, d) => (.error (x.1, e), d)
    | (.ok b, d) =>
      match reachGo who core sp a l d with
      | (.ok r, d) => (.ok (b ++ r), d)
      | (.error e, d) => (.error e, d)

/-- The bytes of a range, for an agent that walks at once; or the address of the first page that fails and why. -/
def reach (d : Device) (core : Nat) (sp : Nat × Nat) (a : Acc) (va : Word64) (n : Nat) : Except (Word64 × AccFault) Bytes × Device :=
  reachGo .unit core sp a (pieces 4096 va n) d

/-- Why some lines cannot be accessed: they are held, or cannot be reached. -/
def Device.barred (d : Device) (load : Bool) (keys : List Nat) : Option AccFault :=
  let ls := linesOf keys
  if load && ls.any d.lineHeld then some .wait else (ls.findSome? (d.gone load)).map .gone

end Sys2Proof.Machine
end

