-- ==== Sys2Proof/Machine/Memory.lean ====
section
/-! DEFINITION. Accesses at home slices and owners, the L1s with their leases, and the service of committed requests (10 R252 to R263,
R268; 11 R280 to R287). -/

namespace Sys2Proof.Machine

/-! ## Accesses at a home slice (10 R252, R262; 11 R283, R284, R286) -/

namespace Device

/-- Whether a line is at home in a slice of this device: a line of device memory, or one named by its own span index (11 R278). -/
def isHome (d : Device) (line : Nat) : Bool := devLine line || d.ownKey (line * 128)

/-- The line by which a slice of this device is reached for a line that is at home there. -/
def viaLine (d : Device) (line : Nat) : Nat := if devLine line then line else d.homeLine line

/-- Policy and compression attribute with which a line is treated at its home slice. A bank-layout leaf is uncached whatever its policy; a
request of the span carries no page, and is treated as one of a streaming page that permits compression (10 R252; log entry 76). -/
def pageAt (line kind policy : Nat) (ca : Bool) : Nat × Bool := if kind = 3 then (2, ca) else if devLine line then (policy, ca) else (1, true)

/-- A load of a line at home here: its time, and the lease end that it is given, if any. -/
def loadAt (d : Device) (line : Nat) (pg : Nat × Bool) (t : Word64) : Word64 × Option Word64 × Device :=
  let h := d.viaLine line
  (d.touchL2 h pg.1 pg.2 false).loadTime h t

/-- A read of a line at home here that takes no lease: its time. -/
def readAt (d : Device) (line : Nat) (pg : Nat × Bool) (t : Word64) : Word64 × Device :=
  let h := d.viaLine line
  (d.touchL2 h pg.1 pg.2 false).readTime h t

/-- Bytes are written to a line at home here. -/
def writeAt (d : Device) (line : Nat) (pg : Nat × Bool) (keys : List Nat) (b : List Byte) : Device :=
  let h := d.viaLine line
  (((d.touchL2 h pg.1 pg.2 false).putBytes keys b).touchL2 h pg.1 pg.2 true).retouch h

/-- The time of a write of a line at home here. -/
def timeAt (d : Device) (line : Nat) (pg : Nat × Bool) (t : Word64) : Word64 × Device :=
  let h := d.viaLine line
  (d.touchL2 h pg.1 pg.2 false).storeTime h t

/-- A write of a line at home here: its time, and the bytes written, or waiting while a bank product holds the line (11 R284). -/
def storeAt (d : Device) (line : Nat) (pg : Nat × Bool) (t : Word64) (keys : List Nat) (b : List Byte) : Word64 × Device :=
  let s := d.timeAt line pg t
  (s.1, if d.lineHeld line then s.2.park line (.bytes (keys.zip b) pg.1 pg.2) else s.2.writeAt line pg keys b)

end Device

/-! ## L1 (10 R258 to R260) -/

namespace Device

/-- The core whose L1 may hold a line for a core (10 R260). -/
def l1Core (d : Device) (core line : Nat) : Nat := if (d.core core).fused then core / 4 * 4 + line % 4 else core

/-- The L1 copy of a line that a core would look up. -/
def l1Find (d : Device) (core line : Nat) : Option L1Line :=
  (d.core (d.l1Core core line)).l1.find? fun l => decide (l.line = line)

/-- Puts a copy in front of the L1, 1,024 lines at most. -/
def l1Put (d : Device) (core : Nat) (x : L1Line) : Device :=
  let k := d.l1Core core x.line
  let c := d.core k
  d.setCore k { c with l1 := (x :: c.l1.filter fun l => decide (l.line ≠ x.line)).take 1024 }

/-- Drops the L1 copy of a line. -/
def l1Drop (d : Device) (core line : Nat) : Device :=
  let k := d.l1Core core line
  let c := d.core k
  d.setCore k { c with l1 := c.l1.filter fun l => decide (l.line ≠ line) }

/-- A write of this device to a line that is not of device memory: its copies here are dropped before it leaves, and it is performed at the
owner, which may be this device (10 R259, 11 R278). Gives its time. -/
def farStore (d : Device) (core : Option Nat) (line : Nat) (t : Word64) (keys : List Nat) (b : List Byte) : Word64 × Device :=
  let d := d.dropL2 line
  let d := match core with | some c => d.l1Drop c line | none => d
  if d.ownKey (line * 128) then d.storeAt line (1, true) t keys b else (t, d.putBytes keys b)

end Device

/-! ## Atomics (06 R163, R164) -/

/-- The new word of an atomic: op of 06 R164, width in bits, old word, operand, swap. -/
def atomNew (op w old b c : Nat) : Nat :=
  match op with
  | 0 => (old + b) % 2 ^ w
  | 1 => if sextNat w b < sextNat w old then b else old
  | 2 => if sextNat w old < sextNat w b then b else old
  | 3 => old &&& b
  | 4 => old ||| b
  | 5 => b
  | 6 => if old = b then c else old
  | _ => (fAdd .f32 1 (val .f32 old) (val .f32 b)).1

/-- The op of ATOMG that an op of ATOML is (06 R163). -/
def atomlOp (op : Nat) : Nat :=
  match op with
  | 0 => 0 | 1 => 7 | 2 => 1 | 3 => 2 | 4 => 3 | 5 => 4 | 6 => 5 | _ => 6

/-! ## Requests -/

/-- The wave of a request, if it is still the one that made it (01 R40). -/
def Device.liveWave (d : Device) (w : Nat) (gen : BitVec 16) : Option Wave :=
  match d.waves.get? w with
  | some x => if x.gen = gen && !x.killed then some x else none
  | none => none

/-- The time that the next access of some quads of a wave is timed from: pts, and the times not yet returned (11 R284). -/
def Device.fromTime (d : Device) (w : Nat) (q : BitVec 16) : Word64 :=
  match d.waves.get? w with
  | some x => (x.parts.filter fun p => p.quads &&& q != 0).foldl (fun t p => tmax d.pulse t (tmax d.pulse p.pts p.owed)) d.floor
  | none => d.floor

/-- Changes the parts of a wave that hold one of some quads. -/
def Device.mapParts (d : Device) (w : Nat) (q : BitVec 16) (f : Part → Part) : Device :=
  { d with waves := d.waves.upd w fun x => { x with parts := onParts x.parts q f } }

/-- Core of a wave. -/
def Device.coreOf (d : Device) (w : Nat) : Nat := ((d.waves.get? w).map (·.core)).getD 0

/-- Whether a request asks for a load. -/
def ReqKind.isLoad : ReqKind → Bool
  | .vload _ _ => true
  | .sload _ _ => true
  | _ => false

/-- Whether a request carries a release and acquire at span or system scope (06 R165). -/
def ReqKind.scoped : ReqKind → Bool
  | .atom _ _ _ _ _ sc => decide (1 ≤ sc)
  | _ => false

/-! ## Accesses of requests -/

/-- The line of an access. -/
def Access.line (a : Access) : Nat := a.keys.headD 0 / 128

/-- Whether an access is of device memory. -/
def Access.dev (a : Access) : Bool := isDev (a.keys.headD 0)

/-- How the home slice treats the line of an access. -/
def Access.page (a : Access) : Nat × Bool := Device.pageAt a.line a.kind a.policy a.ca

/-- Whether an access has reached its line: it is served, or it is timed and waits there (11 R284). -/
def Access.reached (a : Access) : Bool := a.served || a.parked

/-- Why an access of a request cannot be served, as the failure cause of an engine. -/
def Device.lostTo (d : Device) (r : Req) (a : Access) : Option Nat := d.gone (r.kind != .store) a.line

/-- The first access of a request that has not reached its line and can, with its index. -/
def Device.next? (d : Device) (r : Req) : Option (Nat × Access) :=
  (r.accs.zipIdx.find? fun a => !a.1.reached && (d.lostTo r a.1).isNone).map fun a => (a.2, a.1)

/-- Whether every access of a request is served. -/
def Req.served (r : Req) : Bool := r.accs.all (·.served)

/-- Whether every access of a request has reached its line. -/
def Req.reached (r : Req) : Bool := r.accs.all (·.reached)

/-- Dword `i` of a descriptor. -/
def dw (l : List Word64) (i : Nat) : Word64 := l.getD i 0

/-! ## PUTSIG payloads that a release waits for (06 R167) -/

/-- One address in each 4 KiB page of a range. -/
def pagesOf (va : Word64) (n : Nat) : List Word64 :=
  (List.range (n / 4096 + 2)).map fun i => BitVec.ofNat 64 (min (va.toNat + 4096 * i) (va.toNat + (n - 1)))

/-- Whether an address translates to span or system memory for an operation. -/
def isFar (d : Device) (core : Nat) (sp : Nat × Nat) (va : Word64) : Bool :=
  match (translate d .unit core sp va).1 with
  | .ok l => decide (l.kind = 1) || decide (l.kind = 2)
  | .error _ => false

/-- Whether an operation is a PUTSIG that still has payload to write to span or system memory. -/
def owesFar (d : Device) (o : EngOp) : Bool :=
  match o.kind with
  | .putsig x =>
    let n := bits (dw x 3) 24 0
    decide (o.pos < n) && (pagesOf (dw x 0 + BitVec.ofNat 64 o.pos) (n - o.pos)).any (isFar d o.core o.space)
  | _ => false

/-! ## Order of service (06 R165; 11 R272, R273, R278) -/

/-- Whether a scoped atomic has not returned to its part; one whose line is lost or refused never does, and is not waited for. -/
def Device.unreturned (d : Device) (r : Req) : Bool := r.kind.scoped && !r.back && r.accs.all fun a => (d.lostTo r a).isNone

/-- Whether an earlier access keeps an access waiting: accesses of device memory reach their lines in program order, and those of one line always
do. -/
def keepsBack (d : Device) (a : Access) (x : Req) (b : Access) : Bool :=
  !b.reached && (d.lostTo x b).isNone && ((a.dev && b.dev) || decide (a.line = b.line))

/-- Whether a scope keeps a request waiting: what follows a scoped atomic leaves only after that has returned, and a scoped atomic leaves once
what stands before it is performed, PUTSIG payloads included (06 R165). -/
def Device.scopeWaits (d : Device) (rid : Nat) (r : Req) : Bool :=
  (d.reqs.any fun x =>
    decide (x.1 < rid) && decide (x.2.wave = r.wave) && (x.2.after &&& r.after != 0) &&
      (d.unreturned x.2 || (r.kind.scoped && x.2.accs.any fun b => !(if b.dev then b.reached else b.served)))) ||
    (r.kind.scoped && d.ops.any fun x =>
      decide (x.1 < rid) && decide (x.2.wave = r.wave) && (x.2.after &&& r.after != 0) && owesFar d x.2)

/-- Whether an access waits for requests that precede it in program order. -/
def Device.behindEarlier (d : Device) (rid : Nat) (r : Req) (a : Access) : Bool :=
  d.scopeWaits rid r || d.reqs.any fun x =>
    decide (x.1 < rid) && decide (x.2.wave = r.wave) && (x.2.after &&& r.after != 0) && x.2.accs.any (keepsBack d a x.2)

/-! ## Loads (10 R259; 11 R283) -/

/-- Gives an access its data and time; `lease` is that of the L1 copy it was served from. -/
def Access.done (a : Access) (data : List Byte) (t : Word64) (lease : Option Word64) : Access :=
  { a with served := true, parked := false, data := data, time := t, lease := lease }

/-- An access is timed at a line and waits there. -/
def Access.waits (a : Access) (t : Word64) : Access := { a with parked := true, time := t }

/-- Bytes of a copy of a line at some keys. -/
def copyBytes (data : List Byte) (keys : List Nat) : List Byte := keys.map fun k => data.getD (k % 128) 0

/-- A copy that holds what the line holds now. -/
def Device.copyOf (d : Device) (line : Nat) (lease wts : Word64) : L1Line := ⟨line, lease, wts, d.lineBytes line, d.clk.ns⟩

/-- A copy of a line that its owner has returned replaces those of this device (10 R259). -/
def Device.farFill (d : Device) (core line policy : Nat) (ca : Bool) : Device :=
  let d := if decide (policy ≠ 2) || d.inL2 line then d.fillL2 line ca false (some ⟨d.lineBytes line, d.pulse, d.clk.ns⟩) else d
  if decide (policy = 0) || (d.l1Find core line).isSome then d.l1Put core (d.copyOf line (BitVec.ofNat 64 d.pulse) 0) else d

/-- Timebase of the last acquire of the parts of a request. -/
def Device.acquireOf (d : Device) (r : Req) : Nat :=
  match d.liveWave r.wave r.gen with
  | some w => (w.parts.filter fun p => p.quads &&& r.quads != 0).foldl (fun n p => max n p.acquired) 0
  | none => 0

/-- The bytes of a copy in L1 or L2 that a load of span or system memory may use: its lease runs, and it is younger than the last acquire. -/
def Device.farHit (d : Device) (core line acq : Nat) : Option (List Byte × Device) :=
  match d.l1Find core line with
  | some c => if decide (c.lease.toNat = d.pulse) && decide (acq < c.filled) then some (c.data, d.l1Put core c) else second
  | none => second
where
  /-- The copy in L2. -/
  second : Option (List Byte × Device) :=
    match (d.l2Find line).bind (·.far) with
    | some c => if decide (c.tick = d.pulse) && decide (acq < c.filled) then some (c.data, d.touchL2 line 2 false false) else none
    | none => none

/-- A load at a line of this device: from an L1 copy under a lease, or at the home slice, where it waits while a bank product holds the line. Gives
the access, and the line's write time when it is served. -/
def Device.homeLoad (d : Device) (rid i core : Nat) (a : Access) (t : Word64) : Access × Option Word64 × Device :=
  match d.l1Find core a.line with
  | some c => if tle d.pulse t c.lease then (a.done (copyBytes c.data a.keys) (tmax d.pulse t c.wts) (some c.lease), some c.wts, d.l1Put core c) else home
  | none => home
where
  /-- At the home slice. -/
  home : Access × Option Word64 × Device :=
    let r := d.loadAt a.line a.page t
    if d.lineHeld a.line then (a.waits r.1, none, r.2.2.park a.line (.access rid i))
    else
      let w := (r.2.2.lineTime a.line).wts
      let d2 := match r.2.1 with
        | some l => if decide (a.page.1 = 0) || (r.2.2.l1Find core a.line).isSome then r.2.2.l1Put core (r.2.2.copyOf a.line l w) else r.2.2
        | none => r.2.2
      (a.done (d.bytes a.keys) r.1 none, some w, d2)

/-- A load of span or system memory: from a copy, or at the owner. One that reaches this device's own memory is timed at the home slice, where
it may wait (11 R278). -/
def Device.farLoad (d : Device) (rid i core acq : Nat) (a : Access) (t : Word64) : Access × Option Word64 × Device :=
  match d.farHit core a.line acq with
  | some c => (a.done (copyBytes c.1 a.keys) t none, some 0, c.2)
  | none =>
    if d.ownKey (a.line * 128) then
      let r := d.loadAt a.line (1, true) t
      if d.lineHeld a.line then (a.waits r.1, none, r.2.2.park a.line (.access rid i))
      else (a.done (d.bytes a.keys) r.1 none, some 0, r.2.2.farFill core a.line a.policy a.ca)
    else (a.done (d.bytes a.keys) t none, some 0, d.farFill core a.line a.policy a.ca)

/-- A load that can be served reaches its line. -/
def Device.serveLoad (d : Device) (rid i : Nat) (r : Req) (a : Access) : Access × Option Word64 × Device :=
  let t := d.fromTime r.wave r.quads
  if a.dev then d.homeLoad rid i (d.coreOf r.wave) a t else d.farLoad rid i (d.coreOf r.wave) (d.acquireOf r) a t

/-! ## Stores and atomics (10 R259, R268; 11 R284) -/

/-- The word an atomic writes and the bytes it returns. -/
def atomBytes (k : ReqKind) (a : Access) (old : Nat) : List Byte :=
  match k with
  | .atom op size b c _ _ =>
    let w := if size = 1 then 64 else 32
    leBytes (w / 8) (atomNew op w old (b.toNat % 2 ^ w) (c.toNat % 2 ^ w))
  | .vatom op _ => leBytes 4 (atomNew op 32 old (leNat a.data) (leNat a.data2))
  | _ => a.data

/-- A store or an atomic that can be served reaches its line: it is timed there. While a bank product holds the line, the bytes of a store and
an atomic as a whole wait. -/
def Device.serveStore (d : Device) (rid i : Nat) (r : Req) (a : Access) : Access × Device :=
  let core := d.coreOf r.wave
  let t := d.fromTime r.wave r.quads
  let old := d.bytes a.keys
  let new := atomBytes r.kind a (leNat old)
  if r.kind != .store && d.lineHeld a.line then
    let d := if a.dev then d else (d.dropL2 a.line).l1Drop core a.line
    let s := d.timeAt a.line a.page t
    (a.waits s.1, s.2.park a.line (.access rid i))
  else
    let s := if a.dev then d.storeAt a.line a.page t a.keys new else d.farStore (some core) a.line t a.keys new
    (a.done (if r.kind = .store then a.data else old) s.1 none, s.2)

/-! ## Service -/

/-- The spin bookkeeping of a load of one line, committed as number `id`, whose last access has been served: a hit on the spin line counts unless
something that committed later has set the count to zero (09 R236). -/
def spinNote (id : Nat) (quiet : Bool) (line : Nat) (wts : Word64) (p : Part) : Part :=
  if quiet && p.spinLine == some line && p.spinWts == wts then (if id < p.spinFrom then p else { p with spin := p.spin + 1 })
  else { p with spin := if id < p.spinFrom then p.spin else 0, spinFrom := max p.spinFrom id, spinLine := some line, spinWts := wts }

/-- A load that sees a new write time of the spin line ends a demotion (09 R236). -/
def spinSees (line : Nat) (wts : Word64) (p : Part) : Part :=
  if p.spinLine = some line && p.spinWts != wts then { p with demoted := 0 } else p

/-- A load of several lines, one of them the spin line, has seen its write time (09 R236; log entry 94). -/
def spinSaw (line : Nat) (wts : Word64) (p : Part) : Part := if p.spinLine = some line then { p with spinWts := wts } else p

/-- An access of a load has reached its line: its part's time rises, and the spin bookkeeping follows once the line's write time is known. -/
def Device.noteLoad (d : Device) (rid i : Nat) (a : Access) (w : Option Word64) : Device :=
  match d.reqs.get? rid with
  | none => d
  | some r =>
    let r := { r with accs := r.accs.set i { a with port := none }, ready := d.clk.cycle }
    let one := r.accs.all fun b => decide (b.line = a.line)
    let quiet := r.accs.all fun b => b.lease.isSome
    let d := (({ d with reqs := d.reqs.set rid r } : Device).transientOn a.port).mapParts r.wave r.after fun p =>
      { p with pts := tmax d.pulse p.pts a.time }
    match w with
    | some w => d.mapParts r.wave r.quads fun p =>
      let p := spinSees a.line w p
      if !one then spinSaw a.line w p else if r.served then spinNote rid quiet a.line w p else p
    | none => d

/-- An access of a store or an atomic has reached its line: the part owes its time until that returns. -/
def Device.noteStore (d : Device) (rid i : Nat) (a : Access) : Device :=
  match d.reqs.get? rid with
  | none => d
  | some r =>
    let d := { d with reqs := d.reqs.set rid { r with accs := r.accs.set i { a with port := none }, ready := d.clk.cycle } }
    let d := d.transientOn a.port
    if d.isHome a.line then d.mapParts r.wave r.after fun p => { p with owed := tmax d.pulse p.owed a.time } else d

/-- The first access of a request that has not reached its line and can does so; none when it must wait. -/
def Device.serve1 (d : Device) (rid : Nat) : Option Device :=
  match d.reqs.get? rid with
  | none => none
  | some r =>
    match d.next? r with
    | none => none
    | some (i, a) =>
      if d.behindEarlier rid r a then none
      else if r.kind.isLoad then
        let x := d.serveLoad rid i r a
        some (x.2.2.noteLoad rid i x.1 x.2.1)
      else
        let x := d.serveStore rid i r a
        some (x.2.noteStore rid i x.1)

/-! ## The release of a held line (10 R268, 11 R284) -/

/-- A load or an atomic that waited at a line is served at the time it was given; where the data of the line is lost by now, it has still to
be served. A load that has waited leaves no copy in L1, which 11 R283 leaves open. -/
def Device.unwait (d : Device) (rid i : Nat) : Device :=
  match d.reqs.get? rid with
  | none => d
  | some r =>
    match r.accs[i]? with
    | none => d
    | some a =>
      if a.served || !a.parked then d
      else if (d.lostTo r a).isSome then { d with reqs := d.reqs.set rid { r with accs := r.accs.set i { a with parked := false } } }
      else
        let old := d.bytes a.keys
        let a' := a.done old a.time none
        if r.kind.isLoad then
          let w := (d.lineTime (d.viaLine a.line)).wts
          let d1 := d.touchL2 (d.viaLine a.line) a.page.1 a.page.2 false
          (if a.dev then d1 else d1.farFill (d.coreOf r.wave) a.line a.policy a.ca).noteLoad rid i a' (some (if a.dev then w else 0))
        else (d.writeAt a.line a.page a.keys (atomBytes r.kind a (leNat old))).noteStore rid i a'

/-- One more group of a unit is complete (10 R269). -/
def Device.unitDone (d : Device) (unit : Option Nat) : Device :=
  match unit with
  | none => d
  | some k =>
    let u := d.banks.getD k BankUnit.reset
    { d with banks := d.banks.set k { u with completed := u.completed + 1 } }

/-- What waited at a line is done, in the order of arrival; what stands at a line that another product holds waits there. -/
def Device.unpark (d : Device) (x : Parked) : Device :=
  let line := d.parkedKey x / 128
  if d.lineHeld line then d.park line x
  else
    match x with
    | .bytes kb pol ca => d.writeAt line (pol, ca) (kb.map (·.1)) (kb.map (·.2))
    | .status k b u pol ca => (d.writeAt line (pol, ca) [k] [b]).unitDone u
    | .access rid i => d.unwait rid i

/-! ## Draining (11 R272, R274) -/

/-- Whether every access of a wave has been served. -/
def Device.drained (d : Device) (w : Nat) : Bool := d.reqs.all fun x => decide (x.2.wave ≠ w) || x.2.served

/-- Whether a request has yet to do something before a scratchpad access of its part is timed: an access of device memory has not been timed,
or an atomic of scope span or system has not returned. One whose data or owner is gone keeps nothing waiting. -/
def Device.holdsSpad (d : Device) (r : Req) : Bool :=
  (r.accs.any fun a => a.dev && !a.reached && (d.lostTo r a).isNone) || d.unreturned r

/-- Whether a store or an atomic is performed: its accesses of device memory are timed, the rest served (06 R167, 11 R278). -/
def Req.done (r : Req) : Bool := r.accs.all fun a => if a.dev then a.reached else a.served

/-- Whether a request is a store or an atomic, which is performed. -/
def Req.performs (r : Req) : Bool :=
  match r.kind with
  | .store => true
  | .atom _ _ _ _ _ _ => true
  | .vatom _ _ => true
  | _ => false

/-- Whether a request has yet to do something before a child of its part is created, which observes its stores (04 R127). -/
def Device.holdsChild (d : Device) (r : Req) : Bool :=
  (r.performs && r.accs.any fun a => !(if a.dev then a.reached else a.served) && (d.lostTo r a).isNone) || d.unreturned r

/-- The requests in whose program order a part of some quads of a wave stands (11 R272). -/
def Device.earlier (d : Device) (w : Nat) (q : BitVec 16) : List (Nat × Req) :=
  d.reqs.filter fun x => decide (x.2.wave = w) && (x.2.after &&& q != 0)

/-- Requests that a scratchpad access of some quads of a wave waits for. -/
def Device.beforeSpad (d : Device) (w : Nat) (q : BitVec 16) : List (Nat × Req) := (d.earlier w q).filter fun x => d.holdsSpad x.2

/-- Whether a device store or atomic of the running clause, whose operations are numbered from `first` on, would have to wait for a scoped atomic or
as one, so that it could not be delivered within its 60 ns (06 R165, 11 R284). -/
def Device.lags (d : Device) (w : Nat) (q : BitVec 16) (first : Nat) : Bool :=
  (d.earlier w q).any fun x => decide (first ≤ x.1) && x.2.performs &&
    (x.2.accs.any fun a => a.dev && !a.reached && (d.lostTo x.2 a).isNone) && d.scopeWaits x.1 x.2

/-- Requests that a LAUNCH of some quads of a wave waits for. -/
def Device.beforeChild (d : Device) (w : Nat) (q : BitVec 16) : List (Nat × Req) := (d.earlier w q).filter fun x => d.holdsChild x.2

/-- A scoped atomic has returned to its part: what follows may leave, and it is an acquire (06 R165, 10 R259). -/
def Device.comesBack (d : Device) (rid : Nat) : Device :=
  match d.reqs.get? rid with
  | some r =>
    if r.kind.scoped && !r.back then
      ({ d with reqs := d.reqs.set rid { r with back := true } }).mapParts r.wave r.after fun q => { q with acquired := d.clk.ns }
    else d
  | none => d

/-- A scoped atomic of the running pass has returned, as far as what follows it in the clause goes, once it is served (06 R165; log entry 79). -/
def Device.backOwn (d : Device) (first rid : Nat) : Device :=
  match d.reqs.get? rid with
  | some r => if decide (first ≤ rid) && r.served then d.comesBack rid else d
  | none => d

/-- The first pending access in whose program order a part of some quads of a wave stands that can be served, oldest request first. -/
def Device.serveNext (d : Device) (w : Nat) (q : BitVec 16) (first : Nat) : Option Device :=
  (d.earlier w q).findSome? fun x => (d.serve1 x.1).map fun d' => d'.backOwn first x.1

end Sys2Proof.Machine
end

