-- ==== Sys2Proof/Machine/Operands.lean ====
section
/-! DEFINITION. Operand forms: rounding fields, immediates, cross-lane sources, packed elements (02 R50, R55; 03 R85; 05 R145). -/

namespace Sys2Proof.Machine

/-- The T bit. -/
def isT (t : BitVec 1) : Bool := decide (t = 1)

/-- A signed immediate as a 64-bit word (03 R85). -/
def simm64 {n : Nat} (i : BitVec n) : Word64 := i.signExtend 64

/-- A signed immediate as a 32-bit word. -/
def simm32 {n : Nat} (i : BitVec n) : Word32 := i.signExtend 32

namespace Spec

/-- `dyn(rnd)`: MODE.rnd when the field is 0 (02 R55, R74). -/
def dyn (p : Spec) (r : Nat) : Nat := if r = 0 then bits p.prt.mode 2 0 else r

/-- MODE.FTZ (01 R19). -/
def ftz (p : Spec) : Bool := bit p.prt.mode 3

/-- The value of an F32 register, read through `ftz` (02 R59, R75). -/
def f32v (p : Spec) (r lane : Nat) : Num := f32 p.ftz (p.vreg r lane).toNat

/-- The value of an F32 register as it stands. -/
def raw32 (p : Spec) (r lane : Nat) : Num := val .f32 (p.vreg r lane).toNat

/-- Launch width of the wave in lanes (05 R146). -/
def lanesW (p : Spec) : Nat := p.wav.lanes

/-- What a cross-lane instruction reads from lane k: 0 when k lies outside the launch width or the part (05 R145). -/
def xlane (p : Spec) (r k : Nat) : Word32 :=
  if decide (k < p.lanesW) && bit p.prt.quads (k / 4) then p.vreg r k else 0

end Spec

/-- Element `i` of width `n` of a packed register (02 R50). -/
def elem (n i : Nat) (x : Word32) : Nat := x.toNat / 2 ^ (n * i) % 2 ^ n

/-- Two 16-bit results packed into one register (02 R50). -/
def pack16 (a b : Nat) : Word32 := BitVec.ofNat 32 (a % 2 ^ 16 + b % 2 ^ 16 * 2 ^ 16)

end Sys2Proof.Machine
end

