-- ==== Sys2Proof/Machine/MemGlobal.lean ====
section
/-! DEFINITION. Global loads, stores, atomics and prefetch: every access is translated and checked before commit and leaves as a
request in program order (06 R153 to R159, R164 to R166, R176; 12 R296, R302, R303). -/

namespace Sys2Proof.Machine

/-- One lane's access as an instruction makes it: lane (64 for a scalar one), address, bytes, data, second operand. -/
structure LaneAcc where
  /-- Lane, or 64. -/
  lane : Nat
  /-- Virtual address. -/
  va : Word64
  /-- Bytes. -/
  n : Nat
  /-- Data of a store, or operand of an atomic. -/
  data : List Byte
  /-- Swap value of a CAS. -/
  data2 : List Byte
  deriving DecidableEq, Repr

/-- What the checks of an instruction's accesses give (12 R302). -/
structure Checked where
  /-- The device, its TLBs having been used. -/
  dev : Device
  /-- Failing accesses. -/
  bad : List (LaneAcc × AccFault)
  /-- The accesses, for those that passed. -/
  accs : List Access
  /-- Some access waits for a walk. -/
  waits : Bool
  deriving DecidableEq, Repr

/-- An element that is not one single-copy atomic access becomes byte accesses (06 R155, 11 R272). -/
def splitAcc (x : LaneAcc) (l : Bytes) : List Access :=
  let mk (i : Nat) (y : Leaf × Nat) (ks : List Nat) (b : List Byte) : Access :=
    { lane := x.lane, va := x.va + BitVec.ofNat 64 i, keys := ks, kind := y.1.kind, policy := y.1.policy, ca := y.1.ca, data := b, data2 := x.data2,
      served := false, time := 0, lease := none, parked := false, retried := false, port := none, sent := none }
  if decide (x.n ≤ 8) && decide (x.va.toNat % x.n = 0) then (l.head?.map fun y => mk 0 y l.keys x.data).toList
  else l.mapIdx fun i y => mk i y [y.2] ((x.data.drop i).take 1)

/-- Translates and checks every access, lane by lane (06 R153). -/
def checkAccs (who : Asker) (core : Nat) (sp : Nat × Nat) (a : Acc) : List LaneAcc → Checked → Checked
  | [], c => c
  | x :: l, c =>
    let mis := a.isAtomic && decide (x.va.toNat % x.n ≠ 0)
    match element c.dev who core sp a mis x.va x.n with
    | (.error .wait, d) => checkAccs who core sp a l { c with dev := d, waits := true }
    | (.error f, d) => checkAccs who core sp a l { c with dev := d, bad := c.bad ++ [(x, f)] }
    | (.ok r, d) => checkAccs who core sp a l { c with dev := d, accs := c.accs ++ splitAcc x r }

/-- The lane mask of some accesses; a scalar access has no lane (12 R301). -/
def accLanes (l : List LaneAcc) : Word64 := maskOf 64 ((l.map (·.lane)).filter (· < 64))

/-- Whether watchpoint `w` of some registers is set for a space and a kind of access and covers a byte of an access, in the 57 bits of a virtual
address (06 R153; 14 R335, R339). -/
def watchHits (regs : SMap 64) (space : Nat) (kindBit w : Nat) (x : LaneAcc) : Bool :=
  let at' := regs.get (0x2200 + 32 * w)
  let base := at'.toNat % 2 ^ 57
  let len := bits (regs.get (0x2208 + 32 * w)) 47 0
  let ctl := regs.get (0x2210 + 32 * w)
  let inside (i : Nat) : Bool :=
    let va := (x.va + BitVec.ofNat 64 i).toNat % 2 ^ 57
    decide (base ≤ va) && decide (va < base + len)
  bit ctl 15 && decide (bits ctl 11 8 = space) && bit ctl kindBit && canonical at' && (List.range x.n).any inside

/-- The lowest watchpoint that some access matches, with the matching accesses. -/
def watchOf (regs : SMap 64) (space kindBit : Nat) (l : List LaneAcc) : Option (Nat × List LaneAcc) :=
  ((List.range 8).map fun w => (w, l.filter fun x => watchHits regs space kindBit w x)).find? fun r => !r.2.isEmpty

/-- The watchpoint registers of a function. -/
def HostFn.watches (f : HostFn) : SMap 64 := f.regs.keep fun o => decide (0x2200 ≤ o) && decide (o < 0x2300)

/-- The watchpoint registers that a pass is checked against: as they stood when the checks of its clause began (14 R335). -/
def Spec.watches (p : Spec) : SMap 64 := p.prt.watch.getD (p.dev.fn p.space.1).watches

/-- Translation faults among the failing accesses. -/
def trFaults (l : List (LaneAcc × AccFault)) : List (LaneAcc × Nat × Nat) :=
  l.filterMap fun x => match x.2 with | .tr s lv => some (x.1, s, lv) | _ => none

/-- Permission faults among the failing accesses. -/
def pmFaults (l : List (LaneAcc × AccFault)) : List (LaneAcc × Nat) :=
  l.filterMap fun x => match x.2 with | .pm s => some (x.1, s) | _ => none

/-- The trap that an instruction's accesses raise, in the order of 12 R302: translation, permission, watchpoint. -/
def accTrap (p : Spec) (kindBit : Nat) (l : List LaneAcc) (c : Checked) : Option TrapInfo :=
  match trFaults c.bad with
  | (x, s, lv) :: r => some (trapOf 3 s lv (accLanes (x :: r.map (·.1))) x.va)
  | [] =>
    match pmFaults c.bad with
    | (x, s) :: r => some (trapOf 4 s 0 (accLanes (x :: r.map (·.1))) x.va)
    | [] =>
      match watchOf p.watches p.space.2 kindBit l with
      | some (w, x :: r) => some (trapOf 8 w 0 (accLanes (x :: r)) x.va)
      | _ => none

/-- The trap of an instruction or a fetch that cannot be given a line it reads before it commits: the subcode of an access that fails after its
commit (12 R301, R304; log entry 80). -/
def goneTrap (cause : Nat) (lanes addr : Word64) : TrapInfo := trapOf 13 (if cause = 3 then 1 else if cause = 4 then 2 else 3) 0 lanes addr

/-- Bit of WPCTL that enables a kind of access (14 R335). -/
def watchBit : Acc → Nat
  | .store => 1
  | .atomic => 2
  | .atomicV => 2
  | _ => 0

/-- Cycle from which a request may be served: within 60 ns of commit (11 R284); the delay itself is open (log entry 1). -/
def arrival (d : Device) : Nat := d.clk.cycle + Config.latency d.nextId % (60 * d.clk.mhz / 1000 + 1)

/-- Whether a request is delivered: its delay is over, or the 60 ns of its delivery would be over by the next cycle, the clock having slowed down
since (11 R284). -/
def Device.delivers (d : Device) (r : Req) : Bool :=
  decide (r.ready ≤ d.clk.cycle) || decide (r.due < d.clk.ns + (1000 / max 1 d.clk.mhz + 1))

/-- A committed request leaves; `pend` are the quads whose flag it raised (01 R36, R40). -/
def Spec.addReq (p : Spec) (kind : ReqKind) (pend : BitVec 16) (sel : Option Bool) (accs : List Access) : Spec :=
  let r : Req := { wave := p.wid, gen := p.wav.gen, quads := p.prt.quads, after := p.prt.quads, pending := pend, flag := sel.map p.flagField,
                   kind := kind, accs := accs, ready := arrival p.dev, due := p.dev.clk.ns + 60, pos := p.prt.pc, timed := false, back := false }
  let p := { p with dev := { p.dev with reqs := p.dev.reqs.set p.dev.nextId r, nextId := p.dev.nextId + 1 } }
  match sel with
  | some b => p.raise b pend
  | none => p

/-- A committed store, atomic, copy or barrier instruction ends a spin (09 R236). -/
def Spec.endSpin (p : Spec) (wakes : Bool) : Spec :=
  { p with prt := { p.prt with spin := 0, spinFrom := p.dev.nextId, demoted := if wakes then 0 else p.prt.demoted } }

/-- The part of a pass, as one that asks for translations. -/
def Spec.asker (p : Spec) : Asker := .part p.wid p.prt.quads p.prt.walked

/-- Checks the accesses of an instruction: the clause is held while one of them waits for a walk; when they pass, it goes on with them. -/
def Spec.access (p : Spec) (a : Acc) (l : List LaneAcc) (k : Spec → List Access → Spec) : Res :=
  let c := checkAccs p.asker p.wav.core p.space a l ⟨p.dev, [], [], false⟩
  if c.waits then .ok ({ p with dev := c.dev }.holdFor .walk)
  else
    match accTrap p (watchBit a) l c with
    | some t => .error t
    | none => .ok (k { p with dev := c.dev } c.accs)

/-- Registers of a size code in a vector file. -/
def vregsOf (size : Nat) : Nat := if size = 5 then 2 else if size = 6 then 4 else 1

/-- The addresses of VLD and VST (06 R158). -/
def vmAddr (p : Spec) (stride size base l : Nat) : Word64 :=
  let st : Word64 := if stride = 0 then BitVec.ofNat 64 (sizeBytes size) else p.sreg stride
  p.sreg base + BitVec.ofNat 64 l * st

/-- VLD (06 R158). -/
def opVld (stride size base d : Nat) (f : Bool) (p : Spec) : Res :=
  if p.act.isEmpty then .ok p
  else
    p.access .load (p.act.map fun l => ⟨l, vmAddr p stride size base l, sizeBytes size, [], []⟩) fun p' accs =>
      (p'.longDst true d (vregsOf size)).addReq (.vload d size) p.actQuads (some f) accs

/-- VST (06 R158). -/
def opVst (stride size base s : Nat) (p : Spec) : Res :=
  if p.act.isEmpty then .ok p
  else
    let data (l : Nat) : List Byte := leBytes (sizeBytes size) (p.vwide s l (vregsOf size))
    p.access .store (p.act.map fun l => ⟨l, vmAddr p stride size base l, sizeBytes size, data l, []⟩) fun p' accs =>
      (p'.addReq .store 0 none accs).endSpin true

/-- Address of SLD and SST (06 R159). -/
def slAddr (p : Spec) (imm size a : Nat) : Word64 := p.sreg a + BitVec.ofNat 64 (imm * sizeBytes size)

/-- SLD: issued once for the part, flag A (06 R157, R159). -/
def opSld (imm size a d : Nat) (p : Spec) : Res :=
  p.access .load [⟨64, slAddr p imm size a, sizeBytes size, [], []⟩] fun p' accs =>
    (p'.longDst false d (if size = 6 then 2 else 1)).addReq (.sload d size) p.prt.quads (some false) accs

/-- SST (06 R159). -/
def opSst (imm size a d : Nat) (p : Spec) : Res :=
  let v := (p.sreg d).toNat + (if size = 6 then (p.sreg (d + 1)).toNat * 2 ^ 64 else 0)
  p.access .store [⟨64, slAddr p imm size a, sizeBytes size, leBytes (sizeBytes size) v, []⟩] fun p' accs =>
    (p'.addReq .store 0 none accs).endSpin true

/-- ATOMG (06 R164, R165). -/
def opAtomg (scope size op b a d : Nat) (f : Bool) (p : Spec) : Res :=
  p.access .atomic [⟨64, p.sreg a, if size = 1 then 8 else 4, [], []⟩] fun p' accs =>
    ((p'.longDst false d 1).addReq
      (.atom op size (p.sreg b) (if op = 6 then p.sreg (b + 1) else 0) d scope) p.prt.quads (some f) accs).endSpin true

/-- ATOMGV (06 R166). -/
def opAtomgv (b op base d : Nat) (f : Bool) (p : Spec) : Res :=
  if p.act.isEmpty then .ok p
  else
    let w (r l : Nat) : List Byte := leBytes 4 (p.vreg r l).toNat
    p.access .atomicV
      (p.act.map fun l => ⟨l, p.sreg base + BitVec.ofNat 64 (4 * l), 4, w b l, if op = 6 then w (b + 1) l else []⟩) fun p' accs =>
      ((p'.longDst true d 1).addReq (.vatom op d) p.actQuads (some f) accs).endSpin true

/-- Brings a line into the caches, as its policy permits (06 R176, 10 R252). A line that the owner does not give is skipped. -/
def prefLine (l1 : Bool) (core : Nat) (c : Word64) (d : Device) (lf : Leaf) (line : Nat) : Device :=
  if lf.kind = 3 || decide (lf.policy = 2) || (d.gone true line).isSome || d.lineHeld line then d
  else
    let l1 := l1 && decide (lf.policy = 0)
    if devLine line then
      if l1 then
        let r := d.loadAt line (lf.policy, lf.ca) c
        match r.2.1 with
        | some e => r.2.2.l1Put core (r.2.2.copyOf line e (r.2.2.lineTime line).wts)
        | none => r.2.2
      else d.touchL2 line lf.policy lf.ca false
    else
      let d := if d.ownKey (line * 128) then (d.readAt line (1, true) c).2 else d
      d.farFill core line (if l1 then 0 else 1) lf.ca

/-- One line of a prefetch: it is walked for at once, since a prefetch waits for nothing; a line that does not translate, or whose walk would
have to wait, is skipped (06 R176; log entry 77). -/
def prefAt (l1 : Bool) (core : Nat) (sp : Nat × Nat) (c : Word64) (d : Device) (va : Word64) : Device :=
  match translate d .unit core sp va with
  | (.error _, d) => d
  | (.ok lf, d) => prefLine l1 core c d lf (lf.key va / 128)

/-- PREF: its lines are asked for when its clause commits, so that one of a clause that does not leaves nothing (01 R28, 06 R176). -/
def opPref (l1 : Bool) (n a : Nat) (p : Spec) : Res :=
  .ok { p with prefs := p.prefs ++ [⟨l1, (p.sreg a).toNat / 128 * 128, n + 1, p.prt.pts⟩] }

/-- The lines of a prefetch are asked for. -/
def Device.prefetch (core : Nat) (sp : Nat × Nat) (d : Device) (x : Prefetch) : Device :=
  (List.range x.count).foldl (fun d i => prefAt x.l1 core sp x.c d (BitVec.ofNat 64 (x.base + 128 * i))) d

/-! ## Meanings -/

/-- VLD (R158). -/
def execVld (fn : BitVec 1) (fk : BitVec 5) (fz : BitVec 3) (fb : BitVec 6) (fd : BitVec 7) (ff : BitVec 1) (s : State) : Out :=
  issue (.vld fn fk fz fb fd ff) s (opVld fk.toNat fz.toNat fb.toNat fd.toNat (decide (ff = 1)))

/-- VST (R158). -/
def execVst (fn : BitVec 1) (fk : BitVec 5) (fz : BitVec 3) (fb : BitVec 6) (fs : BitVec 7) (s : State) : Out :=
  issue (.vst fn fk fz fb fs) s (opVst fk.toNat fz.toNat fb.toNat fs.toNat)

/-- SLD (R159). -/
def execSld (fi : BitVec 10) (fz : BitVec 3) (fa : BitVec 6) (fd : BitVec 6) (s : State) : Out :=
  issue (.sld fi fz fa fd) s (opSld fi.toNat fz.toNat fa.toNat fd.toNat)

/-- SST (R159). -/
def execSst (fi : BitVec 10) (fz : BitVec 3) (fa : BitVec 6) (fd : BitVec 6) (s : State) : Out :=
  issue (.sst fi fz fa fd) s (opSst fi.toNat fz.toNat fa.toNat fd.toNat)

/-- ATOMG (R164). -/
def execAtomg (fc : BitVec 2) (fz : BitVec 1) (fo : BitVec 3) (fb : BitVec 6) (fa : BitVec 6) (fd : BitVec 6) (ff : BitVec 1) (s : State) : Out :=
  issue (.atomg fc fz fo fb fa fd ff) s (opAtomg fc.toNat fz.toNat fo.toNat fb.toNat fa.toNat fd.toNat (decide (ff = 1)))

/-- ATOMGV (R166). -/
def execAtomgv (fb : BitVec 7) (fo : BitVec 3) (fk : BitVec 6) (fd : BitVec 7) (ff : BitVec 1) (s : State) : Out :=
  issue (.atomgv fb fo fk fd ff) s (opAtomgv fb.toNat fo.toNat fk.toNat fd.toNat (decide (ff = 1)))

/-- PREF (R176). -/
def execPref (fl : BitVec 1) (fn : BitVec 8) (fa : BitVec 6) (s : State) : Out :=
  issue (.pref fl fn fa) s (opPref (decide (fl = 1)) fn.toNat fa.toNat)

end Sys2Proof.Machine
end

