-- ==== Sys2Proof/Machine/Scratch.lean ====
section
/-! DEFINITION. The scratchpad: ranges, stalls of the range scoreboard, reads and writes with SPDOOB, and chart
discards (01 R25; 06 R160; 07 R193, R207; 10 R256, R257). -/

namespace Sys2Proof.Machine

/-! ## Ranges and stalls (10 R257) -/

/-- Granules of a byte range, rounded outward. -/
def granules (lo n : Nat) : Nat × Nat := (lo / 32, (lo + n + 31) / 32)

/-- Whether two ranges of granules overlap. -/
def overlap (a b : Nat × Nat) : Bool := decide (a.1 < b.2) && decide (b.1 < a.2)

/-- K of an MMA type (07 R185). -/
def kOf (ty : Nat) : Nat := if ty < 2 then 32 else if ty < 5 then 64 else 128

/-- Columns of a shape (07 R186). -/
def nOf (shape : Nat) : Nat :=
  match shape with
  | 0 => 64 | 1 => 128 | 2 => 128 | 3 => 256 | 4 => 256 | 5 => 128 | 6 => 256 | _ => 512

/-- Columns that one core computes (07 R186). -/
def ntOf (c : Bool) (shape : Nat) : Nat := if c then nOf shape / 2 else nOf shape

/-- Elements of a block (01 R23, 02 R67): 32 when the record has no block length. -/
def kbOf (blen : Nat) : Nat := if blen = 0 then 32 else 8 * 2 ^ blen

/-- Byte ranges of the allotment that an MMA reads: B, with the bitmap in front of a sparse one, and the scales (07 R193). -/
def mmaReads (c : Bool) (shape : Nat) (r : OBRec) : List (Nat × Nat) :=
  let nt := ntOf c shape
  (r.base, r.size) :: (if r.blen = 0 then [] else [(r.soff, nt * (kOf r.fmt / kbOf r.blen))])

/-- The group that a course MMA of a group names as partner, from the launch's set table (07 R202, 09 R239). -/
def partnerIndex (sets : List (Word64 × Word64)) (g : Nat) : Option Nat :=
  let rows := sets.filter fun r => decide (bits r.1 9 8 = 1) && decide (bits r.1 63 32 ≤ g) &&
    decide (g < bits r.1 63 32 + bits r.1 31 16)
  rows.head?.map fun r =>
    let i := g - bits r.1 63 32
    bits r.1 63 32 + (if i % 2 = 0 then i + 1 else i - 1)

/-- Key of the group with an index within a launch. -/
def Device.groupKey (d : Device) (launch index : Nat) : Option Nat :=
  (d.groups.find? fun g => decide (g.2.launch = launch) && decide (g.2.index = index)).map (·.1)

/-- The partner group of a group, if it is resident or saved. -/
def Device.partner (d : Device) (g : Nat) : Option Nat :=
  match d.groups.get? g with
  | none => none
  | some x =>
    match d.launches.get? x.launch with
    | none => none
    | some l => (partnerIndex l.sets x.index).bind (d.groupKey x.launch)

/-- Granules that an MMA of a queue holds: with its own record, or with its course partner's (07 R193, R203). -/
def MQEntry.holds (e : MQEntry) (mate : Bool) : List (Nat × Nat) :=
  match e.work with
  | .mma _ c _ _ _ sh r m _ =>
    match mate, m with
    | false, _ => (mmaReads c sh r).map fun x => granules x.1 x.2
    | true, some x => if e.dispatched then (mmaReads c sh x.1).map fun x => granules x.1 x.2 else []
    | true, none => []
  | _ => []

/-- Granules of the writes that wait for an MMA of a group's queue to read. Only entries older than `before` count (07 R193). -/
def Device.laterRanges (d : Device) (g before : Nat) : List (Nat × Nat) :=
  match d.groups.get? g with
  | some x => (x.mq.filter fun e => decide (e.id < before)).flatMap fun e => e.later.map fun y => granules y.1 1
  | none => []

/-- MMA read ranges of a group, in granules: its own queue's, with what waits for them to be read, and those of a course MMA dispatched to it (07
R193, R203). Only entries older than `before` count. -/
def Device.mmaRanges (d : Device) (g before : Nat) : List (Nat × Nat) :=
  let q (k : Option Nat) (mate : Bool) : List (Nat × Nat) :=
    match k.bind d.groups.get? with
    | some x => (x.mq.filter fun e => decide (e.id < before)).flatMap fun e => e.holds mate
    | none => []
  q (some g) false ++ d.laterRanges g before ++ q (d.partner g) true

/-- Live ranges of a group on the scoreboards of the cores it has stood on, older than `before`; write ranges alone, or all. -/
def Device.liveRanges (d : Device) (g before : Nat) (writesOnly : Bool) : List (Nat × Nat) :=
  (d.cores.flatMap fun c => c.2.board.filter fun r => decide (r.group = g) && decide (r.op < before) && (r.write || !writesOnly)).map
    fun r => (r.lo, r.hi)

/-- Whether an access to some byte ranges stalls: a read on live write ranges, a write on every live range and on MMA read
ranges (10 R257). -/
def Device.stalls (d : Device) (g before : Nat) (write : Bool) (rs : List (Nat × Nat)) : Bool :=
  let live := d.liveRanges g before (!write) ++ (if write then d.mmaRanges g before else [])
  rs.any fun r => live.any fun x => overlap (granules r.1 r.2) x

/-- Holds the clause when an access of it stalls. -/
def Spec.board (p : Spec) (write : Bool) (rs : List (Nat × Nat)) : Spec :=
  if p.sync.stalls p.gid p.first write rs then p.holdFor (.board write rs) else p

/-! ## SPDOOB and single elements (01 R25, 06 R160) -/

/-- Records the first out-of-range offset (01 R25). -/
def noteOob (g : Group) (off : Nat) : Group :=
  if bit g.spdoob 63 then g else { g with spdoob := BitVec.ofNat 64 (2 ^ 63 + min off 0xFFFFFFFF) }

/-- An element of `n` bytes that lies in the allotment and is naturally aligned. -/
def inSpad (g : Group) (off n : Nat) : Bool := decide (off % n = 0) && decide (off + n ≤ g.size)

/-- The offset that an out-of-range element makes SPDOOB record (01 R25). -/
def oobOffset (g : Group) (off n : Nat) : Nat := if g.size < off + n then max off g.size else off

/-- Bytes of the scratchpad. -/
def spadBytes (g : Group) (off n : Nat) : List Byte := (List.range n).map fun i => g.spad.get (off + i)

/-- Little-endian value at an offset. -/
def spadNat (g : Group) (off n : Nat) : Nat := leNat (spadBytes g off n)

/-- Writes bytes of the scratchpad. -/
def spadPut (g : Group) (off : Nat) (b : List Byte) : Group :=
  { g with spad := g.spad.setAll (b.mapIdx fun i x => (off + i, x)) }

/-- Reads an element: zero when it is out of range, which SPDOOB records. -/
def spadRead (g : Group) (off n : Nat) : List Byte × Group :=
  if inSpad g off n then (spadBytes g off n, g) else (List.replicate n 0, noteOob g (oobOffset g off n))

/-- Writes an element: dropped when it is out of range, which SPDOOB records. -/
def spadWrite (g : Group) (off : Nat) (b : List Byte) : Group :=
  if inSpad g off b.length then spadPut g off b else noteOob g (oobOffset g off b.length)

/-! ## Chart discards (07 R207) -/

/-- Identities of the valid sparse records that a written byte range overlaps. -/
def writtenIdents (g : Group) (lo n : Nat) : List Word64 :=
  (g.recs.filter fun r => r.2.sparse && decide (lo < r.2.base + r.2.size) && decide (r.2.base < lo + n)).map (·.2.ident)

/-- Whether an entry of a matrix queue runs from a chart: with its own record, or with its course partner's. -/
def MQEntry.usesChart (e : MQEntry) (mate : Bool) (k : ChartKey) : Bool :=
  let is (r : OBRec) (sh : Nat) : Bool := decide (r.ident = k.ident) && decide (sh = k.shape) && decide (r.fmt = k.fmt)
  match e.work with
  | .mma _ _ s _ _ sh r m _ =>
    match mate, m with
    | false, _ => s && is r sh
    | true, some x => s && is x.1 sh
    | true, none => false
  | _ => false

/-- The MMAs in the queue of some group of a core, and the course MMA dispatched to it, that use a chart key (07 R206). -/
def Device.usersOf (d : Device) (core : Nat) (k : ChartKey) : List Nat :=
  d.groups.flatMap fun g =>
    (g.2.mq.filter fun e => (decide (g.2.core = some core) && e.usesChart false k) ||
      (decide ((d.core core).slaved = some g.1) && e.usesChart true k)).map (·.id)

/-- Whether an entry of the cache was discarded while an MMA pinned it, which goes on with it (07 R207). -/
def Chart.keptFor (x : Chart) (id : Nat) : Bool :=
  match x.dead with
  | some l => l.contains id
  | none => false

/-- A live entry of the chart cache. -/
def Core.chart? (c : Core) (k : ChartKey) : Option Chart := c.charts.find? fun x => decide (x.key = k) && x.dead.isNone

/-- The entry of the chart cache that an MMA uses: the one that it pinned before a discard, or the live one (07 R205, R207). -/
def Core.chartFor (c : Core) (k : ChartKey) (id : Nat) : Option Chart :=
  match c.charts.find? fun x => decide (x.key = k) && x.keptFor id with
  | some x => some x
  | none => c.chart? k

/-- The MMAs that pin an entry of a core's chart cache (07 R206). -/
def Device.pinners (d : Device) (core : Nat) (x : Chart) : List Nat :=
  (d.usersOf core x.key).filter fun id => decide ((d.core core).chartFor x.key id = some x)

/-- Whether the read of a request's bitmap stalls (07 R205, 10 R257). -/
def Device.bitmapStalls (d : Device) (q : ChartReq) : Bool :=
  d.stalls q.group q.born false [(q.obrec.base, q.nt * kOf q.obrec.fmt / 8)]

/-- Discards the charts of a core keyed to an identity: a pinned one stays usable by those that pinned it; a compile made for
CHARTPF alone ends at once with no entry, be it only about to begin on an idle compiler (07 R207). -/
def Device.discard (d : Device) (core : Nat) (ident : Word64) : Device :=
  let c := d.core core
  let f (x : Chart) : Option Chart :=
    if x.key.ident ≠ ident || x.dead.isSome then some x
    else
      let l := d.pinners core x
      if l.isEmpty then none else some { x with dead := some l }
  let wait := match c.compiling, c.chartQ with
    | none, q :: l => if q.key.ident = ident && q.pf && !d.bitmapStalls q then l else q :: l
    | _, l => l
  let busy := c.compiling.filter fun x => !(decide (x.1.key.ident = ident) && x.1.pf)
  d.setCore core { c with charts := c.charts.filterMap f, compiling := busy, chartQ := wait }

/-- A scratchpad write of a group has changed a byte range: charts keyed to a record there are discarded on the group's core, and on every core
when the group is saved and an engine still writes for it (07 R207). -/
def Device.wrote (d : Device) (g lo n : Nat) : Device :=
  match d.groups.get? g with
  | none => d
  | some x =>
    let cs : List Nat := match x.core with | some c => [c] | none => d.cores.map fun k => k.1
    (writtenIdents x lo n).foldl (fun d i => cs.foldl (fun d c => d.discard c i) d) d

/-! ## Writes behind an MMA of the same clause (07 R193, 18 R369) -/

/-- Whether an MMA of the clause's own reads where some byte ranges are written. -/
def Spec.readBy (p : Spec) (rs : List (Nat × Nat)) (e : MQEntry) : Bool :=
  decide (p.first ≤ e.id) && (e.holds false).any fun x => rs.any fun r => overlap (granules r.1 r.2) x

/-- Before byte ranges are written: the MMAs of the clause's own that read there have yet to read what stands in them. -/
def Spec.keepFor (p : Spec) (rs : List (Nat × Nat)) : Spec :=
  let old := rs.flatMap fun r => (spadBytes p.grp r.1 r.2).mapIdx fun i b => (r.1 + i, b)
  let add (k : List (Nat × Nat × Byte)) (e : MQEntry) : List (Nat × Nat × Byte) :=
    if p.readBy rs e then k ++ (old.filter fun x => !k.any fun y => decide (y.1 = e.id) && decide (y.2.1 = x.1)).map fun x => (e.id, x) else k
  { p with kept := p.grp.mq.foldl add p.kept }

/-- The group as the clause leaves it: the scratchpad holds what the MMAs of the clause have yet to read, and each MMA takes along the writes that
wait for it. -/
def hideWrites (kept : List (Nat × Nat × Byte)) (g : Group) : Group :=
  g.mq.reverse.foldl (fun g e =>
    let k := (kept.filter fun x => decide (x.1 = e.id)).map (·.2)
    { g with spad := g.spad.setAll k, mq := g.mq.map fun y => if y.id = e.id then { y with later := y.later ++ k.map fun x => (x.1, g.spad.get x.1) } else y }) g

/-- The write of byte ranges in a pass discards charts, unless it waits for an MMA of the clause's own, after which they are discarded (07 R207). -/
def Spec.wrote (p : Spec) (rs : List (Nat × Nat)) : Spec :=
  let ids := rs.flatMap fun r => writtenIdents p.grp r.1 r.2
  if ids.isEmpty || p.grp.mq.any (p.readBy rs) then p else p.on fun d => ids.foldl (fun d i => d.discard p.wav.core i) d

end Sys2Proof.Machine
end

