-- ==== Sys2Proof/Machine/Hold.lean ====
section
/-! DEFINITION. Why a clause is held at commit, and when the reason is over (01 R37; 04 R127; 06 R167, R168, R171, R172, R179 to
R181; 07 R192, R197, R198, R202, R205; 10 R257). -/

namespace Sys2Proof.Machine

/-- Whether a request reaches span or system memory. -/
def Req.far (r : Req) : Bool := r.accs.any fun a => !a.dev

/-- Whether a request is a load or an atomic, which returns something. -/
def Req.returns (r : Req) : Bool := r.kind != .store

/-- Whether every span or system load and atomic of some quads older than `first` has returned (06 R167, ACQ). -/
def Device.acquired (d : Device) (w : Nat) (q : BitVec 16) (first : Nat) : Bool :=
  d.reqs.all fun x => decide (first ≤ x.1) || decide (x.2.wave ≠ w) || (x.2.after &&& q == 0) ||
    !(x.2.returns && x.2.far) || (x.2.pending == 0)

/-- Whether every store and atomic of some quads older than `first` is performed, and PUTSIG payloads written (06 R167, REL; 11 R278). -/
def Device.released (d : Device) (w : Nat) (q : BitVec 16) (first : Nat) : Bool :=
  (d.reqs.all fun x => decide (first ≤ x.1) || decide (x.2.wave ≠ w) || (x.2.after &&& q == 0) || !x.2.performs || x.2.done) &&
    d.ops.all fun x => decide (first ≤ x.1) || decide (x.2.wave ≠ w) || (x.2.after &&& q == 0) || !owesFar d x.2

/-- Whether a FENCE of a kind at scope 9 or 10 may pass, the tick of SC apart (06 R167). -/
def Device.fenceOver (d : Device) (w : Nat) (q : BitVec 16) (first kind : Nat) : Bool :=
  (decide (kind = 1) || d.acquired w q first) && (decide (kind = 0) || d.released w q first)

/-- Whether every batch that WAITB of batch `n` covers is done with its items (06 R172). -/
def Device.batchesDone (d : Device) (w : Nat) (n : Word32) : Bool :=
  d.ops.all fun x => decide (x.2.wave ≠ w) || decide ((n - x.2.batch).toInt < 0)

/-- Whether no older bank product of some quads is in flight and their device stores are timed (06 R168, 11 R286). -/
def Device.bfenceOver (d : Device) (w : Nat) (q : BitVec 16) (first : Nat) : Bool :=
  (d.bmvs.all fun x => decide (first ≤ x.1) || decide (x.2.wave ≠ w) || (x.2.after &&& q == 0)) &&
    d.reqs.all fun x => decide (first ≤ x.1) || decide (x.2.wave ≠ w) || (x.2.after &&& q == 0) || !x.2.performs ||
      x.2.accs.all fun a => !a.dev || a.reached

/-- Bank products in flight of some quads of a wave. -/
def Device.bmvCount (d : Device) (w : Nat) (q : BitVec 16) : Nat :=
  (d.bmvs.filter fun x => decide (x.2.wave = w) && (x.2.quads &&& q != 0)).length

/-- Copies, gathers and PUTSIGs in flight on a core (06 R171). -/
def Device.frontCount (d : Device) (core : Nat) : Nat := (d.ops.filter fun x => decide (x.2.core = core)).length

/-- Child queue of a launch packet (09 R238). -/
def childQueue (pk : List Word64) : Nat := bits (dw pk 0) 26 21

/-- Free slots of a device queue (04 R127; log entry 9). -/
def Device.childRoom (d : Device) (q : Nat) : Nat := Config.deviceQueueSlots - (d.devQ.getD q []).length

/-- Whether an entry of a matrix queue is an MMA that names a record. -/
def MQEntry.namesRec (e : MQEntry) (o : Nat) : Bool :=
  match e.work with
  | .mma _ _ _ _ o' _ _ _ _ => decide (o' = o)
  | _ => false

/-- Whether an entry of a matrix queue names a tile. -/
def MQEntry.namesTile (e : MQEntry) (t : Nat) : Bool :=
  match e.work with
  | .mma _ _ _ t' _ _ _ _ _ => decide (t' = t)
  | .acczero t' => decide (t' = t)
  | .accrd t' _ _ _ _ => decide (t' = t)
  | .accwr t' _ _ => decide (t' = t)

/-- Chart requests outstanding on a core (07 R205). -/
def Core.chartLoad (c : Core) : Nat := c.chartQ.length + (if c.compiling.isSome then 1 else 0)

/-- The phase bit of the barrier object at an offset (06 R177). -/
def barPhase (g : Group) (off : Nat) : Bool := (spadNat g off 8).testBit 40

/-- Whether a reason to hold a part's clause is over. Only work older than `first` counts. -/
def Device.over (d : Device) (w : Nat) (wv : Wave) (q : Part) (first : Nat) : HoldReason → Bool
  | .fence k => d.fenceOver w q.quads first k &&
      (decide (k ≠ 3) || (match q.fenceTick with | some t => decide (t ≤ d.clk.complete) | none => false))
  | .waitb n => d.batchesDone w n
  | .bfence => d.bfenceOver w q.quads first
  | .barwait off ph own => own || (match d.groups.get? wv.group with | some g => barPhase g off != ph | none => true)
  | .gbar s => q.gbarGo.any fun x => decide (x.1 = s)
  | .flag f => (quadsOf q.quads).all fun k => decide (wv.flag k f < 15)
  | .matrixFull =>
    match d.groups.get? wv.group with
    | some g => decide (g.mq.length < 4) || g.mq.all fun e => decide (first ≤ e.id)
    | none => true
  | .chartLimit => decide ((d.core wv.core).chartLoad < 16)
  | .record o => match d.groups.get? wv.group with | some g => g.mq.all fun e => decide (first ≤ e.id) || !e.namesRec o | none => true
  | .tile t => match d.groups.get? wv.group with | some g => g.mq.all fun e => decide (first ≤ e.id) || !e.namesTile t | none => true
  | .bmvLimit => decide (d.bmvCount w q.quads < 64)
  | .copyFull => decide (d.frontCount wv.core < Config.frontEnd) && decide ((d.core wv.core).board.length < Config.boardEntries)
  | .board wr rs => !d.stalls wv.group first wr rs
  | .taskQueue => q.tqReady
  | .launchFull => match d.launches.get? wv.launch with | some l => decide (0 < d.childRoom (childQueue l.packet)) | none => true
  | .partner => match (d.partner wv.group).bind d.groups.get? with | some g => g.core.isSome | none => false
  | .line => (d.beforeSpad w q.quads).isEmpty
  | .child => (d.beforeChild w q.quads).isEmpty
  | .walk => d.walkQ.all fun x => decide (x.wave ≠ w) || (x.quads &&& q.quads == 0)

/-- Goes on when a reason is over, and otherwise records it: the clause is then held at commit (01 R28). -/
def Spec.waitFor (p : Spec) (r : HoldReason) (k : Spec → Res) : Res :=
  if p.sync.over p.wid p.wav p.prt p.first r then k p else .ok (p.holdFor r)

/-- The same for an instruction whose result the later slots of its clause may read. -/
def Spec.stopUntil (p : Spec) (r : HoldReason) (k : Spec → Res) : Res :=
  if p.sync.over p.wid p.wav p.prt p.first r then k p else .ok (p.stopFor r)

/-- Goes on when an access to scratchpad ranges does not stall. -/
def Spec.onBoard (p : Spec) (write : Bool) (rs : List (Nat × Nat)) (k : Spec → Res) : Res := p.waitFor (.board write rs) k

end Sys2Proof.Machine
end

