-- ==== Sys2Proof/Machine/Engine.lean ====
section
/-! DEFINITION. The descriptors of copies, gathers and PUTSIGs, and their checks (06 R169, R170, R174, R175). -/

namespace Sys2Proof.Machine

/-! ## Descriptors (06 R169) -/

/-- Whether bits of a dword are all 0. -/
def clear (x : Word64) (hi lo : Nat) : Bool := bits x hi lo == 0

/-! ### TCOPY (06 R170) -/

/-- One dimension of a copy: count, source stride, destination stride. -/
structure Dim where
  /-- Count. -/
  n : Nat
  /-- Source byte stride. -/
  src : Int
  /-- Destination byte stride. -/
  dst : Int
  deriving DecidableEq, Repr

/-- Dimensions of a copy descriptor, innermost first. -/
def dimsOf (x : List Word64) : List Dim :=
  (List.range (bits (dw x 2) 3 0 + 1)).map fun j =>
    ⟨bits (dw x (8 + 3 * j)) 31 0, (dw x (9 + 3 * j)).toInt, (dw x (10 + 3 * j)).toInt⟩

/-- conv. -/
def convOf (x : List Word64) : Nat := bits (dw x 2) 12 11

/-- SSP: the source is the scratchpad. -/
def sspOf (x : List Word64) : Bool := bit (dw x 2) 9

/-- DSP: the destination is the scratchpad. -/
def dspOf (x : List Word64) : Bool := bit (dw x 2) 10

/-- Source and destination types. -/
def typesOf (x : List Word64) : CvtTy × CvtTy := (cvtTy (bits (dw x 2) 15 13), cvtTy (bits (dw x 2) 18 16))

/-- Source address, or scratchpad offset in [18:0]. -/
def srcOf (x : List Word64) : Int := if sspOf x then (bits (dw x 0) 18 0 : Nat) else (dw x 0).toNat

/-- Destination address, or scratchpad offset in [18:0]. -/
def dstOf (x : List Word64) : Int := if dspOf x then (bits (dw x 1) 18 0 : Nat) else (dw x 1).toNat

/-- Product of the counts. -/
def countAll (l : List Dim) : Nat := l.foldl (fun n d => n * d.n) 1

/-- Destination bytes of an element of a copy with conv 0 or 1. -/
def dstElem (x : List Word64) : Nat := if convOf x = 1 then (typesOf x).2.bytes else 1

/-- Source bytes of an element. -/
def srcElem (x : List Word64) : Nat := if convOf x = 1 then (typesOf x).1.bytes else 1

/-- Whether a copy descriptor is legal (06 R170). -/
def copyLegal (x : List Word64) : Bool :=
  let ds := dimsOf x
  let c2 := dw x 2
  let ty := bits c2 15 13
  let dy := bits c2 18 16
  let d0 := (ds.headD ⟨0, 0, 0⟩).n
  clear c2 63 24 && clear c2 8 4 && ((List.range 5).all fun i => dw x (3 + i) == 0) &&
    ((List.range ds.length).all fun j => clear (dw x (8 + 3 * j)) 63 32) &&
    decide (bits c2 21 19 ≠ 7) && decide (convOf x ≠ 3) &&
    (decide (convOf x ≠ 1) || decide (ty ≠ dy) || decide (ty = 0)) &&
    (decide (convOf x = 2) || decide (countAll ds * dstElem x ≤ 2 ^ 36)) &&
    (decide (convOf x ≠ 2) || (!dspOf x && decide (ds.length ≤ 2) && decide (d0 % 32 = 0) && decide (d0 ≤ 32768) &&
      decide ((dw x 1).toNat % 2 ^ 21 = 0)))

/-- Lowest and highest offset that the outer dimensions add to an operand. -/
def spread (l : List (Nat × Int)) : Int × Int :=
  l.foldl (fun r x => (r.1 + min 0 ((x.1 - 1 : Int) * x.2), r.2 + max 0 ((x.1 - 1 : Int) * x.2))) (0, 0)

/-- The range of granules that bounds an operand, within the allotment (log entry 14). -/
def bound (size : Nat) (base : Int) (outer : List (Nat × Int)) (row : Nat) : Nat × Nat :=
  let s := spread outer
  let lo := (max 0 (base + s.1)).toNat
  let hi := min size (base + s.2 + row).toNat
  if hi ≤ lo then (0, 0) else (lo / 32, (hi + 31) / 32)

/-- Ranges that a copy enters on the scoreboard: write flag and granules (06 R170, R171). -/
def copyRanges (size : Nat) (x : List Word64) : List (Bool × (Nat × Nat)) :=
  let ds := dimsOf x
  let d0 := (ds.headD ⟨0, 0, 0⟩).n
  let row (e : Nat) : Nat := if convOf x = 2 then 2 * d0 else d0 * e
  (if sspOf x then [(false, bound size (srcOf x) (ds.tail.map fun d => (d.n, d.src)) (row (srcElem x)))] else []) ++
    (if dspOf x then [(true, bound size (dstOf x) (ds.tail.map fun d => (d.n, d.dst)) (row (dstElem x)))] else [])

/-! ### GATHER (06 R174) -/

/-- Elements of a gather. -/
def gatherN (x : List Word64) : Nat := bits (dw x 1) 31 0

/-- Element size of a gather. -/
def gatherSize (x : List Word64) : Nat := 2 ^ bits (dw x 1) 35 32

/-- Index size of a gather. -/
def gatherIdx (x : List Word64) : Nat := if bit (dw x 1) 36 then 8 else 4

/-- Index list, destination and status bitmap offsets. -/
def gatherArea (x : List Word64) (i : Nat) : Nat := bits (dw x (2 + i)) 18 0

/-- Whether a gather descriptor is legal (06 R174; an area that is misaligned, log entry 15). -/
def gatherLegal (size : Nat) (x : List Word64) : Bool :=
  let n := gatherN x
  let e := bits (dw x 1) 35 32
  clear (dw x 1) 63 42 && ((List.range 3).all fun i => clear (dw x (2 + i)) 63 19) && ((List.range 3).all fun i => dw x (5 + i) == 0) &&
    decide (1 ≤ n) && decide (n ≤ 65536) && decide (2 ≤ e) && decide (e ≤ 12) &&
    decide (gatherArea x 0 + n * gatherIdx x ≤ size) && decide (gatherArea x 1 + n * gatherSize x ≤ size) &&
    decide (gatherArea x 2 + (n + 7) / 8 ≤ size) &&
    decide (gatherArea x 0 % gatherIdx x = 0) && decide (gatherArea x 1 % min (gatherSize x) 32 = 0)

/-! ### PUTSIG (06 R175) -/

/-- Payload bytes of a PUTSIG. -/
def putsigN (x : List Word64) : Nat := bits (dw x 3) 24 0

/-- Whether a PUTSIG descriptor is legal (06 R175; log entry 15). -/
def putsigLegal (x : List Word64) : Bool :=
  clear (dw x 3) 63 26 && clear (dw x 4) 63 19 && ((List.range 3).all fun i => dw x (5 + i) == 0) &&
    decide (1 ≤ putsigN x) && decide (putsigN x ≤ 2 ^ 24) && decide ((dw x 1).toNat % 8 = 0)

end Sys2Proof.Machine
end

