-- ==== Sys2Proof/Machine/Barrier.lean ====
section
/-! DEFINITION. Barrier objects: arrivals, transaction bytes, flips and the pipeline occupancy they drive, and the sets
(06 R177, R178, R180; 09 R234, R239). -/

namespace Sys2Proof.Machine

/-- The three words of a barrier object that updates use (06 R177). -/
structure Bar where
  /-- Word 0: arrivals, phase, error. -/
  w0 : Word64
  /-- Word 1: transaction bytes remaining. -/
  w1 : Word64
  /-- Word 2: maximum arrival time. -/
  w2 : Word64
  deriving DecidableEq, Repr

namespace Bar

/-- Arrivals remaining. -/
def rem (b : Bar) : Nat := bits b.w0 19 0

/-- Arrivals expected. -/
def exp (b : Bar) : Nat := bits b.w0 39 20

/-- Phase. -/
def phase (b : Bar) : Bool := bit b.w0 40

/-- Error. -/
def err (b : Bar) : Bool := bit b.w0 41

/-- With the error bit set. -/
def fail (b : Bar) : Bar := { b with w0 := b.w0 ||| BitVec.ofNat 64 (2 ^ 41) }

/-- Whether an update flips the object (06 R178). -/
def flips (b : Bar) : Bool := decide (b.rem = 0) && b.w1 == 0

/-- The object after an update: when nothing remains it flips (06 R178). -/
def settle (b : Bar) : Bar :=
  if b.flips then { b with w0 := putBits b.w0 19 0 b.exp ^^^ BitVec.ofNat 64 (2 ^ 40) } else b

/-- A counted arrival at a time; one that finds no arrival remaining sets error and changes nothing else (06 R178, R179). -/
def arrive (k : Nat) (t : Word64) (b : Bar) : Bar :=
  if b.rem = 0 then b.fail else { b with w0 := putBits b.w0 19 0 (b.rem - 1), w2 := tmax k b.w2 t }

/-- An engine count-down of some bytes at a time (06 R178). -/
def count (k : Nat) (n : Nat) (t : Word64) (b : Bar) : Bar := { b with w1 := b.w1 - BitVec.ofNat 64 n, w2 := tmax k b.w2 t }

end Bar

/-- The object at an offset. -/
def barAt (g : Group) (off : Nat) : Bar :=
  ⟨BitVec.ofNat 64 (spadNat g off 8), BitVec.ofNat 64 (spadNat g (off + 8) 8), BitVec.ofNat 64 (spadNat g (off + 16) 8)⟩

/-- Pipeline queues of a packet: number and its declaration word. A word of zeros declares none, since three queues need not be (09 R238; log entry
102). -/
def pipes (pk : List Word64) : List (Nat × Word64) :=
  if bit (dw pk 0) 20 then ((List.range 3).map fun p => (p, dw pk (26 + 2 * p))).filter fun x => decide (x.2 ≠ 0) else []

/-- Changes the occupancy of the pipeline queue whose ring holds a flipped object (09 R234). -/
def noteFlip (ps : List (Nat × Word64)) (off : Nat) (g : Group) : Group :=
  ps.foldl (fun g x =>
    let ring := bits x.2 18 0
    let n := bits x.2 23 20
    let c := g.occ.getD x.1 0
    if ring ≤ off && decide (off < ring + 64 * n) then
      if (off - ring) % 64 = 0 then { g with occ := g.occ.set x.1 (min n (c + 1)) }
      else if (off - ring) % 64 = 32 then { g with occ := g.occ.set x.1 (c - 1) }
      else g
    else g) g

/-- Stores an updated object, flipping it when nothing remains. -/
def barPut (ps : List (Nat × Word64)) (g : Group) (off : Nat) (b : Bar) : Group :=
  let x := b.settle
  let g := spadPut g off (leBytes 8 x.w0.toNat ++ leBytes 8 x.w1.toNat ++ leBytes 8 x.w2.toNat)
  if b.flips then noteFlip ps off g else g

/-- Whether an object lies where barrier instructions and engines may reach it (06 R177). -/
def barOk (g : Group) (off : Nat) : Bool := decide (off % 32 = 0) && decide (off + 32 ≤ g.size)

/-- Pipeline queues of a group's launch. -/
def Device.pipesOf (d : Device) (g : Group) : List (Nat × Word64) :=
  match d.launches.get? g.launch with
  | some l => pipes l.packet
  | none => []

/-- The group with the writes that wait for MMAs made (07 R193). -/
def Group.behind (x : Group) : Group := { x with spad := x.mq.foldl (fun m e => m.setAll e.later) x.spad }

/-- Takes back into waiting what waited of an object's bytes: `x` is the group as it was, `y` with the object changed. -/
def Group.waitAgain (x y : Group) (off : Nat) : Group :=
  let waits (i : Nat) : Bool := x.mq.any fun e => e.later.any fun b => decide (b.1 = i)
  let at' := (List.range 32).map fun i => (off + i, y.spad.get (off + i))
  let late (b : Nat × Byte) : Nat × Byte := if decide (off ≤ b.1) && decide (b.1 < off + 32) then (b.1, y.spad.get b.1) else b
  { y with spad := x.spad.setAll (at'.filter fun b => !waits b.1), mq := x.mq.map fun e => { e with later := e.later.map late } }

/-- A count-down of an object never waits: it comes behind the writes that do (07 R193, 10 R257). -/
def barChange (ps : List (Nat × Word64)) (x : Group) (off : Nat) (f : Bar → Bar) : Group :=
  if x.mq.all fun e => e.later.isEmpty then barPut ps x off (f (barAt x off))
  else x.waitAgain (barPut ps x.behind off (f (barAt x.behind off))) off

/-- An engine's update of a barrier object; an object out of reach is dropped and recorded in SPDOOB (06 R171, R177). -/
def Device.barEngine (d : Device) (g off : Nat) (f : Bar → Bar) : Device :=
  match d.groups.get? g with
  | none => d
  | some x =>
    if barOk x off then (d.setGroup g (barChange (d.pipesOf x) x off f)).wrote g off 32
    else d.setGroup g (noteOob x (oobOffset x off 32))

/-! ## Sets (09 R239) -/

/-- Rows of a set. -/
def setRows (sets : List (Word64 × Word64)) (k : Nat) : List (Word64 × Word64) := sets.filter fun r => decide (bits r.1 7 0 = k)

/-- Whether wave `w` of group `g` belongs to a set. -/
def inSet (sets : List (Word64 × Word64)) (k g w : Nat) : Bool :=
  (setRows sets k).any fun r => decide (bits r.1 63 32 ≤ g) && decide (g < bits r.1 63 32 + bits r.1 31 16) && bit r.2 w

/-- Set table of a launch. -/
def Device.setsOf (d : Device) (launch : Nat) : List (Word64 × Word64) := ((d.launches.get? launch).map (·.sets)).getD []

end Sys2Proof.Machine
end

