-- ==== Sys2Proof/Machine/Bank.lean ====
section
/-! DEFINITION. Bank products: descriptors, the staging of x, the row groups of the bank units, and their completion
(02 R73; 06 R182 to R184; 10 R264 to R269; 11 R286). -/

namespace Sys2Proof.Machine

/-! ## Bank-layout placement (10 R264, R265) -/

/-- Bytes of a row's data. -/
def rowData (fmt c : Nat) : Nat :=
  match fmt with
  | 0 => c / 2 + c / 32
  | 1 => c
  | _ => 2 * c

/-- Row pitch P. -/
def rowPitch (fmt c : Nat) : Nat := roundUp (rowData fmt c) 64

/-- Stream byte at which a row starts in its unit. -/
def rowStart (fmt c r : Nat) : Nat := r / 16 / 64 * (16 * rowPitch fmt c) + r % 16 * rowPitch fmt c

/-- Address of a byte of the stream of row `r`'s unit. -/
def streamVa (w : Word64) (r b : Nat) : Word64 := w + BitVec.ofNat 64 (b / 2 ^ 15 * 2 ^ 21 + r / 16 % 64 * 32768 + b % 2 ^ 15)

/-- Stack of the frame at a physical address (10 R254). -/
def stackOf (pa : Nat) : Nat := pa / 2 ^ 21 % 12

/-! ## Descriptors (06 R182) -/

/-- Columns. -/
def bmvCols (x : List Word64) : Nat := bits (dw x 5) 15 0

/-- First row. -/
def bmvFirst (x : List Word64) : Nat := bits (dw x 4) 31 0

/-- Row count. -/
def bmvRows (x : List Word64) : Nat := bits (dw x 4) 63 32

/-- Row groups. -/
def bmvGroups (x : List Word64) : Nat := bmvRows x / 16

/-- Bytes of an x element. -/
def bmvXSize (x : List Word64) : Nat := if bits (dw x 5) 17 16 = 2 then 1 else 2

/-- Format of x. -/
def bmvXFmt (x : List Word64) : Fmt :=
  match bits (dw x 5) 17 16 with
  | 0 => .bf16
  | 1 => .f16
  | _ => .e4m3

/-- Bytes of a y element. -/
def bmvYSize (x : List Word64) : Nat := if bit (dw x 5) 18 then 2 else 4

/-- Whether a BMV descriptor is legal. -/
def bmvLegal (x : List Word64) : Bool :=
  clear (dw x 5) 63 19 && dw x 6 == 0 && dw x 7 == 0 && decide (bits (dw x 5) 17 16 ≠ 3) &&
    decide (bmvCols x ≠ 0) && decide (bmvCols x ≤ 32768) && decide (bmvCols x % 32 = 0) &&
    decide (bmvFirst x % 16 = 0) && decide (bmvRows x % 16 = 0) && decide (bmvRows x ≠ 0) &&
    decide ((dw x 0).toNat % 2 ^ 21 = 0) && decide ((dw x 1).toNat % 64 = 0) && decide ((dw x 2).toNat % 64 = 0)

/-! ## Reaching memory -/

/-- The bytes of a range of device kind that permits an access (06 R183, 10 R267). -/
def devReach (d : Device) (o : BmvOp) (a : Acc) (va : Word64) (n : Nat) : Except AccFault Bytes × Device :=
  match reach d o.core o.space a va n with
  | (.error e, d) => (.error e.2, d)
  | (.ok b, d) => (if b.all fun x => decide (x.1.kind = 0) then .ok b else .error (.pm 5), d)

/-- The leaf of an address as the tables now give it, whoever asks. -/
def peek (d : Device) (core : Nat) (sp : Nat × Nat) (va : Word64) : Option Leaf :=
  match translate d (.part 0 0 []) core sp va with
  | (.ok l, _) => some l
  | (.error .wait, _) => (match (walk d core sp va).res with | .leaf l => some l | .fault _ _ => none)
  | (.error _, _) => none

/-- The leaf of W, when it is of bank layout and readable. -/
def bankLeaf (d : Device) (o : BmvOp) : Option Leaf :=
  (peek d o.core o.space (dw o.desc 0)).filter fun l => decide (l.kind = 3) && l.r

/-- The stack that an operation uses. -/
def bmvStack (d : Device) (o : BmvOp) : Option Nat := (bankLeaf d o).map fun l => stackOf (l.phys (dw o.desc 0))

/-- Unit of a stack that holds a group of an operation (10 R265). -/
def bmvUnit (o : BmvOp) (i : Nat) : Nat := (bmvFirst o.desc / 16 + i) % 64

/-- Memory keys of the pieces of a row's data; an error where a page is not bank layout, of another format or in another stack (10 R265). -/
def rowGo (o : BmvOp) (l : Leaf) (stack : Nat) : List (Word64 × Nat) → Device → Except AccFault (List Nat) × Device
  | [], d => (.ok [], d)
  | x :: xs, d =>
    match translate d .unit o.core o.space x.1 with
    | (.error e, d) => (.error e, d)
    | (.ok m, d) =>
      if m.kind = 3 && m.r && decide (m.fmt = l.fmt) && decide (stackOf (m.phys x.1) = stack) then
        (match rowGo o l stack xs d with
          | (.ok ks, d) => (.ok ((List.range x.2).map (m.key x.1 + ·) ++ ks), d)
          | (.error e, d) => (.error e, d))
      else (.error (.pm 5), d)

/-- Memory keys of a row's data. -/
def rowKeys (d : Device) (o : BmvOp) (l : Leaf) (r : Nat) : Except AccFault (List Nat) × Device :=
  let c := bmvCols o.desc
  let n := rowData l.fmt c
  let s := rowStart l.fmt c r
  rowGo o l (stackOf (l.phys (dw o.desc 0)))
    ((List.range (ceilDiv n 64)).map fun i => (streamVa (dw o.desc 0) r (s + 64 * i), min 64 (n - 64 * i))) d

/-! ## One row (02 R52, R53, R73) -/

/-- Elements of a 32-column block of a row, with its scale, and whether it sets FE. -/
def bankBlock (fmt c : Nat) (row : List Byte) (j : Nat) : List Num × Num × Bool :=
  match fmt with
  | 0 =>
    let nibs := leNat ((row.drop (16 * j)).take 16)
    let qs := (List.range 8).map fun q => q4xAt nibs (4 * q)
    let sc := ue5m3 ((row.getD (c / 2 + j) 0).toNat)
    let fe := qs.any (·.2) || sc.isNan
    let es := (qs.map (·.1)).flatten
    (if sc.isZero then es.map fun _ => Num.zero else if sc.isNan then es.map fun _ => Num.nan false else es, sc, fe)
  | 1 => (((row.drop (32 * j)).take 32).map fun b => val .e4m3 b.toNat, Num.one, false)
  | _ => ((chunks 2 32 (row.drop (64 * j))).map fun b => val .bf16 b, Num.one, false)

/-- One output element as F32 bits, from a starting sum, and whether a format error was met (02 R73). -/
def bankRow (fmt c : Nat) (row : List Byte) (xs : List Num) (start : Nat) : Nat × Bool :=
  (List.range (c / 32)).foldl (fun r j =>
    let b := bankBlock fmt c row j
    let ps := List.zipWith mulX b.1 (xs.drop (32 * j))
    let s := roundNum .f32 1 (mulX (xsum 1 ps).1 b.2.1)
    ((fAdd .f32 1 (val .f32 r.1) (val .f32 s.1)).1, r.2 || b.2.2)) (start, false)

/-! ## The bank units (06 R183; 10 R267, R268) -/

/-- What a bank product meets: it waits, a group fails with a status, or it goes on. -/
inductive BankR (α : Type) where
  | wait
  | fail (status : Nat)
  | ok (a : α)
  deriving DecidableEq, Repr

/-- Status of a group that meets a fault (06 R183). -/
def bankFault {α : Type} (e : AccFault) : BankR α :=
  match e with
  | .wait => .wait
  | .gone 3 => .fail 0x81
  | _ => .fail 0x80

/-- Marks lines of the L2 clean: they are written back. -/
def Device.writeBack (d : Device) (lines : List Nat) : Device :=
  { d with l2 := d.l2.map fun s => (s.1, s.2.map fun l => if lines.contains l.line then { l with dirty := false } else l) }

/-- What y is accessed as. -/
def yAcc (o : BmvOp) : Acc := if o.acc then .atomicV else .store

/-- Address of the y rows of a group. -/
def yVa (o : BmvOp) (i : Nat) : Word64 := dw o.desc 2 + BitVec.ofNat 64 (16 * i * bmvYSize o.desc)

/-- Lines of the y rows that translate, group by group; none where one has to wait. -/
def yLines (o : BmvOp) : List Nat → Device → Option (List Nat) × Device
  | [], d => (some [], d)
  | i :: l, d =>
    let x := devReach d o (yAcc o) (yVa o i) (16 * bmvYSize o.desc)
    match x.1, yLines o l x.2 with
    | .error .wait, r => (none, r.2)
    | .error _, r => r
    | .ok b, r => (r.1.map fun ls => linesOf b.keys ++ ls, r.2)

/-- The first step: x and y are written back, y is held and x is staged; a fault on x or on the status range fails every
group (06 R183, 10 R268). None where a translation has to wait. -/
def bmvBegin (d : Device) (o : BmvOp) : Option (BmvOp × Device) :=
  let y := yLines o (List.range (bmvGroups o.desc)) d
  let x := devReach y.2 o .load (dw o.desc 1) (bmvCols o.desc * bmvXSize o.desc)
  let s := devReach x.2 o .store (dw o.desc 3) (bmvGroups o.desc)
  match y.1, x.1, s.1 with
  | none, _, _ => none
  | _, .error .wait, _ => none
  | _, _, .error .wait => none
  | some ys, .ok b, .ok _ =>
    let ys := linesOf (ys.map (· * 128))
    let d' := s.2.writeBack (linesOf b.keys ++ ys)
    some (if d.lost b.keys then { o with x := some [], held := ys, allFail := some 0x81 } else { o with x := some (d.bytes b.keys), held := ys }, d')
  | some ys, _, _ =>
    let ys := linesOf (ys.map (· * 128))
    some ({ o with x := some [], held := ys, allFail := some 0x80 }, s.2.writeBack ys)

/-- The rows of a group, in order: the F32 bits of each, and whether a format error was met; the first failure is the group's. -/
def bmvRowsGo (o : BmvOp) (l : Leaf) (xs : List Num) (r : Nat) : List Nat → Device → BankR (List Nat × Bool) × Device
  | [], d => (.ok ([], false), d)
  | s :: ss, d =>
    match rowKeys d o l r with
    | (.error e, d) => (bankFault e, d)
    | (.ok ks, d) =>
      if d.lost ks then (.fail 0x81, d)
      else
        let a := bankRow l.fmt (bmvCols o.desc) (d.bytes ks) xs s
        match bmvRowsGo o l xs (r + 1) ss d with
        | (.ok b, d) => (.ok (a.1 :: b.1, a.2 || b.2), d)
        | r => r

/-- The keys and bytes that a group of 16 rows writes to y, with its format error, or its failure status. -/
def bmvGroup (d : Device) (o : BmvOp) (i : Nat) : BankR (List Nat × List Byte × Bool) × Device :=
  let first := bmvFirst o.desc + 16 * i
  let ysz := bmvYSize o.desc
  let yf : Fmt := if ysz = 2 then .bf16 else .f32
  match o.allFail, bankLeaf d o with
  | some e, _ => (.fail e, d)
  | none, none => (.fail 0x80, d)
  | none, some l =>
    match devReach d o (yAcc o) (yVa o i) (16 * ysz) with
    | (.error e, d) => (bankFault e, d)
    | (.ok y, d) =>
      if (d.banks.getD (stackOf (l.phys (dw o.desc 0)) * 64 + bmvUnit o i) BankUnit.reset).retired then (.fail 0x82, d)
      else if o.acc && d.lost y.keys then (.fail 0x81, d)
      else
        let xs := (chunks (bmvXSize o.desc) (bmvCols o.desc) (o.x.getD [])).map (val (bmvXFmt o.desc))
        let old := chunks ysz 16 (d.bytes y.keys)
        let starts := (List.range 16).map fun k => if o.acc then enc .f32 (val yf (old.getD k 0)) else 0
        match bmvRowsGo o l xs first starts d with
        | (.ok r, d) => (.ok (y.keys, (r.1.map fun v => leBytes ysz (if ysz = 2 then (roundNum .bf16 1 (val .f32 v)).1 else v)).flatten, r.2), d)
        | (.fail e, d) => (.fail e, d)
        | (.wait, d) => (.wait, d)

/-- Whether a group of an operation is done: it has a status. -/
def BmvOp.groupDone (o : BmvOp) (i : Nat) : Bool := o.status.get i != 0

/-- Groups of an operation that are not done, in the queue of a unit or all. -/
def BmvOp.groupsLeft (o : BmvOp) : List Nat := (List.range (bmvGroups o.desc)).filter fun i => !o.groupDone i

/-- Whether a group waits in its unit for a group of an older operation (10 R267). -/
def bmvBehind (d : Device) (id : Nat) (o : BmvOp) (i : Nat) : Bool :=
  let s := bmvStack d o
  d.bmvs.any fun x => decide (x.1 < id) && decide (bmvStack d x.2 = s) && x.2.groupsLeft.any fun j => decide (bmvUnit x.2 j = bmvUnit o i)

/-- The group of an operation that a unit computes next: the first whose unit has come to the operation. -/
def bmvNext (d : Device) (id : Nat) (o : BmvOp) : Option Nat := o.groupsLeft.find? fun i => !bmvBehind d id o i

/-- Whether an operation cannot be staged yet: a unit that it needs has still to finish an older operation's groups (10 R267). -/
def bmvUnstaged (d : Device) (id : Nat) (o : BmvOp) : Bool := o.x.isNone && o.groupsLeft.any (bmvBehind d id o)

/-- A row group of an operation is computed; the operation is staged first when it has not been, once every unit that it needs has come to it. -/
def Device.bankGroup (d : Device) (id : Nat) : Device :=
  match d.bmvs.get? id with
  | none => d
  | some o0 =>
    if decide (d.clk.cycle < o0.ready) || bmvUnstaged d id o0 then d
    else
      match bmvNext d id o0, (if o0.x.isNone then bmvBegin d o0 else some (o0, d)) with
      | some i, some (o, d1) =>
        match bmvGroup d1 o i with
        | (.wait, _) => if o0.x.isNone then { d1 with bmvs := d1.bmvs.set id o } else d
        | (.fail e, d2) => { d2 with bmvs := d2.bmvs.set id { o with status := o.status.set i (BitVec.ofNat 8 e) } }
        | (.ok r, d2) =>
          { d2.putBytes r.1 r.2.1 with
            bmvs := d2.bmvs.set id { o with status := o.status.set i (if r.2.2 then 3 else 1), fe := o.fe || r.2.2 } }
      | _, _ => d

/-- A flag of some quads falls by one; a return that matches no generation adds one to STALE (01 R36, R40). -/
def Device.lowerFlag (d : Device) (w : Nat) (gen : BitVec 16) (core : Nat) (quads : BitVec 16) (flag : Option Nat) : Device :=
  match d.liveWave w gen, flag with
  | some x, some f => d.setWave w (x.lower (quadsOf quads) f)
  | some _, none => d
  | none, _ => d.countStale core

/-- An access of a wave's work done by an engine or a bank unit at a time: the status word of its launch comes after it (09 R241, 11 R287). -/
def Device.launchNote (d : Device) (wid : Nat) (t : Word64) : Device :=
  match d.waves.get? wid with
  | some w => { d with launches := d.launches.upd w.launch fun l => { l with time := tmax d.pulse l.time t } }
  | none => d

/-- The status byte of a group is written where its address permits it; the unit counts the group when it is, be it after another product has
released the line (06 R183, 10 R269). Gives the largest time. -/
def putStatus (o : BmvOp) (stack : Option Nat) (r : Word64 × Device) (i : Nat) : Word64 × Device :=
  let unit := stack.map fun s => s * 64 + bmvUnit o i
  match devReach r.2 o .store (dw o.desc 3 + BitVec.ofNat 64 i) 1 with
  | (.ok (x :: _), d) =>
    let line := x.2 / 128
    let s := d.timeAt line (x.1.policy, x.1.ca) o.c
    let t := tmax d.pulse r.1 s.1
    if d.lineHeld line then (t, s.2.park line (.status x.2 (o.status.get i) unit x.1.policy x.1.ca))
    else (t, (s.2.writeAt line (x.1.policy, x.1.ca) [x.2] [o.status.get i]).unitDone unit)
  | (_, d) => (r.1, d)

/-- Whether the status bytes have to wait for a translation. -/
def statusWaits (d : Device) (o : BmvOp) : Bool :=
  (List.range (bmvGroups o.desc)).any fun i => (devReach d o .store (dw o.desc 3 + BitVec.ofNat 64 i) 1).1 matches .error .wait

/-- The last steps: y is invalidated, timed and released, what has waited there is done, the status bytes are written, FPX.FE is set
and the flag clears (06 R183; 10 R268, R269; 11 R286). -/
def Device.bmvFinish (d : Device) (id : Nat) : Device :=
  match d.bmvs.get? id with
  | none => d
  | some o =>
    if !o.groupsLeft.isEmpty || statusWaits d o then d
    else
      let t := o.held.foldl (fun r line =>
        let s := r.2.storeTime line o.c
        (tmax r.2.pulse r.1 s.1, s.2.dropL2 line)) (o.c, d)
      let d2 := o.parked.foldl Device.unpark { t.2 with bmvs := t.2.bmvs.del id }
      let st := (List.range (bmvGroups o.desc)).foldl (putStatus o (bmvStack d2 o)) (t.1, d2)
      let d3 := st.2.launchNote o.wave st.1
      let d4 := match d3.liveWave o.wave o.gen with
        | some w =>
          let w := if o.fe then w.addFpx d3.clk.cycle 0x20#64 else w
          d3.setWave o.wave { w with parts := onParts w.parts o.after fun p => { p with bmvTime := tmax d3.pulse p.bmvTime st.1 } }
        | none => d3
      d4.lowerFlag o.wave o.gen o.core o.quads o.flag

/-! ## BSTAT (06 R184, 10 R269) -/

/-- Row groups of operations in flight that wait in a unit's queue, the one now computing included; a queue holds 256. -/
def Device.queued (d : Device) (stack unit : Nat) : Nat :=
  let n (o : BmvOp) : Nat :=
    if bmvStack d o = some stack then (o.groupsLeft.filter fun i => decide (bmvUnit o i = unit)).length else 0
  min 256 (d.bmvs.foldl (fun k o => k + n o.2) 0)

/-- BANK_UNIT_GROUP: operand op. -/
def evBankGroup (s : State) : Out := .next { s with dev := s.dev.bankGroup (s.arg.getD 0 0) }

/-! ## Meanings -/

/-- BANK_UNIT_GROUP (R267): A bank unit computes one queued 16-row group of a BMV or BMVACC and writes its y rows. -/
def execBankUnitGroup (s : State) : Out :=
  evBankGroup s

end Sys2Proof.Machine
end

