-- ==== Sys2Proof/Machine/Own.lean ====
section
/-! DEFINITION. What the device stores and reads of its own accord, and the context area of a launch (11 R284; 12 R309). -/

namespace Sys2Proof.Machine

/-! ## Own stores and reads -/

/-- Function and address space of a launch. -/
def Device.spaceOf (d : Device) (launch : Nat) : Nat × Nat :=
  match d.launches.get? launch with
  | some l => (l.fn, l.as)
  | none => (0, 0)

/-- A dword of a launch's packet. -/
def Device.packetWord (d : Device) (launch i : Nat) : Word64 := ((d.launches.get? launch).map fun l => dw l.packet i).getD 0

/-- The lines of some bytes, each with how its home slice treats it. -/
def Bytes.lines (b : Bytes) : List (Nat × (Nat × Bool)) :=
  (linesOf b.keys).map fun l =>
    (l, match b.find? fun x => decide (x.2 / 128 = l) with | some x => Device.pageAt l x.1.kind x.1.policy x.1.ca | none => (2, false))

/-- The lines of some bytes, each with its leaf. -/
def Bytes.leaves (b : Bytes) : List (Nat × Leaf) :=
  (linesOf b.keys).filterMap fun l => (b.find? fun x => decide (x.2 / 128 = l)).map fun x => (l, x.1)

/-- A load of a line that no part's request makes, which takes no lease and fills no L1: its time. One that goes to the owner of the line replaces
the copies of it here (10 R252, R259; 11 R283; log entry 93). -/
def Device.readLine (core : Nat) (t : Word64) (d : Device) (x : Nat × Leaf) : Word64 × Device :=
  let far (d : Device) : Device := d.farFill core x.1 (max 1 x.2.policy) x.2.ca
  if d.isHome x.1 then
    let r := d.readAt x.1 (Device.pageAt x.1 x.2.kind x.2.policy x.2.ca) t
    (r.1, if devLine x.1 then r.2 else far r.2)
  else (t, far d)

/-- Loads of lines, each timed after `t`: the latest time. -/
def Device.readLines (core : Nat) (t : Word64) (d : Device) (l : List (Nat × Leaf)) : Word64 × Device :=
  l.foldl (fun x y => let r := x.2.readLine core t y; (tmax d.pulse x.1 r.1, r.2)) (t, d)

/-- Reads `n` bytes for the device's own machinery (queues, tables, trap areas): the bytes, or why they cannot be read. -/
def readVa (d : Device) (core : Nat) (sp : Nat × Nat) (a : Acc) (va : Word64) (n : Nat) : Except AccFault (List Byte) × Device :=
  match reach d core sp a va n with
  | (.error e, d) => (.error e.2, d)
  | (.ok b, d) =>
    match d.barred true b.keys with
    | some e => (.error e, d)
    | none => (.ok (d.bytes b.keys), (d.readLines core d.floor b.leaves).2)

/-- Stores bytes of one line, timed after `t` at its home slice or sent to its owner (11 R284). -/
def Device.storeLine (core : Option Nat) (t : Word64) (line : Nat) (pg : Nat × Bool) (keys : List Nat) (b : List Byte) (d : Device) : Device :=
  if devLine line then (d.storeAt line pg t keys b).2 else (d.farStore core line t keys b).2

/-- A store of the device's own at a virtual address: all of it, or why it cannot be. -/
def Device.storeVa (d : Device) (core : Nat) (sp : Nat × Nat) (va : Word64) (b : List Byte) (t : Word64) : Option AccFault × Device :=
  match reach d core sp .store va b.length with
  | (.error e, d) => (some e.2, d)
  | (.ok x, d) =>
    match d.barred false x.keys with
    | some e => (some e, d)
    | none =>
      (none, x.lines.foldl (fun d l =>
        let kb := (x.keys.zip b).filter fun y => decide (y.1 / 128 = l.1)
        d.storeLine (some core) t l.1 l.2 (kb.map (·.1)) (kb.map (·.2))) d)

/-- A 64-bit word in memory, or why it cannot be read. -/
def readWord (d : Device) (core : Nat) (sp : Nat × Nat) (va : Word64) : Except AccFault Word64 × Device :=
  let r := readVa d core sp .load va 8
  (r.1.map fun b => BitVec.ofNat 64 (leNat b), r.2)

/-- Words from an address on, in order, or why the first of them that fails cannot be read. -/
def readWords (d : Device) (core : Nat) (sp : Nat × Nat) : List Word64 → Except AccFault (List Word64) × Device
  | [] => (.ok [], d)
  | va :: l =>
    match readWord d core sp va with
    | (.error e, d) => (.error e, d)
    | (.ok w, d) =>
      match readWords d core sp l with
      | (.ok ws, d) => (.ok (w :: ws), d)
      | (.error e, d) => (.error e, d)

/-- Little-endian bytes of a list of words. -/
def wordBytes (l : List Word64) : List Byte := (l.map fun w => leBytes 8 w.toNat).flatten

/-- A time not before any access that a wave has committed and that has been timed. -/
def waveTime (d : Device) (w : Wave) : Word64 :=
  w.parts.foldl (fun t p => tmax d.pulse t (tmax d.pulse p.pts p.owed)) d.floor

/-! ## The context area (12 R309) -/

/-- Bytes of the block of one wave. -/
def Device.blockSize (d : Device) (launch : Nat) : Nat := 8192 + 544 * (4 * 2 ^ bits (d.packetWord launch 0) 12 10)

/-- Bytes of scratchpad of a group of a launch. -/
def Device.padSize (d : Device) (launch : Nat) : Nat := bits (d.packetWord launch 4) 27 8

/-- Offset of the tile image in a slot. -/
def tileAt : Nat := 4096

/-- Offset of the scratchpad image. -/
def padAt : Nat := tileAt + 262144

/-- Offset of the block of a wave. -/
def Device.blockAt (d : Device) (launch index : Nat) : Nat := padAt + d.padSize launch + index * d.blockSize launch

/-- Bytes of a group's slot of the context area: Z of 12 R309. -/
def Device.slotSize (d : Device) (launch : Nat) : Nat := d.blockAt launch (bits (d.packetWord launch 4) 6 0)

/-- Address of the slot of a group in its launch's context area; none without an area. -/
def Device.slotVa (d : Device) (launch index : Nat) : Option Word64 :=
  let a := d.packetWord launch 9
  if a = 0 then none else some (a + BitVec.ofNat 64 (index * d.slotSize launch))

/-- The leaves of a range that the device may store to, for the accesses of a context (log entry 29). -/
def contextLeaves (d : Device) (core : Nat) (sp : Nat × Nat) (va : Word64) (n : Nat) : List Leaf × Device :=
  (pieces 4096 va n).foldl (fun r x =>
    if r.1.any (·.covers sp x.1) then r
    else
      match translate r.2 .unit core sp x.1 with
      | (.ok l, d) => (if (perm .store false [l]).isNone then r.1 ++ [l] else r.1, d)
      | (.error _, d) => (r.1, d)) ([], d)

/-- The device stores to `n` bytes of a group's slot from offset `lo` on: a byte of which the manual gives the place takes its value, and every
other byte is a free value (log entry 29). -/
def Device.contextPut (d : Device) (core launch index lo n : Nat) (val : Nat → Option Byte) : Device :=
  match d.slotVa launch index with
  | none => d
  | some va =>
    let sp := d.spaceOf launch
    let at' := va + BitVec.ofNat 64 lo
    let r := contextLeaves d core sp at' n
    let k := d.draws
    let put (d : Device) (x : Word64 × Nat) : Device :=
      match r.1.find? (·.covers sp x.1) with
      | none => d
      | some l =>
        let keys := (List.range x.2).map fun i => l.key (x.1 + BitVec.ofNat 64 i)
        let off := (x.1 - va).toNat
        let line := l.key x.1 / 128
        if (d.gone false line).isSome then d
        else d.storeLine (some core) d.floor line (Device.pageAt line l.kind l.policy l.ca) keys
          ((List.range x.2).map fun i => (val (off + i)).getD (Config.contextByte k (off + i)))
    if r.1.isEmpty then r.2 else { (pieces 128 at' n).foldl put r.2 with draws := k + 1 }

/-- The bytes of a group's slot from offset `lo` on as a restore reads them, by offset, with the device after the loads; none where the device
cannot store, which a save has left as it was. -/
def Device.contextGet (d : Device) (core launch index lo n : Nat) : (Nat → Option Byte) × Device :=
  match d.slotVa launch index with
  | none => (fun _ => none, d)
  | some va =>
    let sp := d.spaceOf launch
    let r := contextLeaves d core sp (va + BitVec.ofNat 64 lo) n
    let leaf (x : Word64) : Option Leaf := (r.1.find? (·.covers sp x)).bind fun l => if (d.gone true (l.key x / 128)).isSome then none else some l
    let lines := (pieces 128 (va + BitVec.ofNat 64 lo) n).filterMap fun x => (leaf x.1).map fun l => (l.key x.1 / 128, l)
    (fun off =>
      let x := va + BitVec.ofNat 64 off
      (leaf x).map fun l => d.mem.get (d.home (l.key x)), (r.2.readLines core d.floor lines).2)

/-- Whether the bytes of a group's slot from offset `lo` on cannot be read yet: some line of them, or of an entry of the tables, is held by a bank
product (10 R268). -/
def Device.contextWaits (d : Device) (core launch index lo n : Nat) : Bool :=
  match d.slotVa launch index with
  | none => false
  | some va =>
    !d.bmvs.isEmpty && (pieces 128 (va + BitVec.ofNat 64 lo) n).any fun x =>
      match (translate d .unit core (d.spaceOf launch) x.1).1 with
      | .ok l => d.lineHeld (l.key x.1 / 128)
      | .error .wait => true
      | .error _ => false

/-- What an engine writes to the scratchpad of a saved group is in its image too (01 R40; 12 R309). -/
def Device.imagePad (d : Device) (core gid lo n : Nat) : Device :=
  match d.groups.get? gid with
  | some g => if g.saved then d.contextPut core g.launch g.index (padAt + lo) n fun off => some (g.spad.get (off - padAt)) else d
  | none => d

end Sys2Proof.Machine
end

