-- ==== Sys2Proof/Machine/EngineRun.lean ====
section
/-! DEFINITION. The copy and gather engines at work: granules, elements, signals, failures, and what a finished operation leaves
(06 R170 to R175; 10 R253, R257, R265; 11 R276, R286; 12 R312). -/

namespace Sys2Proof.Machine

/-- What one engine access to memory gives. -/
inductive EngR (α : Type) where
  /-- It waits: a held line or a live range. -/
  | wait
  /-- It fails for good: failure cause and address, and the device with what its lookups have left. -/
  | fail (cause : Nat) (va : Word64) (dev : Device)
  /-- It is done. -/
  | ok (a : α)
  deriving DecidableEq, Repr

/-- Failure cause of an access that is not served (12 R301). A walk that cannot read a table entry counts with the data that is lost, as that
entry is: the model's choice (log entry 95). -/
def failCause : AccFault → Nat
  | .tr 6 _ => 3
  | .tr _ _ => 1
  | .pm _ => 2
  | .gone c => c
  | .wait => 0

/-- An access that an engine cannot make now, or ever. -/
def engFault {α : Type} (d : Device) (va : Word64) (e : AccFault) : EngR α := if e = .wait then .wait else .fail (failCause e) va d

/-- The bytes that an engine accesses, once nothing keeps it from them: a page, a walk, a held line, a lost line or an owner that cannot be
reached. -/
def engReach (d : Device) (o : EngOp) (a : Acc) (va : Word64) (n : Nat) : EngR (Bytes × Device) :=
  match reach d o.core o.space a va n with
  | (.error e, d) => engFault d e.1 e.2
  | (.ok b, d) =>
    let load := a == .engRead
    if (linesOf b.keys).any d.lineHeld then .wait
    else
      match b.zipIdx.findSome? fun x => (d.gone load (x.1.2 / 128)).map fun c => (c, x.2) with
      | some (c, i) => .fail c (va + BitVec.ofNat 64 i) d
      | none => .ok (b, d)

/-- Whether a store or an atomic that the part of an operation committed before it has yet to reach its line: the reads of an engine see
what precedes its commit (11 R276). -/
def owesStores (d : Device) (o : EngOp) : Bool :=
  d.reqs.any fun x => decide (x.1 < o.order) && decide (x.2.wave = o.wave) && (x.2.after &&& o.after != 0) && x.2.performs &&
    x.2.accs.any fun a => !a.reached && (d.lostTo x.2 a).isNone

/-- An engine read of global memory: bytes and time, with no lease (11 R286). -/
def engRead (d : Device) (o : EngOp) (va : Word64) (n : Nat) : EngR (List Byte × Word64 × Device) :=
  if owesStores d o then .wait
  else
    match engReach d o .engRead va n with
    | .wait => .wait
    | .fail c va d => .fail c va d
    | .ok (b, d) => let x := d.readLines o.core o.c b.leaves; .ok (d.bytes b.keys, x.1, x.2)

/-- An engine write within one line of global memory, of those bytes that are given (11 R286; 10 R253, R259). -/
def engWrite (d : Device) (o : EngOp) (bank : Bool) (va : Word64) (b : List (Option Byte)) : EngR (Word64 × Device) :=
  match engReach d o (.engWrite bank) va b.length with
  | .wait => .wait
  | .fail c va d => .fail c va d
  | .ok (x, d) =>
    let kb := (x.keys.zip b).filterMap fun y => y.2.map fun v => (y.1, v)
    match x.lines with
    | (line, pg) :: _ =>
      .ok (if devLine line then d.storeAt line pg o.c (kb.map (·.1)) (kb.map (·.2))
        else d.farStore (some o.core) line o.c (kb.map (·.1)) (kb.map (·.2)))
    | [] => .ok (o.c, d)

/-- The time of a scratchpad access of an engine, which st takes (11 R286). -/
def spadTick (d : Device) (o : EngOp) : Word64 × Device :=
  match d.groups.get? o.group with
  | none => (o.c, d)
  | some g => let t := tmax d.pulse o.c g.st; (t, d.setGroup o.group { g with st := t })

/-- An engine read of the scratchpad: a byte outside the allotment reads as zero and is recorded (06 R171). -/
def engSpadRead (d : Device) (o : EngOp) (off : Int) (n : Nat) : EngR (List Byte × Word64 × Device) :=
  match d.groups.get? o.group with
  | none => .ok (List.replicate n 0, o.c, d)
  | some g =>
    let lo := off.toNat
    if 0 ≤ off && (d.stalls o.group o.order false [(lo, n)] || (d.laterRanges o.group o.order).any (overlap (granules lo n))) then .wait
    else
      let inside (i : Nat) : Bool := decide (0 ≤ off + i) && decide (off + i < g.size)
      let bytes := (List.range n).map fun i => if inside i then g.spad.get (off + i).toNat else 0
      let d := match (List.range n).find? fun i => !inside i with
        | some i => d.setGroup o.group (noteOob g (if off + i < 0 then 2 ^ 64 else (off + i).toNat))
        | none => d
      let t := spadTick d o
      .ok (bytes, t.1, t.2)

/-- Bytes of the scratchpad that are given, from an offset on, each with its offset. -/
def givenBytes (lo : Nat) (b : List (Option Byte)) : List (Nat × Byte) :=
  b.zipIdx.filterMap fun x => x.1.map fun v => (lo + x.2, v)

/-- Bytes of the scratchpad have been written, one stretch of them when none is left out. -/
def Device.wroteGiven (d : Device) (g lo : Nat) (b : List (Option Byte)) : Device :=
  if b.all (·.isSome) then d.wrote g lo b.length else (givenBytes lo b).foldl (fun d x => d.wrote g x.1 1) d

/-- An engine write within one granule of the scratchpad, of those bytes that are given: outside the allotment it is dropped and recorded
(06 R171). -/
def engSpadWrite (d : Device) (o : EngOp) (off : Int) (b : List (Option Byte)) : EngR (Word64 × Device) :=
  match d.groups.get? o.group with
  | none => .ok (o.c, d)
  | some g =>
    let lo := off.toNat
    if 0 ≤ off && d.stalls o.group o.order true [(lo, b.length)] then .wait
    else
      let t := spadTick d o
      let g := (t.2.groups.get? o.group).getD g
      if decide (0 ≤ off) && decide (lo + b.length ≤ g.size) then
        .ok (t.1, ((t.2.setGroup o.group { g with spad := g.spad.setAll (givenBytes lo b) }).wroteGiven o.group lo b).imagePad o.core o.group lo b.length)
      else .ok (t.1, t.2.setGroup o.group (noteOob g (if off < 0 then 2 ^ 64 else max lo g.size)))

/-! ## Finishing an operation -/

/-- Retires the ranges of an operation (10 R257). -/
def Device.retire (d : Device) (order : Nat) : Device :=
  { d with cores := d.cores.map fun c => (c.1, { c.2 with board := c.2.board.filter fun r => decide (r.op ≠ order) }) }

/-- An operation is over: its ranges retire, its batch keeps its time, and the launch's status word comes after it (06 R172, 11 R287). -/
def Device.endOp (d : Device) (o : EngOp) : Device :=
  let d := (d.retire o.order).launchNote o.wave o.time
  let d : Device := { d with ops := d.ops.del o.order }
  match d.liveWave o.wave o.gen with
  | some w =>
    let k := o.batch.toNat
    d.setWave o.wave { w with btimes := w.btimes.set k (tmax d.pulse (w.btimes.get k) o.time) }
  | none => d

/-- Counts bytes down at a barrier object an operation names. -/
def Device.countDown (d : Device) (o : EngOp) (n : Nat) (t : Word64) (bad : Bool) : Device :=
  match o.barrier with
  | none => d
  | some off =>
    (d.barEngine o.group off fun b => if bad then (b.count d.pulse n t).fail else b.count d.pulse n t).imagePad o.core o.group off 24

/-! ## Copies (06 R170, R171) -/

/-- Offsets that the outer dimensions give row `r`: source and destination. -/
def rowOff : List Dim → Nat → Int × Int
  | [], _ => (0, 0)
  | x :: l, r =>
    let y := rowOff l (r / x.n)
    ((r % x.n : Nat) * x.src + y.1, (r % x.n : Nat) * x.dst + y.2)

/-- A piece of a granule that comes from one row: where it reads and writes, and what it does to the bytes. -/
structure Piece where
  /-- Source is the scratchpad. -/
  srcS : Bool
  /-- Source offset or address. -/
  src : Int
  /-- Source bytes. -/
  srcN : Nat
  /-- Destination is the scratchpad. -/
  dstS : Bool
  /-- Destination offset or address. -/
  dst : Int
  /-- Bank-layout conversion. -/
  bank : Bool
  /-- Bytes of the converted elements to drop in front, and to keep. -/
  skip : Nat
  /-- Bytes written. -/
  len : Nat
  deriving DecidableEq, Repr

/-- Bytes from `x` to the end of its aligned 32-byte granule. -/
def toGranule (x : Int) : Nat := 32 - (x % 32).toNat

/-- The leaf of a bank-layout destination; one of another kind is refused (06 R170, 12 R296). -/
def bankDst (d : Device) (o : EngOp) (va : Word64) : EngR (Leaf × Device) :=
  match translate d .unit o.core o.space va with
  | (.error x, d) => engFault d va x
  | (.ok l, d) => if l.kind = 3 && l.w then .ok (l, d) else .fail 2 va d

/-- Row bytes of a copy with conv 2 to a leaf. -/
def bankRowBytes (x : List Word64) (l : Leaf) : Nat := rowData l.fmt ((dimsOf x).headD ⟨0, 0, 0⟩).n

/-- Rows of a copy. -/
def copyRows (x : List Word64) : Nat := countAll (dimsOf x).tail

/-- Destination bytes of a row of a copy with conv 0 or 1. -/
def copyRowBytes (x : List Word64) : Nat := ((dimsOf x).headD ⟨0, 0, 0⟩).n * dstElem x

/-- What a row of a copy with conv 0 or 1 gives to the granule that its next byte lies in. -/
def plainPiece (x : List Word64) (row pos : Nat) : Piece :=
  let r := rowOff (dimsOf x).tail row
  let dst := dstOf x + r.2 + pos
  let len := min (copyRowBytes x - pos) (toGranule dst)
  let e0 := pos / dstElem x
  let e1 := (pos + len - 1) / dstElem x
  ⟨sspOf x, srcOf x + r.1 + e0 * srcElem x, (e1 + 1 - e0) * srcElem x, dspOf x, dst, false, pos - e0 * dstElem x, len⟩

/-- Row and byte after a piece of a row of `n` bytes. -/
def stepRow (n row pos len : Nat) : Nat × Nat := if n ≤ pos + len then (row + 1, 0) else (row, pos + len)

/-- Whether the rows of a copy stand in their destination in ascending order, none over another: each outer stride is no less than what lies
inside it. -/
def orderly : List Dim → Int → Bool
  | [], _ => true
  | x :: l, n => decide (x.n ≤ 1 ∨ n ≤ x.dst) && orderly l (max n ((x.n - 1 : Nat) * x.dst + n))

/-- What a row of a copy with conv 0 or 1 gives to granule `k` of its destination, if anything. -/
def pieceIn (x : List Word64) (k : Int) (row : Nat) : Option Piece :=
  let dst := dstOf x + (rowOff (dimsOf x).tail row).2
  let pos := (32 * k - dst).toNat
  if decide (pos < copyRowBytes x) && decide ((dst + pos) / 32 = k) then some (plainPiece x row pos) else none

/-- The pieces of the granule that an orderly copy has reached, which rows that follow one another give, and the row and byte that come next. -/
def nearPieces (x : List Word64) (k : Int) : Nat → Nat → Nat → List Piece × Nat × Nat
  | 0, row, pos => ([], row, pos)
  | n + 1, row, pos =>
    let p := plainPiece x row pos
    if decide (row < copyRows x) && decide (p.dst / 32 = k) then
      let s := stepRow (copyRowBytes x) row pos p.len
      let r := nearPieces x k n s.1 s.2
      (p :: r.1, r.2)
    else ([], row, pos)

/-- The first row and byte from a place on whose granule no row before it has a part in, so that it is not yet written. -/
def skipGiven (x : List Word64) : Nat → Nat → Nat → Nat × Nat
  | 0, row, pos => (row, pos)
  | n + 1, row, pos =>
    let p := plainPiece x row pos
    if decide (row < copyRows x) && (List.range row).any fun r => (pieceIn x (p.dst / 32) r).isSome then
      let s := stepRow (copyRowBytes x) row pos p.len
      skipGiven x n s.1 s.2
    else (row, pos)

/-- The next granule of a copy with conv 0 or 1, with every row that has a part in it, so that it is written once and whole (06 R171). Gives the
row and byte that come next. -/
def plainGranule (x : List Word64) (row pos : Nat) : List Piece × Nat × Nat :=
  let k := (plainPiece x row pos).dst / 32
  if orderly (dimsOf x).tail (copyRowBytes x) then nearPieces x k 33 row pos
  else
    let s := stepRow (copyRowBytes x) row pos (plainPiece x row pos).len
    ((List.range (copyRows x - row)).filterMap fun i => pieceIn x k (row + i), skipGiven x (copyRows x * (copyRowBytes x / 32 + 2)) s.1 s.2)

/-- The next granule of a copy with conv 2, or why there is none (06 R170, 10 R265). -/
def bankGranule (d : Device) (o : EngOp) (x : List Word64) (row pos : Nat) : EngR ((List Piece × Nat × Nat) × Device) :=
  let w := dw x 1
  match bankDst d o w with
  | .wait => .wait
  | .fail c va d => .fail c va d
  | .ok (l, d) =>
    let c := ((dimsOf x).headD ⟨0, 0, 0⟩).n
    let b := rowStart l.fmt c row + pos
    let va := streamVa w row b
    if 2 ^ 36 < copyRows x * rowPitch l.fmt c then .fail 2 w d
    else
      match bankDst d o va with
      | .wait => .wait
      | .fail c va d => .fail c va d
      | .ok (m, d) =>
        if decide (m.fmt ≠ l.fmt) || decide (stackOf (m.phys va) ≠ stackOf (l.phys w)) then .fail 2 va d
        else
          let len := min (bankRowBytes x l - pos) (32 - pos % 32)
          let r := rowOff (dimsOf x).tail row
          .ok (([⟨sspOf x, srcOf x + r.1 + pos, len, false, va.toNat, true, 0, len⟩], stepRow (bankRowBytes x l) row pos len), d)

/-- The bytes a piece writes. -/
def cook (x : List Word64) (mode : Word64) (p : Piece) (b : List Byte) : List Byte :=
  if convOf x = 1 then
    let ty := typesOf x
    let rnd := if bits (dw x 2) 21 19 = 0 then bits mode 2 0 else bits (dw x 2) 21 19
    let es := (chunks (srcElem x) (p.srcN / srcElem x) b).map fun e => (convert ty.1 ty.2 rnd (bit (dw x 2) 22) false e).1
    (((es.map (leBytes (dstElem x))).flatten).drop p.skip).take p.len
  else b

/-- Reads the source of a piece. -/
def pieceRead (d : Device) (o : EngOp) (p : Piece) : EngR (List Byte × Word64 × Device) :=
  if p.srcS then engSpadRead d o p.src p.srcN else engRead d o (BitVec.ofInt 64 p.src) p.srcN

/-- Reads the pieces of a granule: its bytes, and the latest time. -/
def piecesRead (o : EngOp) (f : Piece → List Byte → List Byte) : List Piece → Device → EngR (List (Piece × List Byte) × Word64 × Device)
  | [], d => .ok ([], o.c, d)
  | p :: l, d =>
    match pieceRead d o p with
    | .wait => .wait
    | .fail c va d => .fail c va d
    | .ok r =>
      match piecesRead o f l r.2.2 with
      | .wait => .wait
      | .fail c va d => .fail c va d
      | .ok s => .ok ((p, f p r.1) :: s.1, tmax d.pulse r.2.1 s.2.1, s.2.2)

/-- First destination byte of some pieces. -/
def lowDst (l : List (Piece × List Byte)) : Int := l.foldl (fun n x => min n x.1.dst) ((l.head?.map (·.1.dst)).getD 0)

/-- The bytes that the pieces of a granule give, from the first of them on; where two give a byte, the later row does. -/
def overlay (l : List (Piece × List Byte)) : List (Option Byte) :=
  let lo := lowDst l
  l.foldl (fun r x =>
    let k := (x.1.dst - lo).toNat
    (r ++ List.replicate k none).take k ++ x.2.map some ++ r.drop (k + x.2.length)) []

/-- Moves one granule, which is written as a whole: its time is the later of its reads and its write (log entry 17). -/
def moveGranule (d : Device) (o : EngOp) (f : Piece → List Byte → List Byte) (ps : List Piece) : EngR (Word64 × Device) :=
  match piecesRead o f ps d, ps with
  | .wait, _ => .wait
  | .fail c va d, _ => .fail c va d
  | .ok _, [] => .wait
  | .ok r, p :: _ =>
    match (if p.dstS then engSpadWrite r.2.2 o (lowDst r.1) (overlay r.1) else engWrite r.2.2 o p.bank (BitVec.ofInt 64 (lowDst r.1)) (overlay r.1)) with
    | .wait => .wait
    | .fail c va d => .fail c va d
    | .ok w => .ok (tmax d.pulse r.2.1 w.1, w.2)

/-- The next granule of an operation, a copy's or of a PUTSIG's payload, and the row and byte after it. -/
def nextGranule (d : Device) (o : EngOp) : EngR ((List Piece × Nat × Nat) × Device) :=
  match o.kind with
  | .copy x => if convOf x = 2 then bankGranule d o x o.row o.pos else .ok (plainGranule x o.row o.pos, d)
  | .putsig x =>
    let dst : Int := (dw x 0 + BitVec.ofNat 64 o.pos).toNat
    let len := min (putsigN x - o.pos) (toGranule dst)
    .ok (([⟨true, (bits (dw x 4) 18 0 + o.pos : Nat), len, false, dst, false, 0, len⟩], 0, o.pos + len), d)
  | .gather _ => .wait

/-- What the bytes of a piece become. -/
def cookOp (o : EngOp) (p : Piece) (b : List Byte) : List Byte :=
  match o.kind with
  | .copy x => cook x o.mode p b
  | _ => b

/-- Bytes of the row that an operation has reached. -/
def rowBytesNow (d : Device) (o : EngOp) : Nat :=
  match o.kind with
  | .copy x =>
    if convOf x = 2 then (match bankDst d o (dw x 1) with | .ok l => bankRowBytes x l.1 | _ => 0) else copyRowBytes x
  | .putsig x => putsigN x
  | .gather _ => 0

/-- Rows of an operation. -/
def rowsOf (o : EngOp) : Nat :=
  match o.kind with
  | .copy x => copyRows x
  | _ => 1

/-- Whether an operation still has a granule to move. -/
def moreGranules (o : EngOp) : Bool :=
  match o.kind with
  | .copy _ => decide (o.row < rowsOf o)
  | .putsig x => decide (o.pos < putsigN x)
  | .gather _ => false

/-- Tries to move the next granule of an operation: its bytes, its time, the row and byte after it. -/
def tryGranule (d : Device) (o : EngOp) : EngR (Nat × Word64 × (Nat × Nat) × Device) :=
  if !moreGranules o then .wait
  else
    match nextGranule d o with
    | .wait => .wait
    | .fail c va d => .fail c va d
    | .ok (g, d) =>
      match moveGranule d o (cookOp o) g.1 with
      | .wait => .wait
      | .fail c va d => .fail c va d
      | .ok r => .ok ((g.1.map (·.len)).foldl (· + ·) 0, r.1, g.2, r.2)

/-- One granule of an operation, of some bytes at a time, is written and counted down; the last one of a copy ends it, and that of a PUTSIG's
payload retires the read range (06 R171, 10 R257). -/
def Device.tookGranule (o : EngOp) (n : Nat) (t : Word64) (at' : Nat × Nat) (d : Device) : Device :=
  let o' := { o with done := o.done + 1, counted := o.counted + n, time := tmax d.pulse o.time t, row := at'.1, pos := at'.2, port := none, sent := none }
  let d := (d.countDown o n t false).transientOn o.port
  let d : Device := { d with ops := d.ops.set o.order o' }
  if moreGranules o' then d
  else (match o.kind with
    | .copy _ => d.endOp o'
    | _ => d.retire o.order)

/-- COPY_GRANULE: the next granule of an operation is written (06 R171). -/
def Device.copyGranule (d : Device) (id : Nat) : Device :=
  match d.ops.get? id with
  | none => d
  | some o =>
    if d.clk.cycle < o.ready then d
    else
      match tryGranule d o with
      | .ok (n, t, at', d') => d'.tookGranule o n t at'
      | _ => d

/-- Destination bytes that a copy has not written; a row whose destination gives no format has a free size (log entry 18). -/
def bytesLeft (d : Device) (o : EngOp) : Nat :=
  match o.kind with
  | .copy x =>
    let row := match rowBytesNow d o with
      | 0 => Config.rowBytes ((dimsOf x).headD ⟨0, 0, 0⟩).n
      | n => n
    copyRows x * row - o.counted
  | _ => 0

/-- The position and failure that a failed item leaves for the WAITB that covers it (06 R173). -/
def Device.failOp (d : Device) (o : EngOp) (cause : Nat) (va : Word64) : Device :=
  let d := (d.countDown o (bytesLeft d o) o.c true).endOp o
  match d.liveWave o.wave o.gen with
  | some w => d.setWave o.wave { w with failures := w.failures ++ [⟨o.batch, o.order, cause, va, o.done, o.hdrAt⟩] }
  | none => d

/-- PUTSIG's signal address and the device it names, against the destination's (06 R175). -/
def sigKind (d : Device) (o : EngOp) (va : Word64) : Option Nat :=
  (peek d o.core o.space va).map fun l =>
    match l.kind with
    | 1 => 1000 + l.phys va / 2 ^ 40 % 128
    | 2 => 2
    | _ => 0

/-- The device that a kind and physical address name: this one under its own span index too. -/
def sameDevice (d : Device) (a b : Nat) : Bool :=
  let own (x : Nat) : Nat := if x = 1000 + d.spanIndex then 0 else x
  decide (own a = own b)

/-- PUTSIG_SIGNAL: after the whole payload the signal is written or added to (06 R175; 11 R286). A destination and a signal of different devices
fail here with cause 2 at the signal's address, by the device of the payload's first byte, and a signal that adds needs a page that permits
both reading and writing: the manual gives neither, and both are the model's choice (log entry 96). -/
def trySignal (d : Device) (o : EngOp) (x : List Word64) : EngR (Word64 × Device) :=
  if o.pos < putsigN x then .wait
  else
    match sigKind d o (dw x 0), sigKind d o (dw x 1) with
    | some a, some b =>
      if !sameDevice d a b then .fail 2 (dw x 1) d
      else
        let o1 := { o with c := o.time }
        if bit (dw x 3) 25 then
          match engRead d o1 (dw x 1) 8 with
          | .wait => .wait
          | .fail c va d => .fail c va d
          | .ok r => engWrite r.2.2 o1 false (dw x 1) ((leBytes 8 (leNat r.1 + (dw x 2).toNat)).map some)
        else engWrite d o1 false (dw x 1) ((leBytes 8 (dw x 2).toNat).map some)
    | _, _ => .fail 1 (dw x 1) d

/-- Performs a signal whose turn it is. -/
def Device.putSignal (d : Device) (id : Nat) : Device :=
  match d.ops.get? id with
  | none => d
  | some o =>
    match o.kind with
    | .putsig x =>
      match trySignal d o x with
      | .ok r => (r.2.transientOn o.port).endOp { o with time := tmax d.pulse o.time r.1 }
      | _ => d
    | _ => d

/-- Why an operation cannot go on: failure cause and address, and the device with what its lookups have left (12 R297, R298). -/
def opFailure (d : Device) (o : EngOp) : Option (Nat × Word64 × Device) :=
  match tryGranule d o with
  | .fail c va d => some (c, va, d)
  | .ok _ => none
  | .wait =>
    match o.kind with
    | .putsig x => match trySignal d o x with | .fail c va d => some (c, va, d) | _ => none
    | _ => none

/-- COPY_FAILURE: an operation that meets a lasting fault ends (06 R173). -/
def Device.copyFailure (d : Device) (id cause : Nat) : Device :=
  match d.ops.get? id with
  | none => d
  | some o =>
    match opFailure d o with
    | some (c, va, e) => if c = cause then e.failOp o c va else d
    | none => d

/-! ## Gathers (06 R174) -/

/-- Address of element `i`, or none while the index list waits. -/
def gatherVa (d : Device) (o : EngOp) (x : List Word64) (i : Nat) : EngR (Word64 × Device) :=
  match engSpadRead d o (gatherArea x 0 + i * gatherIdx x : Nat) (gatherIdx x) with
  | .wait => .wait
  | .fail c va d => .fail c va d
  | .ok r =>
    let v := sextNat (8 * gatherIdx x) (leNat r.1)
    .ok (dw x 0 + BitVec.ofInt 64 (v * (2 ^ bits (dw x 1) 40 37 : Nat)), r.2.2)

/-- The bytes and time of an element. -/
def gatherRead (d : Device) (o : EngOp) (x : List Word64) : EngR (List Byte × Word64 × Device) :=
  match gatherVa d o x o.done with
  | .wait => .wait
  | .fail c va d => .fail c va d
  | .ok a => engRead a.2 o a.1 (gatherSize x)

/-- Writes an element granule by granule and counts each one down; stops where one must wait. -/
def gatherWrite (o : EngOp) (t : Word64) (bad : Bool) : List (Nat × List Byte) → Word64 × Device → EngR (Word64 × Device)
  | [], r => .ok r
  | (off, b) :: l, r =>
    match engSpadWrite r.2 o off (b.map some) with
    | .wait => .wait
    | .fail c va d => .fail c va d
    | .ok w =>
      let g := tmax r.2.pulse t w.1
      gatherWrite o t bad l (tmax r.2.pulse r.1 g, w.2.countDown o b.length g bad)

/-- Bytes cut at multiples of 32. -/
def cut32 (off : Nat) (b : List Byte) : List (Nat × List Byte) :=
  (pieces 32 (BitVec.ofNat 64 off) b.length).map fun x => (x.1.toNat, (b.drop (x.1.toNat - off)).take x.2)

/-- Sets or clears a status bit. -/
def gatherStatus (d : Device) (o : EngOp) (x : List Word64) (i : Nat) (ok : Bool) : Device :=
  let off := gatherArea x 2 + i / 8
  match d.groups.get? o.group with
  | none => d
  | some g =>
    let b := putBits (g.spad.get off) (i % 8) (i % 8) (b2n ok)
    ((d.setGroup o.group (spadPut g off [b])).wrote o.group off 1).imagePad o.core o.group off 1

/-- Completes the element that a gather has reached, with its data or zero-filled. -/
def gatherPut (d : Device) (o : EngOp) (x : List Word64) (b : List Byte) (t : Word64) (ok : Bool) : EngR Device :=
  if d.stalls o.group o.order true [(gatherArea x 2 + o.done / 8, 1)] then .wait
  else
    match gatherWrite o t (!ok) (cut32 (gatherArea x 1 + o.done * gatherSize x) b) (o.time, d) with
    | .wait => .wait
    | .fail c va d => .fail c va d
    | .ok r =>
      let d := gatherStatus r.2 o x o.done ok
      let o' := { o with done := o.done + 1, time := tmax d.pulse o.time r.1, port := none, sent := none }
      let d : Device := { if ok then d.transientOn o.port else d with ops := d.ops.set o.order o' }
      .ok (if o'.done < gatherN x then d else d.endOp o')

/-- An element fails: it is zero-filled, with status 0 and the barrier's error set (06 R174). -/
def gatherFail (d : Device) (o : EngOp) (x : List Word64) : EngR Device :=
  gatherPut d o x (List.replicate (gatherSize x) 0) o.c false

/-- GATHER_ELEMENT: an element is written with status 1, or fails (06 R174). -/
def Device.gatherElement (d : Device) (id : Nat) (ok : Bool) : Device :=
  match d.ops.get? id with
  | none => d
  | some o =>
    match o.kind with
    | .gather x =>
      if decide (gatherN x ≤ o.done) || decide (d.clk.cycle < o.ready) then d
      else
        let r : EngR Device := match gatherRead d o x with
          | .wait => .wait
          | .ok r => if ok then gatherPut r.2.2 o x r.1 r.2.1 true else .wait
          | .fail _ _ e => if ok then .wait else gatherFail e o x
        (match r with
          | .ok d' => d'
          | _ => d)
    | _ => d

/-! ## What a clause that commits has its engines do -/

/-- The next thing that an operation does, or none while it waits. -/
def Device.opStep (d : Device) (id : Nat) : Option Device :=
  match d.ops.get? id with
  | none => none
  | some o =>
    match o.kind with
    | .gather x =>
      let r : EngR Device := match gatherRead d o x with
        | .wait => .wait
        | .ok r => gatherPut r.2.2 o x r.1 r.2.1 true
        | .fail _ _ e => gatherFail e o x
      (match r with
        | .ok d' => some d'
        | _ => none)
    | _ =>
      match tryGranule d o with
      | .ok (n, t, at', d') => some (d'.tookGranule o n t at')
      | .fail c va e => some (e.failOp o c va)
      | .wait => none

/-! ## What a link may fail (13 R324) -/

/-- The first line of another device of the span among those of a range. -/
def spanLine (d : Device) (o : EngOp) (va : Word64) (n : Nat) : Option (Nat × Word64) :=
  (pieces 128 va n).findSome? fun x => (peek d o.core o.space x.1).bind fun l =>
    let line := l.key x.1 / 128
    if l.kind = 1 && !d.ownKey (line * 128) then some (line, x.1) else none

/-- The line of another device that the present item of an operation reaches, with its address. -/
def opSpan (d : Device) (o : EngOp) : Option (Nat × Word64) :=
  let far (p : Piece) : Option (Nat × Word64) :=
    (if p.srcS then none else spanLine d o (BitVec.ofInt 64 p.src) p.srcN).orElse fun _ =>
      if p.dstS then none else spanLine d o (BitVec.ofInt 64 p.dst) p.len
  match o.kind with
  | .gather x => if o.done < gatherN x then (match gatherVa d o x o.done with | .ok a => spanLine d o a.1 (gatherSize x) | _ => none) else none
  | .copy _ => (match nextGranule d o with | .ok g => g.1.1.findSome? far | _ => none)
  | .putsig x =>
    if moreGranules o then (match nextGranule d o with | .ok g => g.1.1.findSome? far | _ => none) else spanLine d o (dw x 1) 8

/-- The present item of an operation, at an address, fails for good on its link: cause 4. -/
def Device.linkFailOp (d : Device) (o : EngOp) (va : Word64) : Device :=
  match o.kind with
  | .gather x => (match gatherFail d o x with | .ok d' => d' | _ => d)
  | _ => d.failOp o 4 va

/-- COPY_GRANULE: operand op. -/
def evCopyGranule (s : State) : Out := .next { s with dev := s.dev.copyGranule (s.arg.getD 0 0) }

/-- COPY_FAILURE: operands op, cause. -/
def evCopyFailure (s : State) : Out := .next { s with dev := s.dev.copyFailure (s.arg.getD 0 0) (s.arg.getD 1 0) }

/-- GATHER_ELEMENT: operands op, ok. -/
def evGatherElement (s : State) : Out := .next { s with dev := s.dev.gatherElement (s.arg.getD 0 0) (decide (s.arg.getD 1 0 ≠ 0)) }

/-- PUTSIG_SIGNAL: operand op. -/
def evPutsigSignal (s : State) : Out := .next { s with dev := s.dev.putSignal (s.arg.getD 0 0) }

/-! ## Meanings -/

/-- COPY_GRANULE (R171): The copy engine writes one aligned 32-byte granule of a copy, gather or PUTSIG payload and counts down any named barrier. -/
def execCopyGranule (s : State) : Out :=
  evCopyGranule s

/-- COPY_FAILURE (R173): A copy or PUTSIG meets a lasting fault, writes no further granule, records its progress and counts down its barrier with error. -/
def execCopyFailure (s : State) : Out :=
  evCopyFailure s

/-- GATHER_ELEMENT (R174): The gather engine completes or fails one element, writing it or zero-filling it and setting its status bit. -/
def execGatherElement (s : State) : Out :=
  evGatherElement s

/-- PUTSIG_SIGNAL (R175): After every payload granule is written, the PUTSIG signal word is written or added to. -/
def execPutsigSignal (s : State) : Out :=
  evPutsigSignal s

end Sys2Proof.Machine
end

