-- ==== Sys2Proof/Machine/ScratchOps.lean ====
section
/-! DEFINITION. Scratchpad accesses of a part: what they wait for, their time, descriptors, LDL, STL and ATOML (06 R160 to R163, R169;
11 R274, R286). -/

namespace Sys2Proof.Machine

/-! ## What precedes an access in its own clause (06 R165, 11 R272) -/

/-- An engine moves what a scoped atomic of the clause that commits waits for: the payload of a PUTSIG of the same clause, and what that waits for in
turn. The clause's operations, from `first` on, leave with it, and their speed is free (06 R165; log entry 79). -/
def Device.payNext (d : Device) (w : Nat) (q : BitVec 16) (first : Nat) : Option Device :=
  let own := d.ops.filter fun x => decide (first ≤ x.1) && decide (x.2.wave = w) && (x.2.after &&& q != 0)
  if (d.earlier w q).any fun x => decide (first ≤ x.1) && d.unreturned x.2 && own.any fun y => decide (y.1 < x.1) && owesFar d y.2 then
    own.findSome? fun x => d.opStep x.1
  else none

/-- Serves the pending accesses in whose program order a part of some quads of a wave stands, oldest first, until none is left or all must wait. -/
def Device.drain (w : Nat) (q : BitVec 16) (first : Nat) : Nat → Device → Device
  | 0, d => d
  | n + 1, d =>
    match (d.serveNext w q first).orElse fun _ => d.payNext w q first with
    | some d' => drain w q first n d'
    | none => d

/-- No clause has more accesses, granules and elements than this. -/
def drainFuel : Nat := 2 ^ 40

/-- The pass after what precedes its part's next access has been done as far as it can be, unless nothing is left of it. -/
def Spec.drained (p : Spec) (idle : Spec → Bool) : Spec :=
  if idle p then p else p.on (Device.drain p.wid p.prt.quads p.first drainFuel)

/-! ## Time (11 R286) -/

/-- Serves what the part has committed earlier, then times a scratchpad access: the larger of pts and st, which both take (06 R165; 11 R274,
R286). The clause is held while an earlier access of device memory is not timed, or an earlier scoped atomic has not returned. -/
def Spec.spadTime (p : Spec) : Spec :=
  let idle (p : Spec) : Bool := (p.dev.beforeSpad p.wid p.prt.quads).isEmpty
  let p := p.drained idle
  let p := if idle p then p else p.holdFor .line
  let k := p.dev.pulse
  let t := tmax k (tmax k p.prt.pts p.prt.owed) p.grp.st
  { p with grp := { p.grp with st := t }, prt := { p.prt with pts := t } }

/-! ## Descriptors (06 R169) -/

/-- Checks that a descriptor of `n` bytes is aligned and lies in the allotment, waits for live write ranges over it, and reads
its dwords. -/
def Spec.desc (p : Spec) (off align n : Nat) (k : List Word64 → Spec → Res) : Res :=
  if decide (off % align ≠ 0) || decide (p.grp.size < off + n) then .error illegalTrap
  else p.onBoard false [(off, n)] fun p =>
    k ((List.range (n / 8)).map fun i => BitVec.ofNat 64 (spadNat p.grp (off + 8 * i) 8)) p.spadTime

/-! ## LDL, STL, ATOML (06 R160 to R163) -/

/-- Offset of a lane's element (06 R160). -/
def ldlOff (p : Spec) (a imm size l : Nat) : Nat := (p.vreg a l).toNat + imm * sizeBytes size

/-- The offsets of the active lanes that lie in the allotment, as byte ranges. -/
def laneRanges (p : Spec) (n : Nat) (off : Nat → Nat) : List (Nat × Nat) :=
  (p.act.filter fun l => inSpad p.grp (off l) n).map fun l => (off l, n)

/-- A served access of a lane, holding what it returns. -/
def servedAcc (l : Nat) (b : List Byte) : Access := ⟨l, 0, [], 0, 0, false, b, [], true, 0, none, false, false, none, none⟩

/-- LDL (06 R160): a load that zeroes the spin count and loads no line of memory, so that the spin line stays (09 R236). -/
def opLdl (imm size a d : Nat) (f : Bool) (p : Spec) : Res :=
  if p.act.isEmpty then .ok p
  else
    let n := sizeBytes size
    let off := ldlOff p a imm size
    let q := (p.board false (laneRanges p n off)).spadTime
    let r := p.act.foldl (fun (x : List Access × Group) l =>
      let y := spadRead x.2 (off l) n
      (x.1 ++ [servedAcc l y.1], y.2)) ([], q.grp)
    let q := { q with prt := { q.prt with spin := 0, spinFrom := q.dev.nextId } }
    .ok (({ q with grp := r.2 }.longDst true d (vregsOf size)).addReq (.lload d size) p.actQuads (some f) r.1)

/-- STL: lanes in ascending order (06 R160, R162). -/
def opStl (imm size a s : Nat) (p : Spec) : Res :=
  if p.act.isEmpty then .ok p
  else
    let n := sizeBytes size
    let off := ldlOff p a imm size
    let rs := laneRanges p n off
    let q := ((p.board true rs).spadTime).keepFor rs
    let g := p.act.foldl (fun g l => spadWrite g (off l) (leBytes n (p.vwide s l (vregsOf size)))) q.grp
    .ok (({ q with grp := g }.wrote rs).endSpin true)

/-- ATOML: lanes in ascending order, each returning the word as it stood before its operation (06 R163, 02 R71). -/
def opAtoml (op b a d : Nat) (f : Bool) (p : Spec) : Res :=
  if p.act.isEmpty then .ok p
  else
    let off (l : Nat) : Nat := (p.vreg a l).toNat
    let rs := laneRanges p 4 off
    let q := ((p.board true rs).spadTime).keepFor rs
    let r := p.act.foldl (fun (x : List Access × Group) l =>
      let y := spadRead x.2 (off l) 4
      let new := atomNew (atomlOp op) 32 (leNat y.1) (p.vreg b l).toNat (if op = 7 then (p.vreg (b + 1) l).toNat else 0)
      (x.1 ++ [servedAcc l y.1], spadWrite y.2 (off l) (leBytes 4 new))) ([], q.grp)
    .ok (((({ q with grp := r.2 }.wrote rs).longDst true d 1).addReq (.latom d) p.actQuads (some f) r.1).endSpin true)

/-! ## Meanings -/

/-- LDL (R160). -/
def execLdl (fi : BitVec 7) (fz : BitVec 3) (fa : BitVec 7) (fd : BitVec 7) (ff : BitVec 1) (s : State) : Out :=
  issue (.ldl fi fz fa fd ff) s (opLdl fi.toNat fz.toNat fa.toNat fd.toNat (decide (ff = 1)))

/-- STL (R160). -/
def execStl (fi : BitVec 7) (fz : BitVec 3) (fa : BitVec 7) (fs : BitVec 7) (s : State) : Out :=
  issue (.stl fi fz fa fs) s (opStl fi.toNat fz.toNat fa.toNat fs.toNat)

/-- ATOML (R163). -/
def execAtoml (fo : BitVec 3) (fb : BitVec 7) (fa : BitVec 7) (fd : BitVec 7) (ff : BitVec 1) (s : State) : Out :=
  issue (.atoml fo fb fa fd ff) s (opAtoml fo.toNat fb.toNat fa.toNat fd.toNat (decide (ff = 1)))

end Sys2Proof.Machine
end

