-- ==== Sys2Proof/Machine/EngineOps.lean ====
section
/-! DEFINITION. Fences, batches, and the start of copies, gathers and PUTSIGs: what enters the front end and the range scoreboard
(06 R167 to R175; 10 R257). -/

namespace Sys2Proof.Machine

/-! ## Fences (06 R167, R168; 11 R278) -/

/-- FENCE. Scopes 0 to 8 wait for nothing; an acquire makes later far loads use copies filled from now on (10 R259). -/
def opFence (kind scope : Nat) (p : Spec) : Res :=
  if scope < 9 then .ok p
  else p.waitFor (.fence kind) fun p =>
    .ok (if kind = 1 then p else { p with prt := { p.prt with acquired := p.dev.clk.ns } })

/-- BFENCE: waits for older bank products and raises pts past their output (06 R168). -/
def opBfence (p : Spec) : Res :=
  p.waitFor .bfence fun p => .ok { p with prt := { p.prt with pts := tmax p.dev.pulse p.prt.pts p.prt.bmvTime } }

/-! ### Starting an operation (06 R171, R172) -/

/-- Puts an operation in flight: it joins the open batch, and its ranges enter the scoreboard. -/
def Spec.start (p : Spec) (kind : EngKind) (barrier : Option Nat) (ranges : List (Bool × (Nat × Nat))) : Spec :=
  let id := p.dev.nextId
  let o : EngOp := { wave := p.wid, gen := p.wav.gen, quads := p.prt.quads, after := p.prt.quads, group := p.gid, core := p.wav.core, space := p.space,
                     batch := p.wav.batch + 1, order := id, barrier := barrier, kind := kind, mode := p.prt.mode, c := p.prt.pts,
                     done := 0, counted := 0, row := 0, pos := 0, time := p.prt.pts, hdrAt := p.prt.pc, port := none, sent := none, ready := arrival p.dev }
  let c := p.dev.core p.wav.core
  let rs : List Range := ranges.map fun r => ⟨id, p.gid, r.1, r.2.1, r.2.2⟩
  let d := p.dev.setCore p.wav.core { c with board := c.board ++ rs }
  ({ p with dev := { d with ops := d.ops.set id o, nextId := id + 1 } }).endSpin false

/-- Starts an operation when the front end and the scoreboard have room (06 R171). -/
def Spec.startIf (p : Spec) (kind : EngKind) (barrier : Option Nat) (ranges : List (Bool × (Nat × Nat))) : Res :=
  if decide (p.dev.frontCount p.wav.core < Config.frontEnd) &&
      decide ((p.dev.core p.wav.core).board.length + ranges.length ≤ Config.boardEntries) then
    .ok (p.start kind barrier ranges)
  else .ok (p.holdFor .copyFull)

/-- The barrier object that an operation counts down (06 R169). -/
def barrierOf (p : Spec) (bv : Bool) (sb : Nat) : Option Nat := if bv then some (p.sreg sb).toNat else none

/-- TCOPY: an empty copy is complete at once (06 R170, R171). -/
def opTcopy (bv : Bool) (sb sa : Nat) (p : Spec) : Res :=
  let off := (p.sreg sa).toNat
  p.desc off 64 64 fun x p =>
    p.desc off 64 (64 + 24 * (bits (dw x 2) 3 0 + 1)) fun x p =>
      if !copyLegal x then .error illegalTrap
      else if countAll (dimsOf x) = 0 then .ok (p.endSpin false)
      else p.startIf (.copy x) (barrierOf p bv sb) (copyRanges p.grp.size x)

/-- GATHER: index list, destination and bitmap enter the scoreboard (06 R174). -/
def opGather (bv : Bool) (sb sa : Nat) (p : Spec) : Res :=
  p.desc (p.sreg sa).toNat 64 64 fun x p =>
    if !gatherLegal p.grp.size x then .error illegalTrap
    else
      let n := gatherN x
      p.startIf (.gather x) (barrierOf p bv sb)
        [(false, granules (gatherArea x 0) (n * gatherIdx x)), (true, granules (gatherArea x 1) (n * gatherSize x)),
          (true, granules (gatherArea x 2) ((n + 7) / 8))]

/-- PUTSIG: its source enters the scoreboard as a read range, as a copy's does (06 R171, R175). -/
def opPutsig (sa : Nat) (p : Spec) : Res :=
  p.desc (p.sreg sa).toNat 64 64 fun x p =>
    if !putsigLegal x then .error illegalTrap
    else p.startIf (.putsig x) none [(false, bound p.grp.size (bits (dw x 4) 18 0 : Nat) [] (putsigN x))]

/-! ## Batches (06 R172, R173) -/

/-- SEAL: closes the open batch. -/
def opSeal (d : Nat) (p : Spec) : Res :=
  let n := p.wav.batch + 1
  .ok (({ p with wav := { p.wav with batch := n } }).setS false d (n.setWidth 64))

/-- The unreported failure that committed first among the batches that WAITB of batch `n` covers (06 R173). -/
def coveredFailure (w : Wave) (n : Word32) : Option Failure :=
  (w.failures.filter fun f => decide (0 ≤ (n - f.batch).toInt)).foldl
    (fun r f => match r with
      | none => some f
      | some g => if f.order < g.order then some f else some g) none

/-- The trap of a batch failure: cause 0x0C (12 R301, R305). -/
def batchTrap (f : Failure) : TrapInfo :=
  { trapOf 12 f.cause 0 0 f.va with granules := f.granules, batch := f.batch.toNat, second := some f.pos, order := f.order }

/-- Largest granule time of the batches that WAITB of batch `n` covers. -/
def batchTime (k : Nat) (w : Wave) (n : Word32) (t : Word64) : Word64 :=
  w.btimes.foldl (fun t x => if (n - BitVec.ofNat 32 x.1).toInt < 0 then t else tmax k t x.2) t

/-- WAITB: a number above the last sealed batch is illegal; it waits for its batches, traps for the first failure not yet
reported, and otherwise raises pts past their granules (06 R172, R173; 11 R286). -/
def opWaitb (a : Nat) (p : Spec) : Res :=
  let n : Word32 := (p.sreg a).setWidth 32
  if (p.wav.batch - n).toInt < 0 then .error illegalTrap
  else p.waitFor (.waitb n) fun p =>
    match coveredFailure p.wav n with
    | some f => .error (batchTrap f)
    | none => .ok { p with prt := { p.prt with pts := batchTime p.dev.pulse p.wav n p.prt.pts } }

/-! ## Meanings -/

/-- FENCE (R167). -/
def execFence (fk : BitVec 2) (fs : BitVec 4) (s : State) : Out :=
  issue (.fence fk fs) s (opFence fk.toNat fs.toNat)

/-- BFENCE (R168). -/
def execBfence (s : State) : Out :=
  issue .bfence s (opBfence)

/-- TCOPY (R170). -/
def execTcopy (fv : BitVec 1) (fb : BitVec 6) (fa : BitVec 6) (s : State) : Out :=
  issue (.tcopy fv fb fa) s (opTcopy (decide (fv = 1)) fb.toNat fa.toNat)

/-- SEAL (R172). -/
def execSealBatch (fd : BitVec 6) (s : State) : Out :=
  issue (.sealBatch fd) s (opSeal fd.toNat)

/-- WAITB (R172). -/
def execWaitb (fa : BitVec 6) (s : State) : Out :=
  issue (.waitb fa) s (opWaitb fa.toNat)

/-- GATHER (R174). -/
def execGather (fv : BitVec 1) (fb : BitVec 6) (fa : BitVec 6) (s : State) : Out :=
  issue (.gather fv fb fa) s (opGather (decide (fv = 1)) fb.toNat fa.toNat)

/-- PUTSIG (R175). -/
def execPutsig (fa : BitVec 6) (s : State) : Out :=
  issue (.putsig fa) s (opPutsig fa.toNat)

end Sys2Proof.Machine
end

