-- ==== Sys2Proof/Machine/BarrierOps.lean ====
section
/-! DEFINITION. The barrier instructions and GBAR (06 R179, R180). -/

namespace Sys2Proof.Machine

/-! ## Instructions (06 R179) -/

/-- A barrier instruction on the object at s[sa]: legality, range scoreboard, time. `res` says that it has a result, which later slots may read. -/
def Spec.bar (res : Bool) (p : Spec) (a : Nat) (k : Nat → Spec → Res) : Res :=
  let off := (p.sreg a).toNat
  if !barOk p.grp off then .error illegalTrap
  else (if res then p.stopUntil else p.waitFor) (.board true [(off, 32)]) fun p => k off (p.spadTime.endSpin false)

/-- Stores an updated object. -/
def Spec.putBar (p : Spec) (off : Nat) (b : Bar) : Spec :=
  let p := p.keepFor [(off, 32)]
  ({ p with grp := barPut (p.dev.pipesOf p.grp) p.grp off b }).wrote [(off, 32)]

/-- BARINIT. -/
def opBarinit (b a : Nat) (p : Spec) : Res :=
  let e := bits (p.sreg b) 19 0
  if e = 0 then .error illegalTrap
  else p.bar false a fun off p =>
    let p := p.keepFor [(off, 32)]
    let g := spadPut p.grp off (leBytes 8 (e * 2 ^ 20 + e) ++ leBytes 8 0 ++ leBytes 8 0 ++ leBytes 8 0)
    .ok (({ p with grp := g }).wrote [(off, 32)])

/-- BARARR: returns the phase before the arrival. -/
def opBararr (d a : Nat) (p : Spec) : Res :=
  p.bar true a fun off p =>
    let x := barAt p.grp off
    .ok ((p.putBar off (x.arrive p.dev.pulse p.prt.pts)).setS false d (if x.phase then 1 else 0))

/-- BARTX. -/
def opBartx (b a : Nat) (p : Spec) : Res :=
  let n : Word64 := ((p.sreg b).setWidth 32).setWidth 64
  p.bar false a fun off p =>
    let x := barAt p.grp off
    .ok (p.putBar off { x with w1 := x.w1 + n })

/-- BARWAIT: an arrival of the same clause counts as made, and the clause is tried again each cycle (log entry 20). -/
def opBarwait (b a : Nat) (p : Spec) : Res :=
  let ph := bit (p.sreg b) 0
  p.bar false a fun off p =>
    let x := barAt p.grp off
    if x.phase != ph then .ok { p with prt := { p.prt with pts := tmax p.dev.pulse p.prt.pts x.w2 } }
    else .ok (p.holdFor (.barwait off ph (decide ((p.dev.groups.get? p.gid).map (barAt · off) ≠ some x))))

/-- BARTRY. -/
def opBartry (d b a : Nat) (p : Spec) : Res :=
  let ph := bit (p.sreg b) 0
  p.bar true a fun off p =>
    let x := barAt p.grp off
    let hit := x.phase != ph
    let p := if hit then { p with prt := { p.prt with pts := tmax p.dev.pulse p.prt.pts x.w2 } } else p
    .ok (p.setS false d (BitVec.ofNat 64 (2 * b2n x.err + b2n hit)))

/-! ## The set barrier (06 R180) -/

/-- GBAR: a wave that is not in the set is illegal; the clause is held until the set is released. -/
def opGbar (k : Nat) (p : Spec) : Res :=
  if !inSet (p.dev.setsOf p.wav.launch) k p.grp.index p.wav.index then .error illegalTrap
  else p.waitFor (.gbar k) fun p =>
    let t := (p.prt.gbarGo.find? fun x => decide (x.1 = k)).map (·.2)
    .ok { p with prt := { p.prt with pts := tmax p.dev.pulse p.prt.pts (t.getD p.prt.pts), spin := 0, spinFrom := p.dev.nextId } }

/-! ## Meanings -/

/-- BARINIT (R179). -/
def execBarinit (fb : BitVec 6) (fa : BitVec 6) (s : State) : Out :=
  issue (.barinit fb fa) s (opBarinit fb.toNat fa.toNat)

/-- BARARR (R179). -/
def execBararr (fd : BitVec 6) (fa : BitVec 6) (s : State) : Out :=
  issue (.bararr fd fa) s (opBararr fd.toNat fa.toNat)

/-- BARTX (R179). -/
def execBartx (fb : BitVec 6) (fa : BitVec 6) (s : State) : Out :=
  issue (.bartx fb fa) s (opBartx fb.toNat fa.toNat)

/-- BARWAIT (R179). -/
def execBarwait (fb : BitVec 6) (fa : BitVec 6) (s : State) : Out :=
  issue (.barwait fb fa) s (opBarwait fb.toNat fa.toNat)

/-- BARTRY (R179). -/
def execBartry (fd : BitVec 6) (fb : BitVec 6) (fa : BitVec 6) (s : State) : Out :=
  issue (.bartry fd fb fa) s (opBartry fd.toNat fb.toNat fa.toNat)

/-- GBAR (R180). -/
def execGbar (fs : BitVec 8) (s : State) : Out :=
  issue (.gbar fs) s (opGbar fs.toNat)

end Sys2Proof.Machine
end

