-- ==== Sys2Proof/Machine/BankOps.lean ====
section
/-! DEFINITION. BMV, BMVACC and BSTAT (06 R181 to R184). -/

namespace Sys2Proof.Machine

/-- BMV and BMVACC: dispatched with their flag raised in every quad of the part (06 R181). -/
def opBmv (acc : Bool) (a : Nat) (f : Bool) (p : Spec) : Res :=
  p.desc (p.sreg a).toNat 64 64 fun x p =>
    if !bmvLegal x then .error illegalTrap
    else p.waitFor .bmvLimit fun p =>
      let o : BmvOp := { wave := p.wid, gen := p.wav.gen, quads := p.prt.quads, after := p.prt.quads, flag := some (p.flagField f), space := p.space,
                         core := p.wav.core, acc := acc, desc := x, c := p.prt.pts, x := none, held := [], parked := [],
                         status := [], allFail := none, fe := false, ready := arrival p.dev }
      .ok (({ p with dev := { p.dev with bmvs := p.dev.bmvs.set p.dev.nextId o, nextId := p.dev.nextId + 1 } }).raise f p.prt.quads)

/-- BSTAT. -/
def opBstat (a dst : Nat) (f : Bool) (p : Spec) : Res :=
  let v := p.sreg a
  let stack := bits v 3 0
  let unit := bits v 9 4
  if 12 ≤ stack then .error illegalTrap
  else
    let u := p.dev.banks.getD (stack * 64 + unit) BankUnit.reset
    let r := b2n u.retired * 2 ^ 63 + p.dev.queued stack unit * 2 ^ 32 + u.completed.toNat
    .ok ((p.longDst false dst 1).addReq (.sres dst) p.prt.quads (some f) [servedAcc 64 (leBytes 8 r)])

/-! ## Meanings -/

/-- BMV (R183). -/
def execBmv (ff : BitVec 1) (fa : BitVec 6) (s : State) : Out :=
  issue (.bmv ff fa) s (opBmv false fa.toNat (decide (ff = 1)))

/-- BMVACC (R183). -/
def execBmvacc (ff : BitVec 1) (fa : BitVec 6) (s : State) : Out :=
  issue (.bmvacc ff fa) s (opBmv true fa.toNat (decide (ff = 1)))

/-- BSTAT (R184). -/
def execBstat (ff : BitVec 1) (fa : BitVec 6) (fd : BitVec 6) (s : State) : Out :=
  issue (.bstat ff fa fd) s (opBstat fa.toNat fd.toNat (decide (ff = 1)))

end Sys2Proof.Machine
end

