-- ==== Sys2Proof/Machine/Matrix.lean ====
section
/-! DEFINITION. Matrix instructions: operand-buffer records, tiles, the group's matrix queue, MMA and the accumulator
instructions, course operations, and the chart compiler and cache (02 R67; 07). -/

namespace Sys2Proof.Machine

/-! ## Types and shapes (07 R185, R186) -/

/-- Rows of a shape. -/
def mOf (shape : Nat) : Nat :=
  match shape with
  | 0 => 16 | 1 => 16 | 2 => 32 | 3 => 32 | 4 => 64 | 5 => 64 | _ => 128

/-- Lanes that a shape requires. -/
def widthOf (shape : Nat) : Nat := if shape < 2 then 16 else if shape < 4 then 32 else 64

/-- Registers of A per row. -/
def rprOf (ty : Nat) : Nat := if ty < 5 then 16 else 32

/-- Bits of an element of B. -/
def bBits (ty : Nat) : Nat := if ty < 2 then 16 else if ty < 5 then 8 else 4

/-- Whether the accumulator of a type is I32. -/
def intTy (ty : Nat) : Bool := decide (ty = 4) || decide (ty = 6)

/-- Multiply-accumulates per cycle. -/
def macsOf (ty : Nat) : Nat := if ty < 2 then 8192 else if ty < 5 then 16384 else 32768

/-- Units that a shape needs. -/
def unitsOf (c : Bool) (shape : Nat) : Nat := ceilDiv (mOf shape * ntOf c shape * 4) 16384

/-! ## Checks of an MMA (07 R188, R202) -/

/-- Whether a record serves an MMA. -/
def recFits (c s : Bool) (ty shape : Nat) (r : OBRec) : Bool :=
  let n := ntOf c shape * kOf ty
  decide (r.fmt = ty) && (r.sparse == s) && (!s || r.ident != 0) &&
    (if s then decide (n / 8 ≤ r.size) else decide (n * bBits ty / 8 ≤ r.size))

/-- Whether a record's scale area lies within an allotment. -/
def scalesFit (c : Bool) (ty shape size : Nat) (r : OBRec) : Bool :=
  decide (r.blen = 0) || decide (r.soff + ntOf c shape * (kOf ty / kbOf r.blen) ≤ size)

/-- Whether a tile serves an MMA. -/
def tileFits (c : Bool) (ty shape : Nat) (t : Tile) : Bool := decide (unitsOf c shape ≤ t.units) && (t.int == intTy ty)

/-- Illegal Instruction with the course-partner subcode (07 R202, 12 R301). -/
def courseTrap : TrapInfo := trapOf 1 1 0 0 0

/-! ## Charts (07 R205 to R208) -/

/-- The present elements of column `n` of a sparse record, as the bits of a number: byte `n` × K / 8 of the bitmap is its first (07 R204). A byte
of it past the end of the record, which only a compile for CHARTPF can meet, reads as 0: the model's choice (log entry 97). -/
def bitmapCol (g : Group) (r : OBRec) (n : Nat) : Nat :=
  let k := kOf r.fmt / 8
  leNat ((List.range k).map fun j => if n * k + j < r.size then g.spad.get (r.base + (n * k + j)) else 0)

/-- The pattern of a sparse record: the present elements of each of its columns. -/
def bitmapOf (g : Group) (r : OBRec) (nt : Nat) : List Nat := (List.range nt).map (bitmapCol g r)

/-- Present elements of a column of a pattern. -/
def nnzCol (col : Nat) : Nat := popcount (BitVec.ofNat 128 col)

/-- Present elements of a pattern. -/
def nnzOf (pat : List Nat) : Nat := (pat.map nnzCol).sum

/-- Micro-operations of the chart of a pattern (07 R205). -/
def microOps (pat : List Nat) : Nat := (pat.map fun x => (if nnzCol x = 0 then 0 else 1) + ceilDiv (nnzCol x) 8).sum

/-- Whether a key is queued or compiling. -/
def Core.inCompile (c : Core) (k : ChartKey) : Bool :=
  (c.chartQ.any fun q => decide (q.key = k)) || (match c.compiling with | some q => decide (q.1.key = k) | none => false)

/-- A request to the chart compiler; one for a key already known adds nothing, but an MMA's claims a CHARTPF's. -/
def Core.request (c : Core) (q : ChartReq) : Core :=
  if (c.chart? q.key).isSome then c
  else
    let claim (x : ChartReq) : ChartReq := if x.key = q.key then { x with pf := x.pf && q.pf } else x
    if c.inCompile q.key then { c with chartQ := c.chartQ.map claim, compiling := c.compiling.map fun x => (claim x.1, x.2) }
    else { c with chartQ := c.chartQ ++ [q] }

/-- Makes a compile request of a clause, which is held while sixteen are outstanding. -/
def Spec.chartReq (p : Spec) (q : ChartReq) (k : Spec → Res) : Res :=
  let c := p.dev.core p.wav.core
  if (c.chart? q.key).isSome || c.inCompile q.key then k { p with dev := p.dev.setCore p.wav.core (c.request q) }
  else p.waitFor .chartLimit fun p => k { p with dev := p.dev.setCore p.wav.core ((p.dev.core p.wav.core).request q) }

/-- Key of a record's chart. -/
def keyFor (r : OBRec) (shape : Nat) : ChartKey := ⟨r.ident, shape, r.fmt⟩

/-! ## MMA (07 R187 to R193) -/

/-- The A rows of a block: lane by lane, a lane that is not active giving zeros (07 R189). -/
def aRows (p : Spec) (va ty shape : Nat) : List (List Word32) :=
  let w := widthOf shape
  let base := 4 * lowQuad p.prt.quads / w * w
  let row (l v : Nat) : List Word32 :=
    (List.range (rprOf ty)).map fun i => if l < 64 && p.active l then p.vreg (v + i) l else 0
  let lo := (List.range w).map fun m => row (base + m) va
  if shape < 6 then lo else lo ++ (List.range w).map fun m => row (base + m) (va + rprOf ty)

/-- Enters the group's matrix queue (07 R192). -/
def Spec.enqueue (p : Spec) (quads : BitVec 16) (flag : Option Nat) (w : MQWork) : Spec :=
  let e : MQEntry := ⟨p.dev.nextId, p.wid, p.wav.gen, quads, flag, w, none, false, []⟩
  { p with grp := { p.grp with mq := p.grp.mq ++ [e] }, dev := { p.dev with nextId := p.dev.nextId + 1 } }

/-- The course partner's record and tile, or why there is none: a course cause, or a group that is not resident (07 R202). -/
def mateOf (p : Spec) (s : Bool) (t o ty shape : Nat) : Except Bool (OBRec × Tile) :=
  if (partnerIndex (((p.dev.launches.get? p.wav.launch).map (·.sets)).getD []) p.grp.index).isNone then .error true
  else
    match (p.dev.partner p.gid).bind p.dev.groups.get? with
    | none => .error false
    | some g =>
      if g.core.isNone then .error false
      else
        match g.recs.get? o, g.tiles.get? t with
        | some r, some x => if recFits true s ty shape r && tileFits true ty shape x then .ok (r, x) else .error true
        | _, _ => .error true

/-- MMA. -/
def opMma (z f c s : Bool) (t o va ty shape : Nat) (p : Spec) : Res :=
  match p.grp.recs.get? o, p.grp.tiles.get? t with
  | some r, some x =>
    if decide (p.wav.lanes < widthOf shape) || !recFits c s ty shape r || !scalesFit c ty shape p.grp.size r || !tileFits c ty shape x then
      .error illegalTrap
    else
      let go (mate : Option (OBRec × Tile)) : Res :=
        if p.act.isEmpty then .ok p
        else p.waitFor .matrixFull fun p =>
          let put (p : Spec) : Res :=
            .ok ((p.enqueue p.actQuads (some (p.flagField f)) (.mma z c s t o shape r mate (aRows p va ty shape))).raise f p.actQuads)
          if s && !c then p.chartReq ⟨keyFor r shape, p.gid, r, ntOf c shape, false, p.first⟩ put else put p
      if c then
        match mateOf p s t o ty shape with
        | .ok m => go (some m)
        | .error true => .error courseTrap
        | .error false => .ok (p.holdFor .partner)
      else go none
  | _, _ => .error illegalTrap

/-! ## Records (07 R196, R197) -/

/-- The record that a descriptor describes, when it is legal. -/
def recOf (size : Nat) (x : List Word64) : Option OBRec :=
  let r : OBRec := ⟨bits (dw x 0) 18 0, bits (dw x 0) 51 32, bits (dw x 2) 2 0, bits (dw x 2) 6 4, bits (dw x 1) 18 0,
    BitVec.ofNat 32 (bits (dw x 1) 63 32), bit (dw x 2) 7, dw x 3⟩
  if clear (dw x 0) 63 52 && clear (dw x 0) 31 19 && clear (dw x 1) 31 19 && clear (dw x 2) 63 8 && clear (dw x 2) 3 3 &&
      decide (64 ≤ r.size) && decide (r.size ≤ 524288) && decide (r.size % 64 = 0) && decide (r.base % 64 = 0) &&
      decide (r.fmt ≠ 7) && decide (r.blen ≤ 4) && decide (r.base + r.size ≤ size) &&
      (decide (r.blen = 0) || (decide (kbOf r.blen ≤ kOf r.fmt) && !intTy r.fmt)) &&
      (!r.sparse || decide (r.fmt < 5)) then some r else none

/-- Makes a record invalid and discards the core's charts keyed to its identity. -/
def Spec.freeRec (p : Spec) (o : Nat) : Spec :=
  match p.grp.recs.get? o with
  | none => p
  | some r =>
    let p := { p with grp := { p.grp with recs := p.grp.recs.del o } }
    p.on fun d => d.discard p.wav.core r.ident

/-- OBRES. -/
def opObres (a o : Nat) (p : Spec) : Res :=
  p.desc (bits (p.sreg a) 18 0) 32 32 fun x p =>
    match recOf p.grp.size x with
    | none => .error illegalTrap
    | some r => p.waitFor (.record o) fun p =>
      let p := p.freeRec o
      .ok { p with grp := { p.grp with recs := p.grp.recs.set o r } }

/-- OBFREE. -/
def opObfree (o : Nat) (p : Spec) : Res := p.waitFor (.record o) fun p => .ok (p.freeRec o)

/-- SPTILE. -/
def opSptile (a o : Nat) (p : Spec) : Res :=
  match p.grp.recs.get? o with
  | none => .error illegalTrap
  | some r => .ok { p with grp := { p.grp with recs := p.grp.recs.set o { r with ident := p.sreg a } } }

/-! ## Chart instructions (07 R207, R208) -/

/-- The record that CHARTPF and CHARTQ may name. -/
def chartRec (p : Spec) (o : Nat) : Option OBRec :=
  match p.grp.recs.get? o with
  | some r => if r.sparse && r.ident != 0 then some r else none
  | none => none

/-- CHARTPF; a shape below 7 names the columns of an MMA with C = 0 (log entry 19). -/
def opChartpf (shape o : Nat) (p : Spec) : Res :=
  match chartRec p o with
  | none => .error illegalTrap
  | some r => p.chartReq ⟨keyFor r shape, p.gid, r, ntOf (decide (shape = 7)) shape, true, p.first⟩ .ok

/-- CHARTINV: an invalid record names no charts. -/
def opChartinv (o : Nat) (p : Spec) : Res :=
  match p.grp.recs.get? o with
  | none => .ok p
  | some r => .ok (p.on fun d => d.discard p.wav.core r.ident)

/-- What CHARTQ reports of a key. -/
def chartState (c : Core) (k : ChartKey) : Nat :=
  match c.chart? k with
  | some x => x.nnz * 2 ^ 32 + x.count * 2 ^ 16 + x.reason * 4 + (if x.reason = 0 then 2 else 3)
  | none => if c.inCompile k then 1 else 0

/-- CHARTQ. -/
def opChartq (dst shape o : Nat) (f : Bool) (p : Spec) : Res :=
  match chartRec p o with
  | none => .error illegalTrap
  | some r =>
    let v := chartState (p.dev.core p.wav.core) (keyFor r shape)
    .ok ((p.longDst false dst 1).addReq (.sres dst) p.prt.quads (some f) [servedAcc 64 (leBytes 8 v)])

/-! ## Tiles (07 R198) -/

/-- Units of a core's accumulator memory that tiles and grants hold: first unit and count. A wave that is saved holds none, and is given as
many again when it is restored (09 R246). -/
def Device.unitsHeld (d : Device) (core : Nat) : List (Nat × Nat) :=
  ((d.groups.filter fun g => decide (g.2.core = some core)).flatMap fun g => g.2.tiles.map fun t => (t.2.first, t.2.units)) ++
    ((d.waves.filter fun w => decide (w.2.core = core) && !w.2.saved).flatMap fun w => w.2.parts.flatMap (·.tallocGrant))

/-- The lowest first unit of a free run. -/
def Device.freeRun (d : Device) (core n : Nat) : Option Nat :=
  (List.range 16).find? fun f => decide (f + n ≤ 16) && (d.unitsHeld core).all fun x => !overlap (f, f + n) (x.1, x.1 + x.2)

/-- Clears the words of a run of units. -/
def Core.zeroUnits (c : Core) (first n : Nat) : Core :=
  { c with acc := c.acc.keep fun k => decide (k < first * 4096) || decide ((first + n) * 4096 ≤ k) }

/-- TALLOC: its clause has started because the run was granted (09 R224). -/
def opTalloc (int : Bool) (units t : Nat) (p : Spec) : Res :=
  if (p.grp.tiles.get? t).isSome then .error illegalTrap
  else
    match (match p.prt.tallocGrant with | x :: _ => some x.1 | [] => p.sync.freeRun p.wav.core units) with
    | none => .ok (p.holdFor (.tile t))
    | some f =>
      .ok { p with
        grp := { p.grp with tiles := p.grp.tiles.set t ⟨f, units, int⟩ }
        prt := { p.prt with tallocGrant := p.prt.tallocGrant.tail }
        dev := p.dev.setCore p.wav.core ((p.dev.core p.wav.core).zeroUnits f units) }

/-- TFREE. -/
def opTfree (t : Nat) (p : Spec) : Res :=
  p.waitFor (.tile t) fun p => .ok { p with grp := { p.grp with tiles := p.grp.tiles.del t } }

/-- ACCZERO. -/
def opAcczero (t : Nat) (p : Spec) : Res :=
  match p.grp.tiles.get? t with
  | none => .error illegalTrap
  | some _ => p.waitFor .matrixFull fun p => .ok (p.enqueue 0 none (.acczero t))

/-! ## ACCRD and ACCWR (07 R200, R201) -/

/-- Registers per lane that a control word names. -/
def ctlRegs (c : Word64) : Nat := bits c 29 24 + 1

/-- Elements per register. -/
def ctlEpr (c : Word64) : Nat := if bits c 20 18 = 1 then 2 else if bits c 20 18 = 2 then 4 else 1

/-- Row pitch. -/
def ctlPitch (c : Word64) : Nat := 64 * 2 ^ bits c 17 16

/-- Register format. -/
def ctlTy (c : Word64) : CvtTy :=
  match bits c 20 18 with
  | 0 => .flt .f32 | 1 => .flt .bf16 | 2 => .flt .e4m3 | _ => .i32

/-- Whether a control word is legal, its registers lying in the allotment. -/
def ctlLegal (p : Spec) (v : Nat) (c : Word64) : Bool :=
  clear c 63 51 && clear c 31 30 && decide (bits c 22 21 ≠ 3) && decide (bits c 20 18 ≤ 3) && decide (bits c 50 32 % 4 = 0) &&
    decide (v + ctlRegs c ≤ p.allot)

/-- Word of accumulator memory of element (r, c) of a tile, if it lies there. -/
def accWord (t : Tile) (pitch r c : Nat) : Option Nat :=
  if c < pitch && decide ((r * pitch + c) * 4 < t.units * 16384) then some (t.first * 4096 + r * pitch + c) else none

/-- The value of an accumulator word. -/
def accNum (int : Bool) (w : Word32) : Num := if int then Num.ofInt w.toInt else val .f32 w.toNat

/-- A number in a type, to nearest even, saturated or not, with no exception (07 R200, R201). -/
def encTo (ty : CvtTy) (sat : Bool) (x : Num) : Nat :=
  match ty with
  | .flt f => (cvtToFloat f 1 sat x).1
  | _ => ((cvtToInt (-2147483648) 2147483647 1 sat x).1 % 4294967296).toNat

/-- The rows or columns whose scales ACCRD reads. -/
def scaleKeys (p : Spec) (c : Word64) : List Nat :=
  match bits c 22 21 with
  | 1 => p.act.map fun l => bits c 6 0 + l
  | 2 => (List.range (ctlRegs c * ctlEpr c)).map fun j => bits c 15 7 + j
  | _ => []

/-- ACCRD. -/
def opAccrd (t vd a : Nat) (f : Bool) (p : Spec) : Res :=
  let c := p.sreg a
  match p.grp.tiles.get? t with
  | none => .error illegalTrap
  | some _ =>
    if !ctlLegal p vd c then .error illegalTrap
    else if p.act.isEmpty then .ok p
    else
      let ks := scaleKeys p c
      let off (k : Nat) : Nat := bits c 50 32 + 4 * k
      p.onBoard false ((ks.filter fun k => inSpad p.grp (off k) 4).map fun k => (off k, 4)) fun p =>
        p.waitFor .matrixFull fun p =>
          let p := if ks.isEmpty then p else p.spadTime
          let r := ks.foldl (fun (x : SMap 32 × Group) k =>
            let y := spadRead x.2 (off k) 4
            (x.1.set k (BitVec.ofNat 32 (leNat y.1)), y.2)) ([], p.grp)
          let p := { p with grp := r.2 }.longDst true vd (ctlRegs c)
          .ok ((p.enqueue p.actQuads (some (p.flagField f)) (.accrd t vd c (maskOf 64 p.act) r.1)).raise f p.actQuads)

/-- ACCWR. -/
def opAccwr (t vs a : Nat) (p : Spec) : Res :=
  let c := p.sreg a
  match p.grp.tiles.get? t with
  | none => .error illegalTrap
  | some _ =>
    if !ctlLegal p vs c || decide (bits c 22 21 ≠ 0) then .error illegalTrap
    else if p.act.isEmpty then .ok p
    else p.waitFor .matrixFull fun p =>
      .ok (p.enqueue p.actQuads none (.accwr t c (p.act.map fun l => (l, (List.range (ctlRegs c)).map fun i => p.vreg (vs + i) l))))

/-! ## What the array computes (02 R52 to R54, R67; 07 R189 to R191, R204) -/

/-- The elements of a row of A as values. -/
def aVals (ty : Nat) (row : List Word32) : List Num :=
  let bytes := row.flatMap fun w => leBytes 4 w.toNat
  match ty with
  | 0 => (chunks 2 32 bytes).map (val .bf16)
  | 1 => (chunks 2 32 bytes).map (val .f16)
  | 2 => bytes.map fun b => val .e4m3 b.toNat
  | 3 => bytes.map fun b => val .e5m2 b.toNat
  | 5 => bytes.map fun b => val .e4m3 b.toNat
  | _ => bytes.map fun b => Num.ofInt b.toInt

/-- Elements of a dense column, and whether a Q4X quad was in error. -/
def denseCol (g : Group) (r : OBRec) (n : Nat) : List (Option Num) × Bool :=
  let k := kOf r.fmt
  let bytes := spadBytes g (r.base + n * k * bBits r.fmt / 8) (k * bBits r.fmt / 8)
  match r.fmt with
  | 0 => ((chunks 2 k bytes).map fun x => some (val .bf16 x), false)
  | 1 => ((chunks 2 k bytes).map fun x => some (val .f16 x), false)
  | 2 => (bytes.map fun b => some (val .e4m3 b.toNat), false)
  | 3 => (bytes.map fun b => some (val .e5m2 b.toNat), false)
  | 4 => (bytes.map fun b => some (Num.ofInt b.toInt), false)
  | 5 =>
    let q := (List.range (k / 4)).map fun i => q4xAt (leNat ((bytes.drop (2 * i)).take 2)) 0
    ((q.map (·.1)).flatten.map some, q.any (·.2))
  | _ => (bytes.flatMap fun b => [some (nibVal (b.toNat % 16)), some (nibVal (b.toNat / 16))], false)

/-- Elements of a sparse column of a pattern, taking its values from the `first`-th value of the record on (07 R204). -/
def sparseCol (g : Group) (r : OBRec) (nt first col : Nat) : List (Option Num) × Nat :=
  let k := kOf r.fmt
  let sz := bBits r.fmt / 8
  let value (i : Nat) : Num :=
    let off := r.base + nt * k / 8 + i * sz
    let x := leNat ((List.range sz).map fun j => if off + j < r.base + r.size then g.spad.get (off + j) else 0)
    match r.fmt with
    | 0 => val .bf16 x | 1 => val .f16 x | 2 => val .e4m3 x | 3 => val .e5m2 x | _ => Num.ofInt (sextNat 8 x)
  (List.range k).foldl (fun (x : List (Option Num) × Nat) i =>
    if col.testBit i then (x.1 ++ [some (value x.2)], x.2 + 1) else (x.1 ++ [none], x.2)) ([], first)

/-- The pattern under which a sparse MMA of `nt` columns runs: that of its chart, whatever data it was compiled from, and past the columns that a
chart of the other half size has, its record's own bitmap (07 R191, R197, R205). -/
def patternOf (g : Group) (r : OBRec) (nt : Nat) (pat : Option (List Nat)) : List Nat :=
  match pat with
  | some l => l.take nt ++ ((List.range nt).drop l.length).map (bitmapCol g r)
  | none => bitmapOf g r nt

/-- The columns of a record, and whether a Q4X quad was in error. -/
def colsOf (g : Group) (r : OBRec) (nt : Nat) (pat : Option (List Nat)) : List (List (Option Num)) × Bool :=
  if r.sparse then
    (((patternOf g r nt pat).foldl (fun (x : List (List (Option Num)) × Nat) col =>
      let c := sparseCol g r nt x.2 col
      (x.1 ++ [c.1], c.2)) ([], 0)).1, false)
  else
    let cs := (List.range nt).map (denseCol g r)
    (cs.map (·.1), cs.any (·.2))

/-- A column cut into K-blocks, each with its scale; a zero scale makes elements +0 and a NaN scale NaN (02 R52). -/
def blocksOf (g : Group) (r : OBRec) (n : Nat) (col : List (Option Num)) : List (List (Option Num) × Num) :=
  let k := kOf r.fmt
  let kb := kbOf r.blen
  (List.range (k / kb)).map fun j =>
    let b := (col.drop (j * kb)).take kb
    let sc := if r.blen = 0 then Num.one else ue5m3 (g.spad.get (r.soff + n * (k / kb) + j)).toNat
    let f (x : Num) : Num := if sc.isZero then Num.zero else if sc.isNan then .nan false else x
    (b.map fun e => e.map f, sc)

/-- Products of a block with elements of A, absent elements giving none. -/
def blockTerms : List Num → List (Option Num) → List Num
  | a :: as, some b :: bs => mulX a b :: blockTerms as bs
  | _ :: as, none :: bs => blockTerms as bs
  | _, _ => []

/-- One accumulator element after the blocks of its column (02 R67, 07 R191). -/
def accElem (int : Bool) (kb : Nat) (ts : Num) (a : List Num) (bl : List (List (Option Num) × Num)) (acc : Word32) : Word32 :=
  if int then
    bl.zipIdx.foldl (fun x b =>
      x + BitVec.ofInt 32 ((blockTerms (a.drop (b.2 * kb)) b.1.1).foldl (fun s t => s + alignTo t.smant t.expo 0) 0)) acc
  else
    bl.zipIdx.foldl (fun x b =>
      if b.1.1.all Option.isNone then x
      else
        let p := mulX (mulX (xsum 1 (blockTerms (a.drop (b.2 * kb)) b.1.1)).1 b.1.2) ts
        BitVec.ofNat 32 (fAdd .f32 1 (val .f32 x.toNat) (val .f32 (roundNum .f32 1 p).1)).1) acc

/-- What an MMA leaves in a core's accumulator memory, and whether it set FE; `pat` is the pattern of its chart, if it runs from one. -/
def mmaRun (acc : SMap 32) (g : Group) (r : OBRec) (t : Tile) (z c : Bool) (shape : Nat) (pat : Option (List Nat)) (a : List (List Word32)) :
    SMap 32 × Bool :=
  let nt := ntOf c shape
  let cs := colsOf g r nt pat
  let bls := cs.1.zipIdx.map fun x => blocksOf g r x.2 x.1
  let fe := cs.2 || bls.any fun bl => bl.any fun b => b.2.isNan && !b.1.all Option.isNone
  let ts := val .f32 r.tscale.toNat
  let upd := a.zipIdx.flatMap fun row =>
    let av := aVals r.fmt row.1
    bls.zipIdx.map fun bl =>
      let w := t.first * 4096 + row.2 * nt + bl.2
      (w, accElem (intTy r.fmt) (kbOf r.blen) ts av bl.1 (if z then 0 else acc.get w))
  (acc.setAll upd, fe)

/-! ## The matrix queue at work (07 R192 to R194, R203, R205, R209) -/

/-- The chart from which an MMA runs on a core; none when it is dense, or its entry is a fallback. -/
def chartOf (d : Device) (core id : Nat) (s : Bool) (r : OBRec) (shape : Nat) : Option Chart :=
  if s then ((d.core core).chartFor (keyFor r shape) id).filter fun x => decide (x.reason = 0) else none

/-- Whether an MMA's chart, if it needs one, is ready or a fallback on a core. -/
def chartReady (d : Device) (core id : Nat) (s : Bool) (r : OBRec) (shape : Nat) : Bool :=
  !s || ((d.core core).chartFor (keyFor r shape) id).isSome

/-- Cycles on the array, twice as many while the issue rate is halved (07 R186, R205; 13 R330). -/
def arrayCycles (d : Device) (core id : Nat) (c s : Bool) (r : OBRec) (shape : Nat) : Nat :=
  let n := match chartOf d core id s r shape with
    | some x => ceilDiv (mOf shape * x.nnz) (macsOf r.fmt) + 2
    | none => mOf shape * ntOf c shape / 256
  if d.clk.halved then 2 * n else n

/-- The head of a group's matrix queue. -/
def Device.head? (d : Device) (g : Nat) : Option MQEntry := (d.groups.get? g).bind fun x => x.mq.head?

/-- Replaces the head of a group's matrix queue. -/
def Device.setHead (d : Device) (g : Nat) (e : MQEntry) : Device :=
  { d with groups := d.groups.upd g fun x => { x with mq := e :: x.mq.tail } }

/-- MATRIX_QUEUE_HEAD_START: an accumulator instruction at the head runs at once. The quads of ACCRD and ACCWR that count are those with an active
lane: the model's choice (07 R192; log entry 98). -/
def Device.headStart (d : Device) (g : Nat) : Device :=
  match d.head? g with
  | none => d
  | some e =>
    if e.ends.isSome then d
    else
      let q := ceilDiv (quadsOf e.quads).length 8
      match e.work with
      | .mma _ _ _ _ _ _ _ _ _ => d
      | .acczero t =>
        let u := (((d.groups.get? g).bind fun x => x.tiles.get? t).map (·.units)).getD 0
        d.setHead g { e with ends := some (d.clk.cycle + u) }
      | .accrd _ _ c _ _ => d.setHead g { e with ends := some (d.clk.cycle + ctlRegs c * q) }
      | .accwr _ c _ => d.setHead g { e with ends := some (d.clk.cycle + ctlRegs c * q) }

/-- Whether a course MMA holds the array of a core: it is dispatched and has not ended. -/
def courseBusy (d : Device) (core : Nat) : Bool :=
  (d.core core).slaved.isSome ||
    d.groups.any fun g => decide (g.2.core = some core) && (match g.2.mq.head? with | some e => e.dispatched | none => false)

/-- Whether the array of a core is free. -/
def arrayFree (d : Device) (core : Nat) : Bool := decide ((d.core core).arrayFree ≤ d.clk.cycle) && !courseBusy d core

/-- Whether the course partner of a group, if it has one, is resident. -/
def Device.mateHere (d : Device) (g : Nat) : Bool :=
  match (d.partner g).bind d.groups.get? with
  | some x => x.core.isSome || x.left
  | none => true

/-- Whether the head of a group's queue is an MMA that could take the array: course or not, with its chart and its reads not
stalled; a course MMA is compiled for at dispatch, for which it waits until its follower group is resident: the model's choice where that
group has been saved since the commit (07 R194, R203; log entry 99). -/
def headReady (d : Device) (core g : Nat) : Option MQEntry :=
  match d.head? g with
  | some e =>
    match e.work with
    | .mma _ c s _ _ sh r _ _ =>
      if e.ends.isNone && !e.dispatched && (if c then d.mateHere g else chartReady d core e.id s r sh) && !d.stalls g e.id false (mmaReads c sh r) then some e else none
    | _ => none
  | none => none

/-- The group that the array serves next: the first ready one after the last served, in ascending launch and index, from the lowest at first. The
manual does not give the round its order or its beginning: the model's choice (07 R194; log entry 98). -/
def nextGroup (d : Device) (core : Nat) : Option Nat :=
  let gs := (d.groups.filter fun g => decide (g.2.core = some core) && (headReady d core g.1).isSome).map (·.1)
  let last := (d.core core).lastGroup
  match gs.find? fun g => decide (last < g) with
  | some g => some g
  | none => gs.head?

/-- The other core of a course. -/
def otherCore (core : Nat) : Nat := if core % 2 = 0 then core + 1 else core - 1

/-- COURSE_MMA_DISPATCH: the leader's head takes the leader's array and is dispatched to the follower (07 R203). -/
def Device.courseDispatch (d : Device) (g : Nat) : Device :=
  match (d.groups.get? g).bind (·.core) with
  | none => d
  | some core =>
    if !arrayFree d core || decide (nextGroup d core ≠ some g) || (d.core (otherCore core)).slaved.isSome then d
    else
      match d.head? g with
      | some e =>
        match e.work with
        | .mma _ true s _ _ sh r m _ =>
          let fo := otherCore core
          let d := d.setHead g { e with dispatched := true }
          let d := d.setCore core { d.core core with lastGroup := g }
          let d := d.setCore fo { d.core fo with slaved := some g }
          if s then
            let d := d.setCore core ((d.core core).request ⟨keyFor r sh, g, r, ntOf true sh, false, e.id⟩)
            match m, d.partner g with
            | some x, some k => d.setCore fo ((d.core fo).request ⟨keyFor x.1 sh, k, x.1, ntOf true sh, false, e.id⟩)
            | _, _ => d
          else d
        | _ => d
      | none => d

/-- Moves the chart that an MMA uses to the front of its cache (07 R206). -/
def Core.useChart (c : Core) (s : Bool) (k : ChartKey) (id : Nat) : Core :=
  match c.chartFor k id with
  | some x => if s then { c with charts := x :: c.charts.erase x } else c
  | none => c

/-- Starts a dispatched course MMA once both arrays are free and both charts are ready (07 R203). -/
def Device.courseStart (d : Device) (g : Nat) : Device :=
  match (d.groups.get? g).bind (·.core), d.head? g with
  | some core, some e =>
    match e.work with
    | .mma _ true s _ _ sh r (some m) _ =>
      let fo := otherCore core
      let mateStall := match d.partner g with
        | some k => d.stalls k e.id false (mmaReads true sh m.1)
        | none => false
      if e.dispatched && e.ends.isNone && decide ((d.core core).arrayFree ≤ d.clk.cycle) && decide ((d.core fo).arrayFree ≤ d.clk.cycle) &&
          chartReady d core e.id s r sh && chartReady d fo e.id s m.1 sh && !d.stalls g e.id false (mmaReads true sh r) && !mateStall then
        let t := d.clk.cycle + max (arrayCycles d core e.id true s r sh) (arrayCycles d fo e.id true s m.1 sh)
        let d := d.setHead g { e with ends := some t }
        let d := d.setCore core { (d.core core).useChart s (keyFor r sh) e.id with arrayFree := t }
        d.setCore fo { (d.core fo).useChart s (keyFor m.1 sh) e.id with arrayFree := t }
      else d
    | _ => d
  | _, _ => d

/-- MMA_ARRAY_START: a dispatched course MMA first, then the next group in round-robin order (07 R194). -/
def Device.arrayStart (d : Device) (core : Nat) : Device :=
  match (d.core core).slaved with
  | some g => d.courseStart g
  | none =>
    match d.groups.find? fun g => decide (g.2.core = some core) && (match g.2.mq.head? with | some e => e.dispatched | none => false) with
    | some g => d.courseStart g.1
    | none =>
      if !arrayFree d core then d
      else
        match nextGroup d core with
        | none => d
        | some g =>
          match headReady d core g with
          | none => d
          | some e =>
            match e.work with
            | .mma _ false s _ _ sh r _ _ =>
              let t := d.clk.cycle + arrayCycles d core e.id false s r sh
              let c := (d.core core).useChart s (keyFor r sh) e.id
              (d.setHead g { e with ends := some t }).setCore core { c with arrayFree := t, lastGroup := g }
            | _ => d

/-- Charts that were discarded while pinned leave the cache when no MMA pins them (07 R207). -/
def Device.sweepCharts (d : Device) (core : Nat) : Device :=
  let c := d.core core
  d.setCore core { c with charts := c.charts.filter fun x => x.dead.isNone || !(d.pinners core x).isEmpty }

/-- Sets FPX.FE of a wave. -/
def Device.setFe (d : Device) (w : Nat) (gen : BitVec 16) (fe : Bool) : Device :=
  match d.liveWave w gen with
  | some x => if fe then d.setWave w (x.addFpx d.clk.cycle 0x20#64) else d
  | none => d

/-- Registers that ACCRD writes: key of the register and value (07 R200). -/
def accrdWrites (acc : SMap 32) (t : Tile) (vd : Nat) (c : Word64) (lanes : Word64) (scales : SMap 32) : List (Nat × Word32) :=
  let epr := ctlEpr c
  let w := 32 / epr
  ((List.range 64).filter (bit lanes)).flatMap fun l =>
    (List.range (ctlRegs c)).map fun i =>
      let r := bits c 6 0 + l
      let el (j : Nat) : Nat :=
        let col := bits c 15 7 + j
        let x := match accWord t (ctlPitch c) r col with
          | some k => accNum t.int (acc.get k)
          | none => Num.zero
        let sc := match bits c 22 21 with
          | 1 => val .f32 (scales.get r).toNat
          | 2 => val .f32 (scales.get col).toNat
          | _ => Num.one
        encTo (ctlTy c) (bit c 23) (mulX x sc)
      (vkey (vd + i) l, BitVec.ofNat 32 ((List.range epr).foldl (fun n j => n + el (i * epr + j) % 2 ^ w * 2 ^ (w * j)) 0))

/-- Words of accumulator memory that ACCWR writes (07 R201). -/
def accwrWrites (t : Tile) (c : Word64) (data : List (Nat × List Word32)) : List (Nat × Word32) :=
  let epr := ctlEpr c
  let ty : CvtTy := if t.int then .i32 else .flt .f32
  data.flatMap fun x =>
    (List.range (ctlRegs c * epr)).filterMap fun j =>
      (accWord t (ctlPitch c) (bits c 6 0 + x.1) (bits c 15 7 + j)).map fun k =>
        (k, BitVec.ofNat 32 (encTo ty (bit c 23) (cvtSrc (ctlTy c) false (elem (32 / epr) (j % epr) (x.2.getD (j / epr) 0)))))

/-- Takes the effect of a finished entry on accumulator memory; gives FE and the registers ACCRD writes (07 R199 to R203). An MMA reads B as its
array time ends, and holds its ranges until then: the model's choice (07 R193; log entry 98). The half of a course partner goes to the units that
its tile has now, which a restore may have changed (09 R246). -/
def Device.matrixEffect (d : Device) (g core : Nat) (grp : Group) (e : MQEntry) : Device × Bool × List (Nat × Word32) :=
  let c := d.core core
  match e.work with
  | .mma z cc s t _ sh r m a =>
    let own := match grp.tiles.get? t with
      | some tl => mmaRun c.acc grp r tl z cc sh ((chartOf d core e.id s r sh).map Chart.pattern) a
      | none => (c.acc, false)
    let d := d.setCore core { c with acc := own.1 }
    let d := if cc then d.setCore (otherCore core) { d.core (otherCore core) with slaved := none } else d
    match m, (d.partner g).bind fun k => d.groups.get? k with
    | some x, some mg =>
      let fo := otherCore core
      let fc := d.core fo
      (match mg.tiles.get? t with
        | some tl =>
          let r := mmaRun fc.acc mg x.1 tl z cc sh ((chartOf d fo e.id s x.1 sh).map Chart.pattern) a
          (d.setCore fo { fc with acc := r.1 }, own.2 || r.2, [])
        | none => (d, own.2, []))
    | _, _ => (d, own.2, [])
  | .acczero t =>
    match grp.tiles.get? t with
    | some x => (d.setCore core (c.zeroUnits x.first x.units), false, [])
    | none => (d, false, [])
  | .accrd t vd ctl lanes sc =>
    match grp.tiles.get? t with
    | some x => (d, false, accrdWrites c.acc x vd ctl lanes sc)
    | none => (d, false, [])
  | .accwr t ctl data =>
    match grp.tiles.get? t with
    | some x => (d.setCore core { c with acc := c.acc.setAll (accwrWrites x ctl data) }, false, [])
    | none => (d, false, [])

/-- An MMA at the head of its group's queue, or behind it, that needs a chart and has none left asks for it. -/
def Device.askChart (g core : Nat) (d : Device) (e : MQEntry) : Device :=
  match e.work with
  | .mma _ false true _ _ sh r _ _ =>
    if chartReady d core e.id true r sh then d else d.setCore core ((d.core core).request ⟨keyFor r sh, g, r, ntOf false sh, false, e.id⟩)
  | _ => d

/-- The scratchpad writes that have waited for an MMA of their own clause are made once it has left the queue: their time is the larger of the
part's and st, which both take, and charts of the records they change are discarded, for MMAs behind it too, which ask anew (07 R193, R207; 11
R286). -/
def Device.makeWrites (d : Device) (g core : Nat) (e : MQEntry) : Device :=
  match d.groups.get? g with
  | none => d
  | some x =>
    if e.later.isEmpty then d
    else
      let ps : List Part := match d.liveWave e.wave e.gen with | some w => w.live.filter fun p => p.quads &&& e.quads != 0 | none => []
      let t := ps.foldl (fun t p => tmax d.pulse t (tmax d.pulse p.pts p.owed)) x.st
      let d := d.setGroup g { x with spad := x.spad.setAll e.later, st := t, mq := [] }
      let d := e.later.foldl (fun d y => d.wrote g y.1 1) d
      let d := d.setGroup g { x with spad := x.spad.setAll e.later, st := t }
      let d := x.mq.foldl (Device.askChart g core) d
      if ps.isEmpty then d else d.mapParts e.wave e.quads fun p => { p with pts := tmax d.pulse p.pts t }

/-- MATRIX_OP_COMPLETE: the head ends, takes effect and leaves; its flag clears twenty cycles later (07 R192). -/
def Device.matrixComplete (d : Device) (g : Nat) : Device :=
  match d.groups.get? g, d.head? g with
  | some grp, some e =>
    match e.ends, grp.core with
    | some t, some core =>
      if d.clk.cycle < t then d
      else
        let r := d.matrixEffect g core grp e
        let d1 : Device := { r.1 with groups := r.1.groups.upd g fun x => { x with mq := x.mq.tail } }
        let d2 := d1.setFe e.wave e.gen r.2.1
        let d3 := ((d2.makeWrites g core e).sweepCharts core).sweepCharts (otherCore core)
        match e.flag with
        | some _ => { d3 with mdone := d3.mdone.set e.id ⟨t + 20, e.wave, e.gen, e.quads, e.flag, r.2.2⟩ }
        | none => d3
    | _, _ => d
  | _, _ => d

/-- MATRIX_FLAG_CLEAR: the flag clears, and ACCRD's registers are written (07 R192, R200; 01 R38, R40). -/
def Device.matrixFlag (d : Device) (id : Nat) : Device :=
  match d.mdone.get? id with
  | none => d
  | some m =>
    if d.clk.cycle < m.due then d
    else
      let d' : Device := { d with mdone := d.mdone.del id }
      let d' := match d'.liveWave m.wave m.gen with
        | some w => d'.setWave m.wave { w with vregs := w.vregs.setAll m.writes }
        | none => d'
      d'.lowerFlag m.wave m.gen (d'.coreOf m.wave) m.quads m.flag

/-! ## The chart compiler (07 R205, R206) -/

/-- The pattern that a request compiles (07 R205). -/
def ChartReq.pattern (q : ChartReq) (g : Group) : List Nat := bitmapOf g q.obrec q.nt

/-- CHART_COMPILE_START: the next request in arrival order, unless its bitmap's read stalls. -/
def Device.chartStart (d : Device) (core : Nat) : Device :=
  let c := d.core core
  match c.compiling, c.chartQ with
  | none, q :: qs =>
    match d.groups.get? q.group with
    | none => d.setCore core { c with chartQ := qs }
    | some g =>
      if d.bitmapStalls q then d
      else
        let t := 24 + ceilDiv (nnzOf (q.pattern g)) 16 + 2 * q.nt
        d.setCore core { c with chartQ := qs, compiling := some (q, d.clk.cycle + t) }
  | _, _ => d

/-- Bytes of a chart. -/
def chartBytes (x : Chart) : Nat := if x.reason = 0 then roundUp (8 * x.count) 256 else 0

/-- Whether a cache of charts fits. -/
def chartsFit (l : List Chart) : Bool := decide (l.length ≤ 256) && decide (l.foldl (fun n x => n + chartBytes x) 0 ≤ 65536)

/-- Evicts least recently used entries that are not pinned until a new one fits. -/
def evictCharts (pin : Chart → Bool) (x : Chart) : Nat → List Chart → Option (List Chart)
  | 0, l => if chartsFit (x :: l) then some (x :: l) else none
  | n + 1, l =>
    if chartsFit (x :: l) then some (x :: l)
    else
      match (l.reverse.find? fun y => !pin y) with
      | none => none
      | some y => evictCharts pin x n (l.erase y)

/-- CHART_COMPILE_END: a ready chart or a dense fallback enters the cache; it waits while pinned entries leave no room (07 R206). -/
def Device.chartEnd (d : Device) (core : Nat) : Device :=
  let c := d.core core
  match c.compiling with
  | none => d
  | some (q, t) =>
    if d.clk.cycle < t then d
    else
      match d.groups.get? q.group with
      | none => d.setCore core { c with compiling := none }
      | some g =>
        let pat := q.pattern g
        let nnz := nnzOf pat
        let n := microOps pat
        let reason := if q.nt * kOf q.obrec.fmt < 2 * nnz then 1 else if 2048 < n then 2 else 0
        let x : Chart := ⟨q.key, reason, nnz, n, pat, none⟩
        match evictCharts (fun y => !(d.pinners core y).isEmpty) x 256 c.charts with
        | some l => d.setCore core { c with charts := l, compiling := none }
        | none => d

/-- MATRIX_QUEUE_HEAD_START: operand g. -/
def evHeadStart (s : State) : Out := .next { s with dev := s.dev.headStart (s.arg.getD 0 0) }

/-- MMA_ARRAY_START: operand core. -/
def evArrayStart (s : State) : Out := .next { s with dev := s.dev.arrayStart (s.arg.getD 0 0) }

/-- MATRIX_OP_COMPLETE: operand g. -/
def evMatrixComplete (s : State) : Out := .next { s with dev := s.dev.matrixComplete (s.arg.getD 0 0) }

/-- MATRIX_FLAG_CLEAR: operand id. -/
def evMatrixFlag (s : State) : Out := .next { s with dev := s.dev.matrixFlag (s.arg.getD 0 0) }

/-- COURSE_MMA_DISPATCH: operand g. -/
def evCourseDispatch (s : State) : Out := .next { s with dev := s.dev.courseDispatch (s.arg.getD 0 0) }

/-- CHART_COMPILE_START: operand core. -/
def evChartStart (s : State) : Out := .next { s with dev := s.dev.chartStart (s.arg.getD 0 0) }

/-- CHART_COMPILE_END: operand core. -/
def evChartEnd (s : State) : Out := .next { s with dev := s.dev.chartEnd (s.arg.getD 0 0) }

/-! ## Meanings -/

/-- MMA (R191). -/
def execMma (fz : BitVec 1) (ff : BitVec 1) (fc : BitVec 1) (fs : BitVec 1) (ft : BitVec 4) (fo : BitVec 3) (fa : BitVec 7) (fy : BitVec 3) (fp : BitVec 4) (s : State) : Out :=
  issue (.mma fz ff fc fs ft fo fa fy fp) s (opMma (decide (fz = 1)) (decide (ff = 1)) (decide (fc = 1)) (decide (fs = 1)) ft.toNat fo.toNat fa.toNat fy.toNat fp.toNat)

/-- OBRES (R196). -/
def execObres (fs : BitVec 6) (fo : BitVec 3) (s : State) : Out :=
  issue (.obres fs fo) s (opObres fs.toNat fo.toNat)

/-- OBFREE (R197). -/
def execObfree (fo : BitVec 3) (s : State) : Out :=
  issue (.obfree fo) s (opObfree fo.toNat)

/-- ACCZERO (R198). -/
def execAcczero (ft : BitVec 4) (s : State) : Out :=
  issue (.acczero ft) s (opAcczero ft.toNat)

/-- ACCRD (R200). -/
def execAccrd (ff : BitVec 1) (ft : BitVec 4) (fd : BitVec 7) (fs : BitVec 6) (s : State) : Out :=
  issue (.accrd ff ft fd fs) s (opAccrd ft.toNat fd.toNat fs.toNat (decide (ff = 1)))

/-- ACCWR (R201). -/
def execAccwr (ft : BitVec 4) (fv : BitVec 7) (fs : BitVec 6) (s : State) : Out :=
  issue (.accwr ft fv fs) s (opAccwr ft.toNat fv.toNat fs.toNat)

/-- SPTILE (R197). -/
def execSptile (fs : BitVec 6) (fo : BitVec 3) (s : State) : Out :=
  issue (.sptile fs fo) s (opSptile fs.toNat fo.toNat)

/-- CHARTPF (R208). -/
def execChartpf (fp : BitVec 4) (fo : BitVec 3) (s : State) : Out :=
  issue (.chartpf fp fo) s (opChartpf fp.toNat fo.toNat)

/-- CHARTINV (R207). -/
def execChartinv (fo : BitVec 3) (s : State) : Out :=
  issue (.chartinv fo) s (opChartinv fo.toNat)

/-- CHARTQ (R208). -/
def execChartq (ff : BitVec 1) (fd : BitVec 6) (fp : BitVec 4) (fo : BitVec 3) (s : State) : Out :=
  issue (.chartq ff fd fp fo) s (opChartq fd.toNat fp.toNat fo.toNat (decide (ff = 1)))

/-- TALLOC (R198). -/
def execTalloc (fi : BitVec 1) (fu : BitVec 5) (ft : BitVec 4) (s : State) : Out :=
  issue (.talloc fi fu ft) s (opTalloc (decide (fi = 1)) fu.toNat ft.toNat)

/-- TFREE (R198). -/
def execTfree (ft : BitVec 4) (s : State) : Out :=
  issue (.tfree ft) s (opTfree ft.toNat)

/-- MATRIX_QUEUE_HEAD_START (R192): An accumulator instruction at the head of the group's matrix queue runs at once on accumulator memory. -/
def execMatrixQueueHeadStart (s : State) : Out :=
  evHeadStart s

/-- MMA_ARRAY_START (R194): When the array falls free it starts the ready head MMA of the next group in round-robin order, or a follower course MMA first. -/
def execMmaArrayStart (s : State) : Out :=
  evArrayStart s

/-- MATRIX_OP_COMPLETE (R192): An MMA or accumulator operation finishes its last cycle and leaves the matrix queue. -/
def execMatrixOpComplete (s : State) : Out :=
  evMatrixComplete s

/-- MATRIX_FLAG_CLEAR (R192): Twenty cycles after the end of an MMA or ACCRD its completion flag clears. -/
def execMatrixFlagClear (s : State) : Out :=
  evMatrixFlag s

/-- COURSE_MMA_DISPATCH (R203): A course MMA at the leader's head is dispatched to the follower core, taking its array at the next free point. -/
def execCourseMmaDispatch (s : State) : Out :=
  evCourseDispatch s

/-- CHART_COMPILE_START (R205): The core's chart compiler takes the next compile request in arrival order. -/
def execChartCompileStart (s : State) : Out :=
  evChartStart s

/-- CHART_COMPILE_END (R205): A compile ends after its cycle count with a ready chart or a dense fallback entry in the chart cache. -/
def execChartCompileEnd (s : State) : Out :=
  evChartEnd s

end Sys2Proof.Machine
end

