-- ==== Sys2Proof/Machine/Control.lean ====
section
/-! DEFINITION. Control instructions: branches, the divergence stack, calls, hardware loops, EXIT, traps and hints (04 R106 to
R120). A transfer is recorded in the pass and takes place at commit. -/

namespace Sys2Proof.Machine

/-! ## Clause headers (01 R31; 03 R77; 04 R107) -/

/-- The code object whose text holds an address. -/
def objOf (d : Device) (sp : Nat × Nat) (va : Word64) : Option CodeObj :=
  d.objs.find? fun o => decide (o.space = sp) && decide (o.base.toNat ≤ va.toNat) && decide (va.toNat < o.base.toNat + o.size)

/-- Whether an address is that of a clause header. -/
def isHeader (d : Device) (sp : Nat × Nat) (va : Word64) : Bool :=
  match objOf d sp va with
  | some o => let x := va.toNat - o.base.toNat; decide (x % 2 = 0) && o.starts.contains (x / 2)
  | none => false

/-- The header after a header, in the same code object. -/
def headerAfter (d : Device) (sp : Nat × Nat) (va : Word64) : Option Word64 :=
  match objOf d sp va with
  | some o => (o.starts.find? fun x => decide (va.toNat - o.base.toNat < 2 * x)).map fun x => o.base + BitVec.ofNat 64 (2 * x)
  | none => none

/-- Transfers to a header at commit; another target is an Illegal Clause (01 R31). -/
def Spec.goto (p : Spec) (va : Word64) : Res :=
  if isHeader p.dev p.space va then .ok { p with xfer := some va, taken := true } else .error clauseTrap

/-- Target of a relative transfer: base + 2 × sext(off). -/
def relTarget {n : Nat} (p : Spec) (off : BitVec n) : Word64 := p.prt.pc + simm64 off + simm64 off

/-! ## Branches (04 R108 to R110, R114) -/

/-- BRA. -/
def opBra (off : BitVec 21) (p : Spec) : Res := p.goto (relTarget p off)

/-- BRNZ and BRZ. -/
def opBrz (nz : Bool) (off : BitVec 15) (a : Nat) (p : Spec) : Res :=
  if (p.sreg a != 0) == nz then p.goto (relTarget p off) else .ok p

/-- The address after a call is written to s62. -/
def opCall (target : Spec → Word64) (p : Spec) : Res := (p.setS false 62 p.nextClause).goto (target p)

/-- RET. -/
def opRet (a : Nat) (p : Spec) : Res := p.goto (p.sreg a)

/-- Whether the active lanes of a quad lie all in T or all in F. -/
def cleanQuad (t f : Word64) (q : Nat) : Bool := bits t (4 * q + 3) (4 * q) == 0 || bits f (4 * q + 3) (4 * q) == 0

/-- BRM. -/
def opBrm (off : BitVec 15) (a : Nat) (p : Spec) : Res :=
  let m := p.sreg 63
  let t := m &&& p.sreg a
  let f := m &&& ~~~ p.sreg a
  if t = 0 then .ok p
  else if f = 0 then p.goto (relTarget p off)
  else if (quadsOf p.prt.quads).all (cleanQuad t f) && decide (p.wav.live.length < 4) then
    if isHeader p.dev p.space (relTarget p off) then
      .ok { p with split := some (quadsWith t, relTarget p off), taken := true }
    else .error clauseTrap
  else if !isHeader p.dev p.space (relTarget p off) then .error clauseTrap
  else if 32 ≤ p.prt.stack.length then .error (trapOf 10 0 0 0 0)
  else
    let e : DivEntry := ⟨p.nextClause, f, m, .first⟩
    (({ p with prt := { p.prt with stack := e :: p.prt.stack } }).putMask t).goto (relTarget p off)

/-! ## JOIN (04 R111, R112) -/

/-- JOIN: with an entry on the stack it acts on it, and a resume PC that is no header is an Illegal Clause (01 R31); with none, its wait
ended at the header. -/
def opJoin (p : Spec) : Res :=
  if p.prt.skipJoin then .ok { p with prt := { p.prt with skipJoin := false } }
  else
    match p.prt.stack with
    | [] => .ok p
    | e :: l =>
      match e.st with
      | .first =>
        let e' := { e with st := .second, resume := p.prt.pc }
        if isHeader p.dev p.space e.resume then
          .ok { ({ p with prt := { p.prt with stack := e' :: l } }).putMask e.rmask with
            xfer := some e.resume, taken := true, cut := true }
        else .error clauseTrap
      | .second => .ok (({ p with prt := { p.prt with stack := l } }).putMask e.smask)

/-! ## Hardware loops (04 R115) -/

/-- LOOP and LOOPI. Where several traps apply the end is looked at first and the two active levels last, and a count of zero that finds no header
after the end is an Illegal Clause: the model's choice (log entry 103). -/
def opLoop (stop : Nat) (count : Spec → Word32) (p : Spec) : Res :=
  let e := p.prt.pc + BitVec.ofNat 64 (2 * stop)
  let n := count p
  if e.toNat < p.nextClause.toNat then .error illegalTrap
  else if !isHeader p.dev p.space e then .error clauseTrap
  else if n = 0 then
    match headerAfter p.dev p.space e with
    | some t => p.goto t
    | none => .error clauseTrap
  else if 2 ≤ p.prt.loops.length then .error (trapOf 11 0 0 0 0)
  else .ok { p with prt := { p.prt with loops := ⟨n, p.nextClause, e⟩ :: p.prt.loops }, taken := true }

/-! ## EXIT (04 R118) -/

/-- The stack action, repeated while s63 is zero: the state after it. -/
def exitGo (p : Spec) : Nat → Spec
  | 0 => p
  | n + 1 =>
    if p.sreg 63 != 0 then p
    else
      match p.prt.stack with
      | [] => p
      | e :: l =>
        match e.st with
        | .first =>
          let e' := { e with st := .second, resume := p.nextClause }
          let q := ({ p with prt := { p.prt with stack := e' :: l, skipJoin := false } }).putMask e.rmask
          exitGo { q with xfer := some e.resume, taken := true } n
        | .second =>
          let q := ({ p with prt := { p.prt with stack := l, skipJoin := true } }).putMask e.smask
          exitGo { q with xfer := some e.resume, taken := true } n

/-- EXIT: the active lanes retire; with none left the stack acts, and where it takes the part must be a header (01 R31). A part whose
every lane has retired retires at commit. -/
def opExit (p : Spec) : Res :=
  let m := p.sreg 63
  let q := ({ p with wav := { p.wav with exited := p.wav.exited ||| m } }).putMask 0
  let q := { q with prt := { q.prt with skipJoin := false } }
  let r := exitGo { q with xfer := none } (2 * q.prt.stack.length)
  let gone := decide (liveLanes r.wav r.prt.quads = 0)
  match r.xfer with
  | none => .ok { r with xfer := p.xfer, taken := gone || r.taken }
  | some va => if gone || isHeader p.dev p.space va then .ok r else .error clauseTrap

/-! ## Traps and hints (04 R113, R119, R120, R128) -/

/-- TRAP and BKPT; the pass bit lets one execution by. -/
def opTrap (cause imm : Nat) (p : Spec) : Res := if p.prt.passBit then .ok p else .error (trapOf cause 0 imm 0 0)

/-- YIELD. Of two in one clause the later one's count holds, and one end ends both kinds of wait; the same for SLEEP: the model's choice (log entry
86). -/
def opYield (n : Nat) (p : Spec) : Res :=
  .ok { p with prt := if n = 0 then { p.prt with yieldOther := true } else { p.prt with yieldLeft := n + 1 } }

/-- SLEEP. -/
def opSleep (n : Nat) (p : Spec) : Res :=
  .ok { p with prt := if n = 0 then { p.prt with sleepTick := true } else { p.prt with sleep := 64 * n + 1 } }

/-! ## Meanings -/

/-- BRA (R108). -/
def execBra (fi : BitVec 21) (s : State) : Out :=
  issue (.bra fi) s (opBra fi)

/-- BRNZ (R108). -/
def execBrnz (fi : BitVec 15) (fa : BitVec 6) (s : State) : Out :=
  issue (.brnz fi fa) s (opBrz true fi fa.toNat)

/-- BRZ (R108). -/
def execBrz (fi : BitVec 15) (fa : BitVec 6) (s : State) : Out :=
  issue (.brz fi fa) s (opBrz false fi fa.toNat)

/-- BRM (R109). -/
def execBrm (fi : BitVec 15) (fa : BitVec 6) (s : State) : Out :=
  issue (.brm fi fa) s (opBrm fi fa.toNat)

/-- JOIN (R111). -/
def execJoin (fc : BitVec 5) (s : State) : Out :=
  issue (.join fc) s (opJoin)

/-- CALL (R114). -/
def execCall (fi : BitVec 21) (s : State) : Out :=
  issue (.call fi) s (opCall fun p => relTarget p fi)

/-- CALLR (R114). -/
def execCallr (fa : BitVec 6) (s : State) : Out :=
  issue (.callr fa) s (opCall fun p => p.sreg fa.toNat)

/-- RET (R114). -/
def execRet (fa : BitVec 6) (s : State) : Out :=
  issue (.ret fa) s (opRet fa.toNat)

/-- LOOP (R115). -/
def execLoop (fe : BitVec 15) (fa : BitVec 6) (s : State) : Out :=
  issue (.loop fe fa) s (opLoop fe.toNat fun p => (p.sreg fa.toNat).setWidth 32)

/-- LOOPI (R115). -/
def execLoopi (fe : BitVec 11) (fn : BitVec 10) (s : State) : Out :=
  issue (.loopi fe fn) s (opLoop fe.toNat fun _ => fn.setWidth 32)

/-- EXIT (R118). -/
def execExit (s : State) : Out :=
  issue .exit s (opExit)

/-- TRAP (R119). -/
def execTrap (fi : BitVec 16) (s : State) : Out :=
  issue (.trap fi) s (opTrap 7 fi.toNat)

/-- BKPT (R119). -/
def execBkpt (fi : BitVec 16) (s : State) : Out :=
  issue (.bkpt fi) s (opTrap 6 fi.toNat)

/-- YIELD (R120). -/
def execYield (fi : BitVec 8) (s : State) : Out :=
  issue (.yield fi) s (opYield fi.toNat)

/-- FUSE (R113). -/
def execFuse (fw : BitVec 3) (s : State) : Out :=
  issue (.fuse fw) s (.ok)

/-- NOP (R120). -/
def execNop (s : State) : Out :=
  issue .nop s (.ok)

end Sys2Proof.Machine
end

