-- ==== Sys2Proof/Machine/System.lean ====
section
/-! DEFINITION. System instructions: special registers, allotments, task queues, device-side launch and time (04 R121 to R129). -/

namespace Sys2Proof.Machine

/-! ## Special registers (04 R122, R123) -/

/-- Groups per cohort of a packet (09 R238). -/
def cohortSize (pk : List Word64) : Nat := bits (dw pk 3) 36 32 + 1

/-- Dwords of the packet of a wave's launch. -/
def Spec.packet (p : Spec) : List Word64 := ((p.dev.launches.get? p.wav.launch).map (·.packet)).getD []

/-- FPX as the clause leaves it. -/
def Spec.fpxNow (p : Spec) : Word64 := p.fpxBase ||| p.wav.fpx

/-- SPDOOB as the clause leaves it (01 R25). -/
def Spec.oobNow (p : Spec) : Word64 := if bit p.oobBase 63 then p.oobBase else if bit p.grp.spdoob 63 then p.grp.spdoob else p.oobBase

/-- LC0 is the outer level and LC1 the inner; a level that is not active reads 0 (04 R115, R116). -/
def loopCount (l : List LoopLevel) (i : Nat) : Nat := ((l.reverse[i]?).map fun x => x.count.toNat).getD 0

/-- What SREAD of a selector reads; FPX and SPDOOB with what earlier instructions of the same clause have done to them (log entry 20). -/
def sysRead (p : Spec) (sel : Nat) : Word64 :=
  let n := cohortSize p.packet
  match sel with
  | 0x000 => BitVec.ofNat 64 p.wav.lanes
  | 0x001 => p.prt.quads.setWidth 64
  | 0x002 => BitVec.ofNat 64 p.wav.index
  | 0x003 => BitVec.ofNat 64 (p.grp.index % n + p.grp.index * 2 ^ 32)
  | 0x004 => BitVec.ofNat 64 (p.grp.index / n)
  | 0x005 => BitVec.ofNat 64 p.wav.core
  | 0x006 => BitVec.ofNat 64 p.dev.clk.cycle
  | 0x007 => BitVec.ofNat 64 p.dev.clk.pulse
  | 0x008 => p.pts0
  | 0x010 => p.grp.mode
  | 0x011 => p.fpxNow
  | 0x012 => BitVec.ofNat 64 (loopCount p.prt.loops 0)
  | 0x013 => BitVec.ofNat 64 (loopCount p.prt.loops 1)
  | 0x014 => BitVec.ofNat 64 (bits p.grp.mode 20 16)
  | 0x015 => p.oobNow
  | 0x016 => BitVec.ofNat 64 (p.wav.role * 2 ^ 24 + p.wav.full * 2 ^ 16 + p.wav.prologue * 2 ^ 8 + p.wav.cur)
  | 0x017 => (p.dev.core p.wav.core).stale
  | 0x018 => BitVec.ofNat 64 p.grp.splitd
  | _ => BitVec.ofNat 64 p.grp.fusel

/-- SREAD. -/
def opSread (d sel : Nat) (p : Spec) : Res := .ok (p.setS false d (sysRead p sel))

/-- JOINT codes that are legal in MODE (01 R19, R20). -/
def jointOk (j : Nat) : Bool := (decide (1 ≤ j) && decide (j ≤ 20)) || decide (j = 31)

/-- Whether a value may be written to MODE (01 R20). -/
def modeOk (v : Word64) : Bool := decide (bits v 2 0 ≠ 0) && decide (bits v 2 0 ≠ 7) && jointOk (bits v 20 16)

/-- A written loop counter: 0 removes the level, and LC1 with LC0; another value replaces the count of an active level (04 R117). -/
def writeLoop (l : List LoopLevel) (i : Nat) (n : Word32) : List LoopLevel :=
  let r := l.reverse
  if r.length ≤ i then l
  else if n = 0 then (r.take i).reverse
  else (r.modify i fun x => { x with count := n }).reverse

/-- SWRITE: a value outside the stated range is illegal; what hardware events have done to the register in this cycle comes after it. -/
def opSwrite (a sel : Nat) (p : Spec) : Res :=
  let v := p.sreg a
  let grp (g : Group) : Res := .ok { p with grp := g }
  match sel with
  | 0x010 => if modeOk v then grp { p.grp with mode := v &&& 0x1F01FF#64 } else .error illegalTrap
  | 0x011 => .ok { p with fpxBase := v &&& 0x13F#64 ||| p.wav.fpxOf p.dev.clk.cycle }
  | 0x012 => .ok { p with prt := { p.prt with loops := writeLoop p.prt.loops 0 (v.setWidth 32) } }
  | 0x013 => .ok { p with prt := { p.prt with loops := writeLoop p.prt.loops 1 (v.setWidth 32) } }
  | 0x014 => if jointOk v.toNat then grp { p.grp with mode := putBits p.grp.mode 20 16 v.toNat } else .error illegalTrap
  | 0x015 =>
    let x := v &&& 0x80000000FFFFFFFF#64
    .ok { p with oobBase := if bit x 63 then x else if p.grp.oobAt = p.dev.clk.cycle + 1 then p.grp.oobNew else x }
  | 0x017 => .ok { p with dev := p.dev.setCore p.wav.core { p.dev.core p.wav.core with stale := v + p.dev.staleOf p.wav.core } }
  | 0x018 => if v.toNat ≤ 65535 then grp { p.grp with splitd := v.toNat } else .error illegalTrap
  | 0x019 =>
    if 1024 ≤ v.toNat && decide (v.toNat ≤ 2 ^ 31) then grp { p.grp with fusel := v.toNat } else .error illegalTrap
  | _ => .error illegalTrap

/-! ## Allotments (04 R124) -/

/-- Values of vector registers from `r` on leave a list of window entries. -/
def dropHigh (r : Nat) (l : List WEntry) : List WEntry :=
  l.map fun e => { e with w := e.w.filter fun x => match x.1 with | .v k _ => decide (k < r) | _ => true }

/-- The registers of a wave from `r` on read as zero, in the banks and in every part's window. -/
def Wave.zeroFrom (w : Wave) (r : Nat) : Wave :=
  { w with vregs := w.vregs.keep fun k => decide (k % 128 < r), parts := w.parts.map fun q => { q with window := dropHigh r q.window } }

/-- The registers that RELEASE gives up are discarded. -/
def Spec.discard (p : Spec) : Spec :=
  if p.released then
    { p with wav := p.wav.zeroFrom p.wav.prologue, prt := { p.prt with window := dropHigh p.wav.prologue p.prt.window }, released := false }
  else p

/-- ACQUIRE: the clause started because the arbiter granted it (09 R224); the registers were cleared at the grant. -/
def opAcquire (p : Spec) : Res := let p := p.discard; .ok { p with wav := { p.wav with cur := p.wav.full, acqGrant := false } }

/-- RELEASE: the wave has its prologue allotment; the registers above it are discarded at commit. -/
def opRelease (p : Spec) : Res := .ok { p with wav := { p.wav with cur := p.wav.prologue }, released := true }

/-! ## Task queues (04 R125, R126) -/

/-- Whether the packet allots a task queue to the launch (09 R238). -/
def tqAllotted (pk : List Word64) (q : Nat) : Bool := bit (dw pk 12) q

/-- Waves in a set. -/
def setWaves (pk : List Word64) (sets : List (Word64 × Word64)) (k : Nat) : Nat :=
  ((List.range (bits (dw pk 3) 31 0)).map fun g => (below (bits (dw pk 4) 6 0) fun w => inSet sets k g w).length).foldl (· + ·) 0

/-- TQINIT. -/
def opTqinit (b a : Nat) (p : Spec) : Res :=
  let v := p.sreg a
  let x := p.sreg b
  let q := bits v 5 0
  if !tqAllotted p.packet q then .error illegalTrap
  else
    let t : TaskQueue := ⟨BitVec.ofNat 32 (bits x 31 0), BitVec.ofNat 32 (bits x 63 32), BitVec.ofNat 32 (max 1 (bits v 47 16)),
      max 1 (setWaves p.packet (p.dev.setsOf p.wav.launch) (bits v 15 8))⟩
    .ok { p with dev := { p.dev with taskQ := p.dev.taskQ.set q t } }

/-- An empty task queue (09 R247). -/
def emptyQueue : TaskQueue := ⟨0, 0, 1, 1⟩

/-- The chunk that a take gets (04 R126). -/
def chunkOf (t : TaskQueue) : Nat :=
  min t.remaining.toNat (max t.minChunk.toNat (ceilDiv t.remaining.toNat (2 * t.consumers)))

/-- TQTAKE: the clause is held at its commit until the result has arrived. -/
def opTqtake (a d : Nat) (p : Spec) : Res :=
  let q := bits (p.sreg a) 5 0
  if !tqAllotted p.packet q then .error illegalTrap
  else
    p.stopUntil .taskQueue fun p =>
      let t := p.dev.taskQ.getD q emptyQueue
      let n := BitVec.ofNat 32 (chunkOf t)
      let p := p.setS2 d (t.next.setWidth 64) (n.setWidth 64)
      .ok { p with dev := { p.dev with taskQ := p.dev.taskQ.set q { t with next := t.next + n, remaining := t.remaining - n } } }

/-! ## LAUNCH (04 R127, 09 R248) -/

/-- Descriptors that LAUNCH has read: the checks of their accesses, the packets in ascending lane order, and the reasons of those that cannot be
had although they translate. -/
structure LaunchRead where
  /-- The checks. -/
  chk : Checked
  /-- The packets. -/
  packets : List (List Word64)
  /-- Lanes whose descriptors cannot be had, and why. -/
  barred : List (LaneAcc × AccFault)
  /-- The lines of the descriptors. -/
  lines : List (Nat × Leaf)
  deriving DecidableEq, Repr

/-- The dwords of a range of bytes. -/
def dwordsOf (b : List Byte) : List Word64 := (chunks 8 (b.length / 8) b).map (BitVec.ofNat 64)

/-- Checks and reads the descriptors of the lanes with a pointer, in ascending lane order. -/
def launchRead (who : Asker) (core : Nat) (sp : Nat × Nat) : List (Nat × Word64) → LaunchRead → LaunchRead
  | [], r => r
  | x :: l, r =>
    let a : LaneAcc := ⟨x.1, x.2, 256, [], []⟩
    match element r.chk.dev who core sp .load false x.2 256 with
    | (.error .wait, d) => launchRead who core sp l { r with chk := { r.chk with dev := d, waits := true } }
    | (.error f, d) => launchRead who core sp l { r with chk := { r.chk with dev := d, bad := r.chk.bad ++ [(a, f)] } }
    | (.ok e, d) =>
      launchRead who core sp l { r with chk := { r.chk with dev := d }, packets := r.packets ++ [dwordsOf (d.bytes e.keys)],
                                        barred := r.barred ++ ((d.barred true e.keys).map fun f => (a, f)).toList, lines := r.lines ++ e.leaves }

/-- The trap of descriptors whose lines are lost or cannot be reached (log entry 80). -/
def LaunchRead.gone (r : LaunchRead) : Option TrapInfo :=
  match r.barred.filterMap fun x => match x.2 with | .gone c => some (x.1, c) | _ => none with
  | [] => none
  | (x, c) :: l => some (goneTrap c (accLanes (x :: l.map (·.1))) x.va)

/-- Appends children to a device queue, each with the next launch sequence number. -/
def addChildren (sp : Nat × Nat) (q : Nat) (start : Word64) (l : List (List Word64)) (d : Device) : Device :=
  l.foldl (fun d pk =>
    { d with devQ := d.devQ.set q ((d.devQ.getD q []) ++ [⟨d.seq, sp, pk, start⟩]), seq := (d.seq + 1) % 2 ^ 48 }) d

/-- Whether nothing that a child of a LAUNCH now would observe has still to be performed. -/
def Spec.childReady (p : Spec) : Bool := (p.dev.beforeChild p.wid p.prt.quads).isEmpty

/-- LAUNCH. The part's earlier stores and atomics are performed first, so that a child observes them; its descriptors are read as loads of the part,
for which it waits (10 R252, R268; 12 R299). -/
def opLaunch (d va : Nat) (p : Spec) : Res :=
  let ls := (p.act.map fun l => (l, p.vpair va l)).filter fun x => x.2 != 0
  let p := p.drained Spec.childReady
  if !p.childReady then .ok (p.stopFor .child)
  else
    let r := launchRead p.asker p.wav.core p.space ls ⟨⟨p.dev, [], [], false⟩, [], [], []⟩
    let p := { p with dev := r.chk.dev }
    if r.chk.waits then .ok (p.stopFor .walk) else
    match (accTrap p 0 [] r.chk).orElse fun _ => r.gone with
    | some t => .error t
    | none =>
      let q := childQueue p.packet
      if !r.barred.isEmpty then .ok (p.stopFor .line) else
      if p.dev.childRoom q < ls.length then .ok (p.stopFor .launchFull)
      else
        let first := p.dev.seq
        let x := p.dev.readLines p.wav.core (tmax p.dev.pulse p.prt.pts p.prt.owed) r.lines
        let p := { p with dev := addChildren p.space q x.1 r.packets x.2, prt := { p.prt with pts := if r.lines.isEmpty then p.prt.pts else x.1 } }
        .ok (p.setS false d (BitVec.ofNat 64 (first + ls.length * 2 ^ 48)))

/-! ## Time (04 R129) -/

/-- GETTIME: pts as the clause found it. The manual says that the accesses of a clause are timed after it, and not what GETTIME and SREAD of LTIME give
behind a BARWAIT, BARTRY, GBAR, WAITB or BFENCE of their clause, which raise pts too: the model's choice (log entry 20). -/
def opGettime (d : Nat) (p : Spec) : Res := .ok (p.setS2 d p.pts0 (BitVec.ofNat 64 p.dev.clk.pulse))

/-! ## Meanings -/

/-- SREAD (R123). -/
def execSread (fd : BitVec 6) (fs : BitVec 10) (s : State) : Out :=
  issue (.sread fd fs) s (opSread fd.toNat fs.toNat)

/-- SWRITE (R123). -/
def execSwrite (fa : BitVec 6) (fs : BitVec 10) (s : State) : Out :=
  issue (.swrite fa fs) s (opSwrite fa.toNat fs.toNat)

/-- ACQUIRE (R124). -/
def execAcquire (s : State) : Out :=
  issue .acquire s (opAcquire)

/-- RELEASE (R124). -/
def execRelease (s : State) : Out :=
  issue .release s (opRelease)

/-- TQINIT (R125). -/
def execTqinit (fb : BitVec 6) (fa : BitVec 6) (s : State) : Out :=
  issue (.tqinit fb fa) s (opTqinit fb.toNat fa.toNat)

/-- TQTAKE (R126). -/
def execTqtake (fa : BitVec 6) (fd : BitVec 6) (s : State) : Out :=
  issue (.tqtake fa fd) s (opTqtake fa.toNat fd.toNat)

/-- LAUNCH (R127). -/
def execLaunch (fd : BitVec 6) (fa : BitVec 7) (s : State) : Out :=
  issue (.launch fd fa) s (opLaunch fd.toNat fa.toNat)

/-- SLEEP (R128). -/
def execSleep (fi : BitVec 16) (s : State) : Out :=
  issue (.sleep fi) s (opSleep fi.toNat)

/-- GETTIME (R129). -/
def execGettime (fd : BitVec 6) (s : State) : Out :=
  issue (.gettime fd) s (opGettime fd.toNat)

end Sys2Proof.Machine
end

