-- ==== Sys2Proof/Machine/Observe.lean ====
section
/-! DEFINITION. What the device writes for the outside world: code positions, stores of its own, MSI-X messages, trace streams,
profile records and the error log (01 R44; 13 R318, R328; 14 R341, R344 to R346). -/

namespace Sys2Proof.Machine

/-! ## Code positions (01 R44) -/

/-- Identifier of the code object at an address; 0 when none is there. -/
def objIdent (d : Device) (sp : Nat × Nat) (va : Word64) : Word64 := ((objOf d sp va).map (·.ident)).getD 0

/-- Clause offset and marker ordinal of a header, as [63:32] and [31:0]. -/
def position (d : Device) (sp : Nat × Nat) (va : Word64) : Word64 :=
  match objOf d sp va with
  | none => 0xFFFFFFFF#64
  | some o =>
    let x := (va.toNat - o.base.toNat) / 2
    match (o.markers.zipIdx.filter fun m => decide (m.1 ≤ x)).getLast? with
    | some m => BitVec.ofNat 64 ((o.starts.filter fun s => decide (m.1 < s) && decide (s ≤ x)).length * 2 ^ 32 + m.2)
    | none => BitVec.ofNat 64 ((o.starts.filter fun s => decide (s < x)).length * 2 ^ 32 + 0xFFFFFFFF)

/-- The marker ordinal of a header, if it is a marker. -/
def markerAt (d : Device) (sp : Nat × Nat) (va : Word64) : Option Nat :=
  (objOf d sp va).bind fun o => o.markers.findIdx? fun m => decide (o.base.toNat + 2 * m = va.toNat)

/-- The liveness masks of the marker at an address, as its entry in device memory holds them: reservoirs in bits 33 and 32 of the first dword,
scalars, vectors 0 to 63, vectors 64 to 127 (15 R350). -/
def liveAt (d : Device) (sp : Nat × Nat) (va : Word64) : Option (List Word64) :=
  (objOf d sp va).bind fun o => (o.markers.findIdx? fun m => decide (o.base.toNat + 2 * m = va.toNat)).map fun i =>
    (List.range 4).map fun k => BitVec.ofNat 64 (memNat d.mem (o.table + 32 * i + 8 * k) 8)

/-! ## MSI-X (13 R318) -/

/-- Sends a message, or sets the pending bit of a masked vector. -/
def Device.msix (d : Device) (fn v : Nat) : Device :=
  let f := d.fn fn
  if bit f.masked v then d.setFn fn { f with pendingMsix := f.pendingMsix ||| BitVec.ofNat 32 (2 ^ v) }
  else { d with out := .msix fn v :: d.out }

/-! ## Trace (14 R344 to R346) -/

/-- TRCCTL of a function. -/
def HostFn.trcctl (f : HostFn) : Word64 := f.regs.get 0x2448

/-- Whether a function's streams take records of a type. -/
def HostFn.traces (f : HostFn) (ty : Nat) : Bool :=
  bit f.trcctl 31 &&
    (match ty with
      | 0x10 => bit f.trcctl 8 | 0x11 => bit f.trcctl 8 | 0x20 => bit f.trcctl 9
      | 0x21 => bit f.trcctl 10 | 0x22 => bit f.trcctl 10 | 0x30 => bit f.trcctl 11
      | _ => true)

/-- Notes an event for the stream of a core; its record is written at the end of the nanosecond. -/
def Device.note (d : Device) (fn core ty payload : Nat) (arg : Word64) : Device :=
  if (d.fn fn).traces ty then { d with trace := ⟨fn, core, ty, payload, arg⟩ :: d.trace } else d

/-- The place of a type among events with one stamp. -/
def traceRank (ty : Nat) : Nat :=
  match ty with
  | 0x02 => 0 | 0x10 => 1 | 0x11 => 1 | 0x20 => 2 | 0x21 => 3 | 0x22 => 3 | _ => 4

/-- A ring offset of the header, taken as 64 where it names no record. -/
def ringOff (size : Nat) (w : Word64) : Nat := if w.toNat < 64 || decide (size ≤ w.toNat) then 64 else w.toNat / 16 * 16

/-- The base of the ring of a core. -/
def Device.ringBase (d : Device) (fn core : Nat) : Word64 :=
  (d.fn fn).regs.get 0x2440 + BitVec.ofNat 64 (core * 2 ^ bits (d.fn fn).trcctl 4 0)

/-- Where a ring takes its next record and the write offset after it, if it can; with wrap set its read offset is never read. -/
def Device.ringSlot (d : Device) (fn core : Nat) : Option (Nat × Nat) × Device :=
  let f := d.fn fn
  let size := 2 ^ bits f.trcctl 4 0
  let base := d.ringBase fn core
  match readWords d core (fn, 0) (base :: if bit f.trcctl 30 then [] else [base + 8]) with
  | (.ok (wo :: ro), d) =>
    let w := ringOff size wo
    let next := if size ≤ w + 16 then 64 else w + 16
    (if ro.any fun r => decide (next = ringOff size r) then none else some (w, next), d)
  | (_, d) => (none, d)

/-- Counts one more in a word of memory, where it can be reached. -/
def Device.countWord (d : Device) (core : Nat) (sp : Nat × Nat) (va t : Word64) : Device :=
  match readWord d core sp va with
  | (.ok n, d) => (d.storeVa core sp va (wordBytes [n + 1]) t).2
  | (.error _, d) => d

/-- Counts a record that a ring has no room for. -/
def Device.ringDrop (d : Device) (fn core : Nat) : Device := d.countWord core (fn, 0) (d.ringBase fn core + 16) d.floor

/-- Puts a record into a ring: whether it went in, and the device after it (log entry 21). -/
def Device.ringPut (d : Device) (fn core : Nat) (w0 w1 : Word64) : Bool × Device :=
  let base := d.ringBase fn core
  match d.ringSlot fn core with
  | (none, d) => (false, d.ringDrop fn core)
  | (some (w, next), d) =>
    match d.storeVa core (fn, 0) (base + BitVec.ofNat 64 w) (wordBytes [w0, w1]) d.floor with
    | (some _, d) => (false, d)
    | (none, d) =>
      let r := d.storeVa core (fn, 0) base (wordBytes [BitVec.ofNat 64 next]) d.floor
      (r.1.isNone, r.2)

/-- Word 0 of a record. -/
def recordWord (delta ty payload : Nat) : Word64 := BitVec.ofNat 64 (delta * 2 ^ 48 + ty * 2 ^ 40 + payload % 2 ^ 40)

/-- Writes one record at the present stamp; one that does not go in counts as lost. -/
def Device.putRecord (d : Device) (fn core : Nat) (s : Stream) (delta ty payload : Nat) (arg : Word64) : Stream × Device :=
  let r := d.ringPut fn core (recordWord delta ty payload) arg
  (if r.1 then { s with last := d.clk.ns } else { s with lost := s.lost + 1 }, r.2)

/-- A STAMP at the present stamp. -/
def Device.putStamp (d : Device) (fn core : Nat) (s : Stream) : Stream × Device :=
  d.putRecord fn core s 0 0x01 0 (BitVec.ofNat 64 d.clk.ns)

/-- A record other than STAMP and CLOCK, with a STAMP before it when its delta would be too large. -/
def Device.putTimed (d : Device) (fn core : Nat) (s : Stream) (ty payload : Nat) (arg : Word64) : Stream × Device :=
  if d.clk.ns - s.last ≤ 65535 then d.putRecord fn core s (d.clk.ns - s.last) ty payload arg
  else
    let r := d.putStamp fn core s
    r.2.putRecord fn core r.1 0 ty payload arg

/-- Writes the record of one event, a LOST record and a STAMP first when records were lost and the ring has room again. -/
def Device.traceOne (d : Device) (e : TraceEv) : Device :=
  match (d.fn e.fn).streams.get? e.core with
  | none => d
  | some s =>
    let put (r : Stream × Device) : Stream × Device :=
      if e.ty = 0x02 then r.2.putRecord e.fn e.core r.1 0 0x02 e.payload (BitVec.ofNat 64 r.2.clk.ns)
      else r.2.putTimed e.fn e.core r.1 e.ty e.payload e.arg
    let r :=
      if s.lost = 0 then put (s, d)
      else if (d.ringSlot e.fn e.core).1.isNone then ({ s with lost := s.lost + 1 }, (d.ringSlot e.fn e.core).2.ringDrop e.fn e.core)
      else
        let l := d.putTimed e.fn e.core s 0x3F s.lost 0
        if l.1.lost = s.lost then put (l.2.putStamp e.fn e.core { l.1 with lost := 0 }) else put (l.1, l.2)
    let f := r.2.fn e.fn
    r.2.setFn e.fn { f with streams := f.streams.set e.core r.1 }

/-- Writes the records of the nanosecond that ends: clock first, then group, wave, split and fuse, and trap. -/
def Device.flushTrace (d : Device) : Device :=
  let evs := d.trace.reverse
  let l := [0, 1, 2, 3, 4].flatMap fun k => evs.filter fun e => decide (traceRank e.ty = k)
  l.foldl Device.traceOne { d with trace := [] }

/-- Opens a function's streams on every enabled core with a STAMP (14 R346). -/
def Device.openStreams (d : Device) (fn : Nat) : Device :=
  (List.range d.mgmt.cores).foldl (fun d c =>
    let r := d.putStamp fn c ⟨d.clk.ns, 0⟩
    let f := r.2.fn fn
    r.2.setFn fn { f with streams := f.streams.set c r.1 }) d

/-- Closes a function's streams. -/
def Device.closeStreams (d : Device) (fn : Nat) : Device := let f := d.fn fn; d.setFn fn { f with streams := [] }

/-- Payload of a CLOCK record, as CLKNOW gives it; 0 when the clock stops. -/
def clockWord (c : Clocks) (mhz : Nat) : Nat := if mhz = 0 then 0 else b2n c.thermThr * 2 ^ 17 + b2n c.powerThr * 2 ^ 16 + mhz

/-- Notes a change of the clock for one core in every function's stream. -/
def Device.noteClock (d : Device) (core mhz : Nat) : Device :=
  d.fns.foldl (fun d f => if (f.2.streams.get? core).isSome then d.note f.1 core 0x02 (clockWord d.clk mhz) 0 else d) d

/-- Notes a change of the clock of every core. -/
def Device.noteClocks (d : Device) (mhz : Nat) : Device :=
  (d.fns.flatMap fun f => f.2.streams.map fun s => s.1).eraseDups.foldl (fun d c => d.noteClock c mhz) d

/-- Wave context of a wave, as trace records name it. -/
def Wave.context (w : Wave) : Nat := w.slot * 16 + w.ctx

/-- Notes an event of a wave, at a position where its record carries one. -/
def Device.noteWave (d : Device) (w : Wave) (ty payload : Nat) (arg : Word64) : Device :=
  d.note (d.spaceOf w.launch).1 w.core ty payload arg

/-- The group index of a wave. -/
def Device.groupIndex (d : Device) (w : Wave) : Nat := ((d.groups.get? w.group).map (·.index)).getD 0

/-- Notes WAVE: 0 start, 1 retire, 2 killed. -/
def Device.noteLife (d : Device) (w : Wave) (how : Nat) : Device :=
  d.noteWave w 0x20 (d.groupIndex w * 2 ^ 8 + how * 2 ^ 6 + w.index) (BitVec.ofNat 64 w.launch)

/-! ## Profile records (14 R341) -/

/-- The 128 bytes of a wave's profile record. -/
def profileRecord (d : Device) (w : Wave) : List Byte :=
  let c (i : Nat) : Word64 := w.counters.get i
  let pc := (w.parts.head?.map (·.pc)).getD 0
  wordBytes ([BitVec.ofNat 64 (b2n w.killed * 2 ^ 54 + w.index * 2 ^ 48 + w.launch % 2 ^ 48),
      BitVec.ofNat 64 (w.core * 2 ^ 32 + d.groupIndex w), objIdent d (d.spaceOf w.launch) pc, c 10, c 8] ++
    (List.range 8).map c ++ [c 9, BitVec.ofNat 64 (w.fuses % 2 ^ 32 * 2 ^ 32 + w.splits % 2 ^ 32), 0])

/-- Writes a wave's profile record into the buffer whose header has been read, or counts it as dropped; none while a write would wait. -/
def Device.profileAt (d : Device) (w : Wave) (buf hd wr rd t : Word64) : Option Device :=
  let sp := d.spaceOf w.launch
  let n := bits hd 31 0
  if decide (n = 0) || decide (n ≤ (wr - rd).toNat) then some (d.countWord w.core sp (buf + 24) t)
  else
    match d.storeVa w.core sp (buf + BitVec.ofNat 64 (64 + 128 * (wr.toNat % n))) (profileRecord d w) t with
    | (none, d) => some (d.storeVa w.core sp (buf + 8) (wordBytes [wr + 1]) t).2
    | (some e, d) => if e = .wait then none else some d

/-- Writes a wave's profile record, or counts it as dropped. None while it has to wait for a walk or a held line. -/
def Device.profile (d : Device) (w : Wave) : Option Device :=
  let buf := d.packetWord w.launch 8
  if buf = 0 then some d
  else
    match readWords d w.core (d.spaceOf w.launch) [buf, buf + 8, buf + 16] with
    | (.ok [hd, wr, rd], e) => e.profileAt w buf hd wr rd (waveTime d w)
    | (.error .wait, _) => none
    | (_, e) => some e

/-! ## The error log (13 R328) -/

/-- Writes a reliability record and signals PF vector 0; a full ring counts it in ERRLOST. The ring's address is read in
address space 0 of the PF (log entry 22). -/
def Device.errorRecord (d : Device) (ty cls unit : Nat) (pa : Word64) (count : Nat) : Device :=
  let ctl := d.mgmt.regs.get 0x8048
  let slots := 2 ^ bits ctl 4 0
  let wr := bits ctl 63 32
  let lose (d : Device) : Device :=
    { d with mgmt := { d.mgmt with regs := d.mgmt.regs.set 0x8050 (d.mgmt.regs.get 0x8050 + 1) } }
  if slots ≤ (wr + 2 ^ 24 - bits ctl 31 8) % 2 ^ 24 then lose d
  else
    let r := wordBytes [BitVec.ofNat 64 (ty + cls * 2 ^ 8 + unit % 2 ^ 32 * 2 ^ 16), pa, BitVec.ofNat 64 d.clk.ns, BitVec.ofNat 64 count]
    match d.storeVa 0 (0, 0) (d.mgmt.regs.get 0x8040 + BitVec.ofNat 64 (32 * (wr % slots))) r d.floor with
    | (some _, d) => lose d
    | (none, d) =>
      let d : Device := { d with mgmt := { d.mgmt with regs := d.mgmt.regs.set 0x8048 (putBits ctl 63 32 (wr + 1)) } }
      d.msix 0 0

end Sys2Proof.Machine
end

