-- ==== Sys2Proof/Machine/Context.lean ====
section
/-! DEFINITION. The images of a context: what a save stores of a part, a wave and a group, and what a restore reads back (01 R42; 04 R110; 12 R308
to R310). The manual gives their order and not their places, which log entry 29 gives. -/

namespace Sys2Proof.Machine

/-! ## Fields of an image -/

/-- A field: offset, bytes, value. -/
abbrev Field := Nat × Nat × Nat

/-- Byte `i` of a value. -/
def byteOf {w : Nat} (x : BitVec w) (i : Nat) : Byte := BitVec.ofNat 8 (x.toNat / 2 ^ (8 * i))

/-- The byte at an offset, if a field has it. -/
def fieldByte (l : List Field) (x : Nat) : Option Byte :=
  (l.find? fun f => decide (f.1 ≤ x) && decide (x < f.1 + f.2.1)).map fun f => BitVec.ofNat 8 (f.2.2 / 2 ^ (8 * (x - f.1)))

/-- A register as bytes of a slot give it; a byte that cannot be had leaves what was saved. -/
def regFrom {w : Nat} (get : Nat → Option Byte) (off n : Nat) (old : BitVec w) : BitVec w :=
  BitVec.ofNat w (leNat ((List.range n).map fun i => (get (off + i)).getD (byteOf old i)))

/-! ## A part -/

/-- Bytes of a part's record. -/
def partSize : Nat := 1536

/-- Offset of the divergence stack in a part's record: 24 bytes an entry, the oldest first. -/
def stackAt : Nat := 512

/-- The resume PC of an entry, its state in the bit that is 0 in the address of a header. -/
def DivEntry.word (e : DivEntry) : Word64 := if e.st = .second then e.resume ||| 1 else e.resume

/-- The fields of some entries of a divergence stack, the oldest first. -/
def stackFields (l : List DivEntry) : List Field :=
  l.zipIdx.flatMap fun x =>
    let o := stackAt + 24 * x.2
    [(o, 8, x.1.word.toNat), (o + 8, 8, x.1.rmask.toNat), (o + 16, 8, x.1.smask.toNat)]

/-- The fields of the active loop levels, the outer one first. -/
def loopFields (l : List LoopLevel) : List Field :=
  l.reverse.zipIdx.flatMap fun x =>
    [(1288 + 4 * x.2, 4, x.1.count.toNat), (1296 + 16 * x.2, 8, x.1.start.toNat), (1304 + 16 * x.2, 8, x.1.stop.toNat)]

/-- Quads, state code, pass bit, loop levels and stack depth of a part. -/
def partWord (code : Nat) (q : Part) : Word64 :=
  BitVec.ofNat 64 (q.stack.length * 2 ^ 24 + q.loops.length * 2 ^ 20 + b2n q.passBit * 2 ^ 19 + code * 2 ^ 16 + q.quads.toNat)

/-- The fields of a part's record after its scalars: its stack, PC, loop levels and pts, the word of its quads and state, and its counts. -/
def partFields (code : Nat) (q : Part) : List Field :=
  stackFields q.stack.reverse ++ (1280, 8, q.pc.toNat) :: loopFields q.loops ++
    [(1328, 8, q.pts.toNat), (1336, 8, (partWord code q).toNat), (1344, 8, (q.joinWait.map (·.1)).getD 0),
      (1352, 8, (q.fuseWait.map (·.1)).getD 0), (1360, 8, (q.splitWait.map (·.2.1)).getD 0)]

/-- The bytes of a part's record. -/
def partImage (code : Nat) (q : Part) : Nat → Option Byte :=
  let l := partFields code q
  fun x => if x < stackAt then some (byteOf (q.sregs.get (x / 8)) (x % 8)) else fieldByte l x

/-- A divergence entry as a record gives it. -/
def entryFrom (get : Nat → Option Byte) (o : Nat) (m : Word64) (e : DivEntry) : DivEntry :=
  let r := regFrom get o 8 e.word
  ⟨r &&& ~~~1#64, regFrom get (o + 8) 8 e.rmask &&& m, regFrom get (o + 16) 8 e.smask &&& m, if bit r 0 then .second else .first⟩

/-- A loop level as a record gives it. -/
def levelFrom (get : Nat → Option Byte) (b i : Nat) (x : LoopLevel) : LoopLevel :=
  ⟨regFrom get (b + 1288 + 4 * i) 4 x.count, regFrom get (b + 1296 + 16 * i) 8 x.start, regFrom get (b + 1304 + 16 * i) 8 x.stop⟩

/-- A part as its record at offset `b` gives it. One whose PC has been changed stands at that header and has reached it anew. -/
def partFrom (get : Nat → Option Byte) (b : Nat) (w : Wave) (q : Part) : Part :=
  let st := regFrom get (b + 1336) 8 (partWord 0 q)
  let m := laneMask q.quads
  let pc := regFrom get (b + 1280) 8 q.pc
  let sregs := (List.range 64).foldl (fun m r => m.set r (regFrom get (b + 8 * r) 8 (m.get r))) q.sregs
  let stack := (List.range (min 32 (bits st 29 24))).map fun i => entryFrom get (b + stackAt + 24 * i) m (q.stack.reverse.getD i ⟨0, 0, 0, .first⟩)
  let loops := (List.range (min 2 (bits st 21 20))).map fun i => levelFrom get b i (q.loops.reverse.getD i ⟨0, 0, 0⟩)
  let q := { q with sregs := sregs.set 63 (sregs.get 63 &&& liveLanes w q.quads), stack := stack.reverse, loops := loops.reverse,
                    pts := regFrom get (b + 1328) 8 q.pts, passBit := bit st 19 }
  if pc = q.pc then q
  else { q with pc := pc, phase := .header, clause := none, reached := false, joinDone := false, skipJoin := false, arrived := false, walked := [], watch := none,
                tallocGrant := [] }

/-! ## A wave -/

/-- Whether a bit of the liveness masks is set at the marker of some part of a wave. -/
def liveBit (d : Device) (w : Wave) (i k : Nat) : Bool :=
  w.live.any fun q => match liveAt d (d.spaceOf w.launch) q.pc with | some l => bit (dw l i) k | none => false

/-- Live vector registers of a wave, ascending. -/
def liveVs (d : Device) (w : Wave) : List Nat := (List.range 128).filter fun r => liveBit d w (if r < 64 then 2 else 3) (r % 64)

/-- Live reservoir registers of a wave, ascending. -/
def liveQs (d : Device) (w : Wave) : List Nat := (List.range 2).filter fun r => liveBit d w 0 (32 + r)

/-- Offset of a wave's own fields in its block. -/
def waveAt : Nat := 4 * partSize

/-- The pending counts of a wave's flags, four bits each. -/
def flagWord (w : Wave) : Nat := w.flags.foldl (fun n x => n + x.2.toNat * 16 ^ x.1) 0

/-- The fields of a wave: FPX; the batch counter, the generation and the launch width; the flags of every quad. -/
def waveFields (w : Wave) : List Field :=
  [(waveAt, 8, w.fpx.toNat), (waveAt + 8, 8, w.width * 2 ^ 48 + w.gen.toNat * 2 ^ 32 + w.batch.toNat), (waveAt + 16, 96, flagWord w)]

/-- The bytes of a wave's block: the records of its live parts in order, its own fields, the vector image and the reservoir image of the live
registers `vs` and `qs`. -/
def waveImage (code : Part → Nat) (vs qs : List Nat) (w : Wave) : Nat → Option Byte :=
  let n := w.lanes
  let ps := w.live.map fun q => partImage (code q) q
  let l := waveFields w
  fun x =>
    if x < waveAt then (ps[x / partSize]?).bind fun f => f (x % partSize)
    else if x < 8192 then fieldByte l x
    else if x < 8192 + 512 * n then
      let i := (x - 8192) / 4
      (vs[i / n]?).map fun r => byteOf (w.vregs.get (vkey r (i % n))) (x % 4)
    else
      let i := (x - 8192 - 512 * n) / 16
      (qs[i / n]?).map fun r => byteOf (w.qregs.get (i % n * 2 + r)) (x % 16)

/-- The place of a part among the live parts of its wave. -/
def Wave.recordOf (w : Wave) (q : Part) : Option Nat := w.live.findIdx? fun x => decide (x.quads = q.quads)

/-- A wave as its block at offset `b` gives it. -/
def waveFrom (get : Nat → Option Byte) (b : Nat) (vs qs : List Nat) (w : Wave) : Wave :=
  let n := w.lanes
  let part (q : Part) : Part := match w.recordOf q with | some i => partFrom get (b + partSize * i) w q | none => q
  let vs := vs.zipIdx.flatMap fun r => (List.range n).map fun l => (vkey r.1 l, b + 8192 + 4 * (r.2 * n + l))
  let qs := qs.zipIdx.flatMap fun r => (List.range n).map fun l => (l * 2 + r.1, b + 8192 + 512 * n + 16 * (r.2 * n + l))
  let flags : Nat := (regFrom get (b + waveAt + 16) 96 (BitVec.ofNat 768 (flagWord w))).toNat
  { w with parts := w.parts.map part
           fpx := regFrom get (b + waveAt) 8 w.fpx &&& 0x13F#64
           batch := regFrom get (b + waveAt + 8) 4 w.batch
           flags := (List.range 192).foldl (fun m k => m.set k (BitVec.ofNat 4 (flags / 16 ^ k))) w.flags
           vregs := vs.foldl (fun m x => m.set x.1 (regFrom get x.2 4 (m.get x.1))) w.vregs
           qregs := qs.foldl (fun m x => m.set x.1 (regFrom get x.2 16 (m.get x.1))) w.qregs }

/-- A wave's context is stored in its block; `code` gives the state codes of its parts. -/
def Device.putWave (d : Device) (code : Part → Nat) (w : Wave) (g : Group) : Device :=
  let b := d.blockAt w.launch w.index
  let f := waveImage code (liveVs d w) (liveQs d w) w
  d.contextPut w.core w.launch g.index b (d.blockSize w.launch) fun x => f (x - b)

/-- A wave as its block in the context area gives it, with the device after the loads (12 R308, R309). -/
def Device.getWave (d : Device) (core : Nat) (w : Wave) (g : Group) : Wave × Device :=
  let b := d.blockAt w.launch w.index
  let r := d.contextGet core w.launch g.index b (d.blockSize w.launch)
  (waveFrom r.1 b (liveVs d w) (liveQs d w) w, r.2)

/-- What happens to a saved wave while it is saved is recorded in its image, over what the image holds: completions of bank products, and times of
stores (12 R310). -/
def Device.recorded (d : Device) (wid : Nat) (f : Device → Device) : Device :=
  match d.waves.get? wid with
  | none => f d
  | some w =>
    match w.saved, d.groups.get? w.group with
    | true, some g =>
      let b := d.blockAt w.launch w.index
      let r := d.getWave w.core w g
      let d := f (r.2.setWave wid r.1)
      match d.waves.get? wid with
      | none => d
      | some w =>
        let image := waveImage (fun _ => 4) [] [] w
        let put (d : Device) (x : Nat × Nat) : Device := d.contextPut w.core w.launch g.index (b + x.1) x.2 fun x => image (x - b)
        ((waveAt, 8) :: (waveAt + 16, 96) :: w.live.zipIdx.map fun q => (partSize * q.2 + 1328, 8)).foldl put d
    | _, _ => f d

/-- Whether the liveness entry of a marker at which a part of a wave stands lies in a line that a bank product holds (10 R268). -/
def Device.marksHeld (d : Device) (w : Wave) : Bool :=
  w.live.any fun q =>
    match objOf d (d.spaceOf w.launch) q.pc with
    | none => false
    | some o =>
      match o.markers.findIdx? fun m => decide (o.base.toNat + 2 * m = q.pc.toNat) with
      | some i => d.lineHeld ((o.table + 32 * i) / 128) || d.lineHeld ((o.table + 32 * i + 31) / 128)
      | none => false

/-! ## A group -/

/-- First words in a core's accumulator memory of the units of a group's tiles, in ascending handle order. -/
def unitsOfGroup (g : Group) : List Nat :=
  g.tiles.flatMap fun t => (List.range t.2.units).map fun u => (t.2.first + u) * 4096

/-- The three words of a record. -/
def recWords (r : OBRec) : List Nat :=
  [2 ^ 47 + b2n r.sparse * 2 ^ 46 + r.blen * 2 ^ 43 + r.fmt * 2 ^ 40 + r.size * 2 ^ 20 + r.base, r.tscale.toNat * 2 ^ 32 + r.soff, r.ident.toNat]

/-- The word of a tile handle. -/
def tileWord (t : Tile) : Nat := b2n t.int * 2 ^ 24 + t.units * 2 ^ 16 + t.first * 2 ^ 8 + 1

/-- The fields of the group header: MODE, o0 to o7, t0 to t15, SPDOOB, st, the allotment size, and the units of each handle. -/
def groupFields (g : Group) : List Field :=
  (0, 8, g.mode.toNat) ::
    ((List.range 8).flatMap fun o => ((g.recs.get? o).map recWords).getD [0, 0, 0] |>.mapIdx fun i v => (8 + 24 * o + 8 * i, 8, v)) ++
    ((List.range 16).map fun t => (200 + 8 * t, 8, ((g.tiles.get? t).map tileWord).getD 0)) ++
    [(328, 8, g.spdoob.toNat), (336, 8, g.st.toNat), (344, 8, g.size)] ++
    (List.range 16).map fun t => (352 + t, 1, ((g.tiles.get? t).map (·.units)).getD 0)

/-- The bytes of a group's slot before the blocks of its waves: its header, the tile image and the scratchpad image. -/
def groupImage (g : Group) (acc : SMap 32) : Nat → Option Byte :=
  let l := groupFields g
  let us := unitsOfGroup g
  fun x =>
    if x < tileAt then fieldByte l x
    else if x < padAt then (us[(x - tileAt) / 16384]?).map fun u => byteOf (acc.get (u + (x - tileAt) % 16384 / 4)) (x % 4)
    else some (g.spad.get (x - padAt))

/-- A record as the group header gives it. -/
def recFrom (get : Nat → Option Byte) (g : Group) (o : Nat) : Option OBRec :=
  let old := ((g.recs.get? o).map recWords).getD [0, 0, 0]
  let word (i : Nat) : Word64 := regFrom get (8 + 24 * o + 8 * i) 8 (BitVec.ofNat 64 (old.getD i 0))
  let a := word 0
  if bit a 47 then
    some { base := bits a 18 0, size := bits a 39 20, fmt := bits a 42 40, blen := bits a 45 43, soff := bits (word 1) 18 0,
           tscale := BitVec.ofNat 32 (bits (word 1) 63 32), sparse := bit a 46, ident := word 2 }
  else none

/-- A tile handle as the group header gives it; one of no possible length is as it was. -/
def tileFrom (get : Nat → Option Byte) (g : Group) (t : Nat) : Option Tile :=
  let old := g.tiles.get? t
  let a : Word64 := regFrom get (200 + 8 * t) 8 (BitVec.ofNat 64 ((old.map tileWord).getD 0))
  if !bit a 0 then none
  else if decide (bits a 20 16 = 0) || decide (16 < bits a 20 16) then old
  else some ⟨bits a 11 8, bits a 20 16, bit a 24⟩

/-- A group as its header gives it. -/
def groupFrom (get : Nat → Option Byte) (g : Group) : Group :=
  { g with mode := regFrom get 0 8 g.mode
           recs := (List.range 8).filterMap fun o => (recFrom get g o).map fun r => (o, r)
           tiles := (List.range 16).filterMap fun t => (tileFrom get g t).map fun x => (t, x)
           spdoob := regFrom get 328 8 g.spdoob
           st := regFrom get 336 8 g.st }

/-- A group's own context is stored in its slot. -/
def Device.putGroup (d : Device) (core : Nat) (g : Group) : Device :=
  d.contextPut core g.launch g.index 0 (padAt + d.padSize g.launch) (groupImage g (d.core core).acc)

/-- A group's scratchpad as its slot gives it. -/
def padFrom (get : Nat → Option Byte) (g : Group) : SMap 8 :=
  (List.range g.size).foldl (fun m i => match get (padAt + i) with | some b => m.set i b | none => m) g.spad

/-- The tile images of a saved group as its slot gives them. -/
def tilesFrom (get : Nat → Option Byte) (g : Group) : SMap 32 :=
  let units := g.tiles.flatMap fun t => (List.range t.2.units).map fun u => t.1 * 2 ^ 20 + u * 4096
  units.zipIdx.foldl (fun m u => (List.range 4096).foldl
    (fun m k => m.set (u.1 + k) (regFrom get (tileAt + 16384 * u.2 + 4 * k) 4 (m.get (u.1 + k)))) m) g.images

/-! ## Meanings -/

/-- BMV_COMPLETE (R183): When every row group is done, the y range is invalidated and released, status bytes are written and the flag clears; a
saved wave's context takes the completion (12 R310). -/
def execBmvComplete (s : State) : Out :=
  let id := s.arg.getD 0 0
  .next { s with dev := match s.dev.bmvs.get? id with | some o => s.dev.recorded o.wave fun d => d.bmvFinish id | none => s.dev }

end Sys2Proof.Machine
end

