-- ==== Sys2Proof/Machine/Clause.lean ====
section
/-! DEFINITION. The life of a clause: fetch and decode checks, the conditions under which it starts, the pass over its
instructions, commit, and the hold at commit (01 R27 to R31; 03 R76 to R83; 04 R116, R118; 09 R223, R224, R227; 11 R285; 14 R337). -/

namespace Sys2Proof.Machine

/-! ## Fetch (03 R76 to R81) -/

/-- The trap of a fetch that failed: translation, permission or lost code; none while it has to wait (12 R301; log entry 80). -/
def faultTrap (f : AccFault) (va : Word64) : Option TrapInfo :=
  match f with
  | .tr sub lv => some (trapOf 3 sub lv 0 va)
  | .pm sub => some (trapOf 4 sub 0 0 va)
  | .gone c => some (goneTrap c 0 va)
  | .wait => none

/-- `n` bytes of code for a part, or why they cannot be had; the fetch waits for the walk that it asks for (12 R299). -/
def fetchBytes (d : Device) (who : Asker) (core : Nat) (sp : Nat × Nat) (va : Word64) (n : Nat) : Except AccFault (List Byte) × Device :=
  match element d who core sp .fetch false va n with
  | (.ok r, d) =>
    match d.barred true r.keys with
    | some e => (.error e, d)
    | none => (.ok (d.bytes r.keys), d)
  | (.error f, d) => (.error f, d)

/-- The bytes of `n` instructions from `va` on, which must end by `stop`; the trap, if it does not just wait, names the header at `pc`. The
clause is fetched whole before its instructions are looked at, so a fault of the fetch comes before an Illegal Instruction of any slot: the
model's choice (03 R81; log entry 84). -/
def fetchSlots (who : Asker) (core : Nat) (sp : Nat × Nat) (pc : Word64) (stop : Nat) :
    Nat → Word64 → Device → Except (Option TrapInfo) (List Byte × Word64) × Device
  | 0, va, d => (.ok ([], va), d)
  | n + 1, va, d =>
    if stop < va.toNat + 2 then (.error (some clauseTrap), d)
    else
      match fetchBytes d who core sp va 2 with
      | (.error f, d) => (.error (faultTrap f pc), d)
      | (.ok b, d) =>
        let low := leNat b
        let len := if low % 2 = 0 then 2 else 4
        if low % 128 = 127 || decide (stop < va.toNat + len) then (.error (some clauseTrap), d)
        else
          match (if len = 4 then fetchBytes d who core sp (va + 2) 2 else (.ok [], d)) with
          | (.error f, d) => (.error (faultTrap f pc), d)
          | (.ok b2, d) =>
            match fetchSlots who core sp pc stop n (va + BitVec.ofNat 64 len) d with
            | (.ok r, d) => (.ok (b ++ b2 ++ r.1, r.2), d)
            | (.error t, d) => (.error t, d)

/-- A set-flag field names a flag or none (03 R80). -/
def flagFieldOk (x : Nat) : Bool := decide (x ≤ 11) || decide (x = 15)

/-- The clause whose header stands at an address, or the trap that reaching it raises, or nothing while its fetch waits. Where control falls past
the last clause of a section no object holds the address, which traps there, or an object that abuts does, and runs: the manual gives no fate,
and this is the model's choice (03 R77, 04 R108; log entry 83). -/
def fetchClause (d : Device) (who : Asker) (core : Nat) (sp : Nat × Nat) (pc : Word64) : Except (Option TrapInfo) Clause × Device :=
  match objOf d sp pc with
  | none => (.error (some clauseTrap), d)
  | some o =>
    match fetchBytes d who core sp pc 4 with
    | (.error f, d) => (.error (faultTrap f pc), d)
    | (.ok b, d) =>
      let h : Word32 := BitVec.ofNat 32 (leNat b)
      if !flagFieldOk (bits h 27 24) || !flagFieldOk (bits h 31 28) then (.error (some clauseTrap), d)
      else
        match fetchSlots who core sp pc (o.base.toNat + o.size) (bits h 9 7 + 1) (pc + 4) d with
        | (.ok r, d) => (.ok ⟨h, r.1, r.2⟩, d)
        | (.error t, d) => (.error t, d)

/-- The slots of a clause: each instruction, or why its bits are none, with those bits. -/
def slotsOf : Nat → List Byte → List (Except Bad Instr × Nat)
  | 0, _ => []
  | n + 1, b =>
    match decode b with
    | .ok r => (.ok r.1, leNat (b.take (b.length - r.2.length))) :: slotsOf n r.2
    | .error e => (.error e, leNat (b.take 4)) :: slotsOf n (b.drop 4)

namespace Clause

/-- Instruction count. -/
def count (c : Clause) : Nat := bits c.hdr 9 7 + 1

/-- The wait mask: flags that must be clear. -/
def waits (c : Clause) : List Nat := below 12 fun f => bit c.hdr (12 + f)

/-- S: a split on a miss is permitted. -/
def canSplit (c : Clause) : Bool := bit c.hdr 11

/-- M: the header is a marker. -/
def marker (c : Clause) : Bool := bit c.hdr 10

/-- The decoded instructions. -/
def instrs (c : Clause) : List Instr := (slotsOf c.count c.bytes).filterMap fun x => match x.1 with | .ok i => some i | .error _ => none

/-- Slot 0 holds JOIN. -/
def hasJoin (c : Clause) : Bool := match c.instrs.head? with | some (.join _) => true | _ => false

/-- The clause holds ACQUIRE. -/
def hasAcquire (c : Clause) : Bool := c.instrs.any fun i => match i with | .acquire => true | _ => false

/-- Unit counts of the TALLOCs, in slot order. -/
def tallocs (c : Clause) : List Nat := c.instrs.filterMap fun i => match i with | .talloc _ u _ => some u.toNat | _ => none

/-- Timeout code of the JOIN in slot 0. -/
def joinCode (c : Clause) : Nat := match c.instrs.head? with | some (.join k) => k.toNat | _ => 0

end Clause

/-! ## Blocks (04 R113; 05 R145; 07 R189; 09 R224) -/

/-- Quads of the block that a width requirement names for a part. -/
def blockOf (w : Wave) (q : Part) (r : WReq) : BitVec 16 :=
  match r with
  | .no => 0
  | .lanes n =>
    let k := min n w.lanes / 4
    BitVec.ofNat 16 ((2 ^ k - 1) * 2 ^ (lowQuad q.quads / k * k))
  | .full => w.allQuads

/-- The block of a clause: the largest of its instructions' blocks; 0 without a width requirement. -/
def Clause.block (c : Clause) (w : Wave) (q : Part) : BitVec 16 := c.instrs.foldl (fun m i => m ||| blockOf w q (form i).width) 0

/-- Whether a part covers a block: it holds every quad of it that still has a lane not retired. -/
def covers (w : Wave) (q : Part) (block : BitVec 16) : Bool := liveQuads w block &&& ~~~ q.quads == 0

/-! ## Tension (11 R285) -/

/-- Waves that run on a core. -/
def Device.resident (d : Device) (core : Nat) : List (Nat × Wave) :=
  d.waves.filter fun w => decide (w.2.core = core) && !w.2.retired && !w.2.killed && !w.2.saved

/-- How far the phase of a core lies behind the pulse. -/
def Device.lag (d : Device) (core : Nat) : Nat :=
  match (d.resident core).flatMap fun w => w.2.live with
  | [] => behind d.pulse d.floor
  | ps => ps.foldl (fun n p => max n (behind d.pulse p.pts)) 0

/-- Neighbours of a core: its cluster, and the clusters beside it on its die. -/
def neighbours (core : Nat) : List Nat :=
  (List.range 12).filterMap fun i =>
    let k := core / 4 * 4 + i
    if k < 4 then none
    else
      let n := k - 4
      if n ≠ core && decide (dieOf n = dieOf core) then some n else none

/-- Whether the tension rule holds a part back. -/
def Device.tense (d : Device) (core : Nat) (q : Part) : Bool :=
  (neighbours core).any fun n => decide (behind d.pulse q.pts + d.clk.tension < d.lag n)

/-! ## The conditions at a header (09 R223, R224) -/

/-- What stands in the way of a part at its header. -/
inductive Header where
  /-- Reaching the header traps. -/
  | trap (t : TrapInfo)
  /-- State 3: a waited flag is set. -/
  | flags
  /-- State 1: it waits at a join. -/
  | join
  /-- State 2: it waits for a fuse. -/
  | fuse
  /-- It waits for ACQUIRE or TALLOC. -/
  | allot
  /-- The tension rule holds it. -/
  | tension
  /-- A scratchpad write of the clause before waits until an MMA of that clause has read (07 R193). -/
  | write
  /-- Its scalar bank is being copied, or it sleeps or yields. -/
  | asleep
  /-- The fetch of its clause waits for a walk or for a line that a bank product holds. -/
  | walk
  /-- Nothing. -/
  | ready
  deriving DecidableEq, Repr

/-- A pass over a clause, as it begins. -/
def passOf (d : Device) (gid : Nat) (g : Group) (wid : Nat) (w : Wave) (q : Part) (allot : Nat) : Spec :=
  { dev := d, gid := gid, grp := { g with spdoob := 0 }, wid := wid, wav := { w with fpx := 0 }, prt := q, slot := 0, off := 0,
    xfer := none, taken := false, cut := false, split := none, prefs := [], kept := [], dests := [], released := false, hold := none, first := d.nextId, pts0 := q.pts, allot := allot,
    fpxBase := w.fpx, oobBase := g.spdoob }

/-- The Illegal Instruction of the lowest slot that has one (03 R81). -/
def slotTrap (p : Spec) : Nat → List (Except Bad Instr × Nat) → Option TrapInfo
  | _, [] => none
  | k, x :: l =>
    let bad := match x.1 with | .ok i => !legalAt { p with slot := k } i | .error _ => true
    if bad then some { illegalTrap with slot := some k, bits := BitVec.ofNat 32 x.2 } else slotTrap p (k + 1) l

/-- The decode checks of a clause under an allotment. -/
def decodeTrap (d : Device) (gid : Nat) (g : Group) (wid : Nat) (w : Wave) (q : Part) (c : Clause) (allot : Nat) : Option TrapInfo :=
  slotTrap (passOf d gid g wid w { q with clause := some c } allot) 0 (slotsOf c.count c.bytes)

/-- The allotment under which a clause runs (03 R81). -/
def allotFor (w : Wave) (c : Clause) : Nat := if c.hasAcquire then w.full else w.cur

/-- Whether a waited flag is set in some quad of a part. -/
def flagWait (w : Wave) (q : Part) (c : Clause) : Bool := c.waits.any fun f => (quadsOf q.quads).any fun k => decide (0 < w.flag k f)

/-- Whether a part waits at a join (04 R112). -/
def joinWaits (w : Wave) (q : Part) (c : Clause) : Bool :=
  c.hasJoin && q.stack.isEmpty && !q.skipJoin && !q.joinDone && decide (1 < w.live.length)

/-- Whether ACQUIRE and every TALLOC of a clause are granted. -/
def granted (w : Wave) (q : Part) (c : Clause) : Bool :=
  (!c.hasAcquire || w.acqGrant || decide (w.cur = w.full)) && decide (c.tallocs.length ≤ q.tallocGrant.length)

/-- Whether a scratchpad write of some quads of a wave waits for an MMA of its clause to read. -/
def owesWrites (wid : Nat) (g : Group) (q : Part) : Bool := g.mq.any fun e => !e.later.isEmpty && decide (e.wave = wid) && (e.quads &&& q.quads != 0)

/-- What stands in the way of a part at its header, with its clause and the device after the fetch. -/
def headerOf (d : Device) (wid : Nat) (w : Wave) (q : Part) : Header × Option Clause × Device :=
  match d.groups.get? w.group with
  | none => (.asleep, none, d)
  | some g =>
    match fetchClause d (.part wid q.quads q.walked) w.core (d.spaceOf w.launch) q.pc with
    | (.error (some t), d) => (.trap t, none, d)
    | (.error none, d) => (.walk, none, d)
    | (.ok c, d) =>
      let final := decodeTrap d w.group g wid w q c (allotFor w c)
      match (if q.arrived then decodeTrap d w.group g wid w q c 128 else final) with
      | some t => (.trap t, some c, d)
      | none =>
        let r : Header :=
          if owesWrites wid g q then .write
          else if decide (0 < q.sleep) || q.sleepTick || decide (0 < q.yieldLeft) || q.yieldOther then .asleep
          else if flagWait w q c then .flags
          else if joinWaits w q c then .join
          else if !covers w q (c.block w q) then .fuse
          else if !granted w q c then .allot
          else if d.tense w.core q then .tension
          else if 0 < q.copyWait then .asleep
          else match final with
            | some t => .trap t
            | none => .ready
        (r, some c, d)

/-- State code of a part in a trap record and in its saved context: 1 to 3 as it stood before the stop, 4 otherwise (09 R223, R231). -/
def Device.stateCode (d : Device) (wid : Nat) (w : Wave) (q : Part) (raised : Bool) : Nat :=
  if raised || !q.arrived then 4
  else
    match headerOf d wid w q with
    | (.flags, _, _) => 3
    | (.join, _, _) => 1
    | (.fuse, _, _) => 2
    | _ => 4

/-- Whether a wave is on a core and may run there. -/
def Device.runs (d : Device) (w : Wave) : Bool :=
  !w.retired && !w.killed && !w.saved && !(d.core w.core).stopped && !d.clk.stopped &&
    (match d.groups.get? w.group with | some g => g.core.isSome && !g.saved | none => false)

/-- Whether a pre-emption of a wave's group is pending. -/
def Device.preempting (d : Device) (w : Wave) : Bool := match d.groups.get? w.group with | some g => g.preempt.isSome | none => false

/-- Whether a part stands at its header, nothing of its clause having happened: before it starts, or held at commit (06 R167). -/
def Part.stands (q : Part) : Bool :=
  match q.phase with
  | .header => true
  | .held _ => true
  | .issuing _ => false

/-- Whether a part is stopped where it stands: its wave halts, or a pre-emption finds it at a marker (09 R231, R249). -/
def Device.stoppedAt (d : Device) (w : Wave) (q : Part) : Bool :=
  w.halt.isSome || (d.preempting w && q.stands && (markerAt d (d.spaceOf w.launch) q.pc).isSome)

/-- Whether a wave's stop began in the present cycle, so that an event of the same cycle may still be the one it reports (14 R338). -/
def Wave.haltsNow (cycle : Nat) (w : Wave) : Bool :=
  match w.halt with
  | some h => !h.stopped && !h.kill && decide (h.since = cycle)
  | none => false

/-- Whether what a part meets at its header may stop its wave in this cycle: it is not stopped, or its wave's stop began in it. -/
def Device.listens (d : Device) (w : Wave) (q : Part) : Bool := !d.stoppedAt w q || w.haltsNow d.clk.cycle

/-! ## Breakpoints (14 R337) -/

/-- Whether breakpoint `b` names a position. -/
def bpHits (f : HostFn) (launch : Nat) (ident pos : Word64) (b : Nat) : Bool :=
  let r (o : Nat) : Word64 := f.regs.get (0x2040 + 32 * b + o)
  bit (r 16) 0 && decide (r 0 = ident) && decide (r 8 = pos) && (!bit (r 16) 1 || decide (bits (r 24) 47 0 = launch))

/-- The lowest breakpoint that names the header of a part as the registers now are. -/
def breakpointNow (d : Device) (w : Wave) (q : Part) : Option Nat :=
  let sp := d.spaceOf w.launch
  let f := d.fn sp.1
  if (List.range 8).any fun b => bit (f.regs.get (0x2050 + 32 * b)) 0 then
    (List.range 8).find? (bpHits f w.launch (objIdent d sp q.pc) (position d sp q.pc))
  else none

/-- The breakpoint that matches a part at its header: the registers as they were when it reached the header count (14 R335). -/
def breakpointOf (d : Device) (w : Wave) (q : Part) : Option Nat :=
  if q.bpPass then none else if q.reached then q.bpHere else breakpointNow d w q

/-- A part that reaches its header takes the limits and the breakpoint that stand then (09 R232, 14 R335). -/
def Device.meetHeader (d : Device) (w : Wave) (g : Group) (q : Part) : Part :=
  if q.reached then q
  else { q with reached := true, limSplit := g.splitd, limFuse := g.fusel, limJoin := bits g.mode 20 16, bpHere := breakpointNow d w q }

/-! ## CLAUSE_START -/

/-- The wave and the part of a quad. -/
def Device.partOf (d : Device) (wid quad : Nat) : Option (Wave × Part) :=
  (d.waves.get? wid).bind fun w => (w.live.find? fun q => decide (lowQuad q.quads = quad)).map fun q => (w, q)

/-- Replaces a part of a wave. -/
def Device.setPart (d : Device) (wid : Nat) (w : Wave) (q : Part) : Device := d.setWave wid { w with parts := putPart w.parts q }

/-- The lines of a clause are loaded for its fetch, once it starts (10 R252; log entry 93). -/
def Device.fetched (d : Device) (wid : Nat) (w : Wave) (q : Part) (c : Clause) : Device :=
  match reachGo (.part wid q.quads q.walked) w.core (d.spaceOf w.launch) .fetch (pieces 4096 q.pc (c.next - q.pc).toNat) d with
  | (.ok b, d) => (d.readLines w.core d.floor b.leaves).2
  | (.error _, _) => d

/-- A part at its header starts its clause when every condition holds, or traps there, or asks for the walk that its fetch needs (09 R224, 03 R81,
12 R299). -/
def Device.clauseStart (d : Device) (wid quad : Nat) : Device :=
  match d.partOf wid quad with
  | none => d
  | some (w, q) =>
    if decide (q.phase ≠ .header) || !d.runs w || !d.listens w q then d
    else
      match headerOf d wid w q with
      | (.trap t, _, d') => takeTrap d' wid q.quads t
      | (.ready, some c, d') =>
        if d.stoppedAt w q || (breakpointOf d w q).isSome then d
        else
          let g := d'.groups.get? w.group
          (d'.fetched wid w q c).setPart wid w { (match g with | some g => d.meetHeader w g q | none => q) with
            phase := .issuing 0, clause := some c, walked := [], mode := (g.map (·.mode)).getD q.mode, acqClause := c.hasAcquire,
            bpPass := false, joinWait := none, fuseWait := none, splitWait := none, arrived := false, allotWait := 0,
            skipJoin := q.skipJoin && c.hasJoin }
      | (.walk, _, d') => if d.stoppedAt w q then d else d'
      | _ => d

/-! ## The pass (01 R28) -/

/-- The next pass over the clause of a part that has issued it or is held. Its instructions are checked again under the allotment as it is by then: the
manual has the check made when the clause would start, and says nothing of a RELEASE of another part that commits between that start and this
pass, so the check here is the model's choice (03 R81; log entry 100). -/
def beginPass (d : Device) (wid : Nat) (w : Wave) (q : Part) : Option Spec :=
  match d.groups.get? w.group, q.clause with
  | some g, some _ => some (passOf d w.group g wid w q (if q.acqClause then w.full else w.cur))
  | _, _ => none

/-- Whether the pass has come to its end. A pass that is held goes on all the same, so that the walks of its later slots start too (12 R299),
unless what it lacks is a result that they may read. -/
def Spec.over (p : Spec) : Bool := p.cut || decide (p.count ≤ p.slot)

/-- The instruction that the pass has reached. -/
def Spec.fetch (p : Spec) : Except Bad Instr :=
  match p.prt.clause with
  | some c => (match decode (c.bytes.drop p.off) with | .ok r => .ok r.1 | .error e => .error e)
  | none => .error .truncated

/-- An instruction that does not decode traps, although a clause that has started holds none (03 R91). -/
def Spec.undecoded (p : Spec) (s : State) : State :=
  { s with spec := none, dev := takeTrap s.dev p.wid p.prt.quads { illegalTrap with slot := some p.slot } }

/-! ## Splits of a part (01 R18, 09 R227) -/

/-- A divergence entry restricted to some quads. -/
def DivEntry.restrict (e : DivEntry) (m : Word64) : DivEntry := { e with rmask := e.rmask &&& m, smask := e.smask &&& m }

/-- The part of some quads of a part, with an empty window. -/
def Part.restrict (q : Part) (quads : BitVec 16) : Part :=
  let m := laneMask quads
  { q with quads := quads, window := [], sregs := q.sregs.set 63 (q.sregs.get 63 &&& m), stack := q.stack.map (·.restrict m),
           joinWait := none, fuseWait := none, splitWait := none, starve := 0, starved := false, spin := 0, spinLine := none,
           demoted := 0 }

/-- Parts in ascending lowest quad. -/
def insertPart (q : Part) : List Part → List Part
  | [] => [q]
  | r :: l => if lowQuad q.quads < lowQuad r.quads then q :: r :: l else r :: insertPart q l

/-- Parts of a wave without some of them. -/
def removeParts (l : List Part) (quads : BitVec 16) : List Part := l.filter fun p => p.quads &&& quads = 0

/-- Divides a part whose window is empty: the leading part keeps the bank, the other waits for its copy. -/
def Device.divide (d : Device) (wid : Nat) (w : Wave) (q : Part) (lead other : Part) (miss : Bool) : Device :=
  let other := { other with copyWait := Config.scalarCopy + 1 }
  let ps := insertPart lead (insertPart other (removeParts w.parts q.quads))
  let d := d.setWave wid { w with parts := ps, splits := w.splits + 1 }
  let c := d.core w.core
  let d := (d.setCore w.core { c with splits := c.splits + 1 }).tallied 2 w.core 1
  d.noteWave w 0x21 (w.context * 2 ^ 34 + b2n miss * 2 ^ 32 + lead.quads.toNat * 2 ^ 16 + other.quads.toNat)
    (position d (d.spaceOf w.launch) q.pc)

/-! ## COMMIT -/

/-- The loop end action of a clause (04 R116): the levels after it and where control goes, if to a start. -/
def loopEnd (pc : Word64) (l : List LoopLevel) : List LoopLevel × Option Word64 :=
  match l with
  | [] => ([], none)
  | x :: rest =>
    if x.stop ≠ pc then (l, none)
    else if x.count - 1 ≠ 0 then ({ x with count := x.count - 1 } :: rest, some x.start)
    else
      match rest with
      | [] => ([], none)
      | y :: r =>
        if y.stop ≠ pc then (rest, none)
        else if y.count - 1 ≠ 0 then ({ y with count := y.count - 1 } :: r, some y.start)
        else (r, none)

/-- The part at its next header: control has passed (01 R28, 04 R116, R117). One that retires stays where its EXIT stood, as its profile record
has it (14 R341). Without a transfer the next header is where the clause ends, be that past the end of its section (04 R108; log entry 83). -/
def Spec.leave (p : Spec) : Part :=
  let q := p.prt
  let r := if liveLanes p.wav q.quads = 0 then (q.loops, q.pc) else if p.taken then (q.loops, p.xfer.getD p.nextClause) else
    let e := loopEnd q.pc q.loops
    (e.1, e.2.getD p.nextClause)
  { q with phase := .header, clause := none, pc := r.2, loops := r.1, passBit := false, reached := false, joinDone := false, fenceTick := none,
           tqReady := false, gbarGo := [], acqClause := false, arrived := false, tallocGrant := [], walked := [], watch := none }

/-- The group as the clause leaves it: SPDOOB takes its event, which also counts for a write of it in the same cycle (01 R25, 04 R123). -/
def Spec.groupNow (p : Spec) : Group :=
  let n := p.dev.clk.cycle + 1
  let g := { p.grp with spdoob := p.oobNow }
  if bit p.grp.spdoob 63 && decide (p.grp.oobAt ≠ n) then { g with oobAt := n, oobNew := p.grp.spdoob } else g

/-- The group and the wave as the clause leaves them: FPX and SPDOOB take their events, what RELEASE gave up is discarded, and window
entries that name a destination of a long-latency instruction leave (01 R22, R25, R28, R38; 04 R124). -/
def Spec.settle (p : Spec) : Spec :=
  let p := p.discard
  let r := if p.dests.isEmpty then (p.wav, p.prt) else retire (fun loc => p.dests.any fun x => names x.1 x.2.1 x.2.2 loc) p.wav p.prt
  { p with wav := ({ r.1 with fpx := p.fpxBase }).addFpx p.dev.clk.cycle p.wav.fpx, prt := r.2, grp := p.groupNow }

/-- A wave that a debugger steps stops again once a part of it commits (14 R336). -/
def stepDone (cycle : Nat) (w : Wave) : Wave :=
  if w.stepping.isSome && w.halt.isNone then { w with stepping := none, halt := some (beginHalt cycle none (trapOf 0 1 0 0 0)) } else w

/-- Two entries of a divergence stack are held by the core, the rest in the record of the part in the context area (04 R110, 12 R309). -/
def Spec.spill (p : Spec) (d : Device) : Device :=
  match d.waves.get? p.wid with
  | none => d
  | some w =>
    let put (d : Device) (x : Part × Nat) : Device :=
      if x.1.quads &&& p.prt.quads = 0 || decide (x.1.stack.length ≤ 2) then d
      else
        let b := d.blockAt w.launch w.index + partSize * x.2
        let l := stackFields (x.1.stack.drop 2).reverse
        d.contextPut w.core w.launch p.grp.index (b + stackAt) (24 * (x.1.stack.length - 2)) fun o => fieldByte l (o - b)
    w.live.zipIdx.foldl put d

/-- Order in which parts of one cycle commit: slot and context of the wave, and the lowest quad (01 R21, 04 R127). The manual gives no
order between cores; the lower core comes first (log entry 71). -/
def commitKey (w : Wave) (q : Part) : Nat := ((w.core * 4 + w.slot) * 16 + w.ctx) * 16 + lowQuad q.quads

/-- The device notes the commit: later ones of the cycle come after it in the order. -/
def Spec.stamp (p : Spec) : Spec := { p with dev := { p.dev with lastCommit := some (p.dev.clk.cycle, commitKey p.wav p.prt) } }

/-- What the clause has prefetched is asked for (01 R28, 06 R176). -/
def Spec.fetchAhead (p : Spec) : Spec := { p with dev := p.prefs.foldl (Device.prefetch p.wav.core p.space) p.dev }

/-- Writes behind an MMA of the clause wait for it (07 R193). -/
def Spec.hide (p : Spec) : Spec := { p with grp := hideWrites p.kept p.grp }

/-- The device once a clause has committed. -/
def Spec.publish (p0 : Spec) : Device :=
  let p := p0.fetchAhead.settle.stamp.hide
  match p.split with
  | none =>
    let q := p.leave
    let d := { p with prt := q }.sync
    { d with waves := d.waves.upd p.wid (stepDone d.clk.cycle) }
  | some (tq, target) =>
    let wq := flushWindow p.wav p.prt
    let q := { p with prt := wq.2 }.leave
    let fq := p.prt.quads &&& ~~~ tq
    let a := { q.restrict tq with pc := target }
    let b := { q.restrict fq with pc := p.nextClause }
    let d := { p with wav := wq.1, prt := wq.2 }.sync
    let w := stepDone d.clk.cycle ((d.waves.get? p.wid).getD p.wav)
    if lowQuad tq < lowQuad fq then d.divide p.wid w p.prt a b false else d.divide p.wid w p.prt b a false

/-- The device with the clause of the pass held at commit; what its lookups have left stays, and the watchpoints that it is checked against are
those of its first pass (12 R298, R299; 14 R335). -/
def Spec.heldAtCommit (p : Spec) (d : Device) (r : HoldReason) : Device :=
  (d.lookups p.dev p.wav.core).mapParts p.wid p.prt.quads fun q => { q with phase := .held r, heldAt := d.clk.cycle, watch := some p.watches }

/-- Whether every instruction of a part's clause has been issued. -/
def Device.issued (d : Device) (q : Part) : Bool :=
  match q.phase, q.clause with
  | .issuing k, some c => decide (c.count ≤ k) && decide (q.issueEnd ≤ d.clk.cycle)
  | _, _ => false


/-- Whether the clause that a part is held in may commit: an earlier cycle held it, nothing stops the part and the reason is over. -/
def Device.letGo (d : Device) (wid : Nat) (w : Wave) (q : Part) : Bool :=
  match q.phase with
  | .held r => !d.stoppedAt w q && decide (q.heldAt < d.clk.cycle) && d.over wid w q d.nextId r
  | _ => false

/-- Whether a commit of the present cycle may still follow the latest one in the order. -/
def Device.follows? (d : Device) (w : Wave) (q : Part) : Bool :=
  match d.lastCommit with
  | some (c, k) => decide (c ≠ d.clk.cycle) || decide (k ≤ commitKey w q)
  | none => true

/-- The wave and the part whose clause commits next: of the clauses that are issued, and of those that are let go, the first in the
order of the commits of one cycle. -/
def Device.nextCommit (d : Device) : Option (Nat × Wave × Part) :=
  (d.waves.flatMap fun w => if d.runs w.2 then (w.2.live.filter fun q => (d.issued q || d.letGo w.1 w.2 q) && d.follows? w.2 q).map fun q => (w.1, w.2, q) else []).foldl
    (fun r x => match r with
      | none => some x
      | some y => if commitKey x.2.1 x.2.2 < commitKey y.2.1 y.2.2 then some x else some y) none

/-- The end of a pass that nothing holds: its clause commits, or is held while a store or an atomic of it could not be delivered in time (06 R165, 11
R284; log entry 79). -/
def Spec.commitOr (p : Spec) (d : Device) : Device :=
  let idle (p : Spec) : Bool := !p.dev.lags p.wid p.prt.quads p.first
  let p := p.drained idle
  if idle p then p.spill p.publish else p.heldAtCommit d .line

/-- COMMIT: with no pass running, the pass over the next clause begins if it is one that is issued; a pass that is over commits its clause, or
leaves it held. -/
def opCommit (s : State) : State :=
  match s.spec with
  | none =>
    match s.dev.nextCommit with
    | some x => if s.dev.issued x.2.2 then { s with spec := beginPass s.dev x.1 x.2.1 x.2.2 } else s
    | none => s
  | some p =>
    if !p.over then s
    else
      match p.hold with
      | some r => { s with spec := none, dev := p.heldAtCommit s.dev r }
      | none => { s with spec := none, dev := p.commitOr s.dev }

/-! ## HELD_AT_COMMIT_RELEASE -/

/-- A FENCE.SC whose stores are performed waits for the next tick of the pulse to be complete (06 R167). -/
def Device.fenceArm (d : Device) (wid : Nat) (q : Part) (k : Nat) : Device :=
  if decide (k = 3) && q.fenceTick.isNone && d.fenceOver wid q.quads d.nextId 3 then
    d.mapParts wid q.quads fun q => { q with fenceTick := some (d.pulse + 1) }
  else d

/-- The result of a TQTAKE arrives a while after the clause was held for it; the manual does not fix how long (04 R126; log entry 1). -/
def Device.taskArm (d : Device) (wid : Nat) (q : Part) : Device :=
  if q.heldAt + Config.latency (2 ^ 66 * (1 + wid * 16 + lowQuad q.quads) + q.heldAt) ≤ d.clk.cycle then
    d.mapParts wid q.quads fun q => { q with tqReady := true }
  else d

/-- A clause held at commit is taken up again, from its first instruction, once its reason is over and it is the next to commit. -/
def heldRelease (s : State) (wid quad : Nat) : State :=
  match s.spec, s.dev.partOf wid quad with
  | none, some (w, q) =>
    match q.phase with
    | .held r =>
      let d : Device := match r with | .fence k => s.dev.fenceArm wid q k | .taskQueue => s.dev.taskArm wid q | _ => s.dev
      let q := ((d.partOf wid quad).map (·.2)).getD q
      if d.letGo wid w q && (d.nextCommit.map fun x => (x.1, x.2.2.quads)) == some (wid, q.quads) then { s with dev := d, spec := beginPass d wid w q }
      else { s with dev := d }
    | _ => s
  | _, _ => s

/-! ## Meanings -/

/-- CLAUSE_START (R224): operands w, p. -/
def execClauseStart (s : State) : Out := .next { s with dev := s.dev.clauseStart (s.arg.getD 0 0) (s.arg.getD 1 0) }

/-- COMMIT (R28). -/
def execCommit (s : State) : Out := .next (opCommit s)

/-- HELD_AT_COMMIT_RELEASE (R167; 04 R126): operands w, p. -/
def execHeldAtCommitRelease (s : State) : Out := .next (heldRelease s (s.arg.getD 0 0) (s.arg.getD 1 0))

end Sys2Proof.Machine
end

