-- ==== Sys2Proof/Machine/Split.lean ====
section
/-! DEFINITION. Splits on a miss, fuses at joins and width requirements, issue, starvation, spinning, sleep and yield (01 R18;
04 R112, R120, R128; 09 R225 to R236). -/

namespace Sys2Proof.Machine

/-! ## Splits on a miss (09 R226) -/

/-- s63 of a part as its next clause would read it. -/
def maskNow (w : Wave) (q : Part) : Word64 := ((look (.s 63) q.window).getD (bankRead w q (.s 63))).setWidth 64 &&& liveLanes w q.quads

/-- Quads with an active lane and every waited flag clear. -/
def readySet (w : Wave) (q : Part) (c : Clause) : BitVec 16 :=
  maskOf 16 ((quadsOf (quadsWith (maskNow w q) &&& q.quads)).filter fun k => c.waits.all fun f => decide (w.flag k f = 0))

/-- The ready set of a part in state 3 whose clause and limit permit a split on a miss, when it is neither empty nor the whole part. -/
def missReady (w : Wave) (q : Part) (c : Clause) : Option (BitVec 16) :=
  let r := readySet w q c
  if c.canSplit && !c.hasJoin && (c.instrs.all fun i => decide ((form i).width = .no)) && decide (q.limSplit ≠ 0) && r != 0 && r != q.quads then some r else none

/-- A part at its header in a wave that runs, with its wave, clause and state. -/
def Device.meets (d : Device) (wid quad : Nat) : Option (Wave × Part × Header × Clause) :=
  match d.partOf wid quad with
  | none => none
  | some (w, q) =>
    if decide (q.phase ≠ .header) || !d.runs w then none
    else
      match headerOf d wid w q with
      | (h, some c, _) => some (w, q, h, c)
      | _ => none

/-- A part at its header that nothing stops there. -/
def Device.standing (d : Device) (wid quad : Nat) : Option (Wave × Part × Header × Clause) :=
  (d.meets wid quad).filter fun x => !d.stoppedAt x.1 x.2.1

/-- MISS_SPLIT: in a wave of fewer than four parts the ready set has held for SPLITD cycles and splits off as the leading part. -/
def Device.missSplit (d : Device) (wid quad : Nat) : Device :=
  match d.standing wid quad with
  | some (w, q, .flags, c) =>
    match missReady w q c, q.splitWait with
    | some r, some (r', n, l) =>
      if decide (r = r') && decide (l ≤ n) && decide (w.live.length < 4) then
        let wq := flushWindow w q
        d.divide wid wq.1 wq.2 (wq.2.restrict r) (wq.2.restrict (q.quads &&& ~~~ r)) true
      else d
    | _, _ => d
  | _ => d

/-- SCALAR_COPY_DONE: the copied scalar bank is ready (09 R227). -/
def Device.scalarCopyDone (d : Device) (wid quad : Nat) : Device :=
  match d.partOf wid quad with
  | some (w, q) => if q.copyWait = 1 then d.setPart wid w { q with copyWait := 0 } else d
  | none => d

/-! ## Fuses (01 R18, 09 R230) -/

/-- The windows of some parts are written back; the wave and those parts after it. -/
def flushAll : Wave → List Part → Wave × List Part
  | w, [] => (w, [])
  | w, q :: l =>
    let r := flushWindow w q
    let s := flushAll r.1 l
    (s.1, r.2 :: s.2)

/-- The fused entry at a depth from the bottom: the leading member's, with the masks of every member's. -/
def fuseEntry (ps : List Part) (i : Nat) (e : DivEntry) : DivEntry :=
  ps.foldl (fun e p => match p.stack.reverse[i]? with
    | some x => { e with rmask := e.rmask ||| x.rmask, smask := e.smask ||| x.smask }
    | none => e) e

/-- What is compared between the stacks of members. -/
def stackShape (q : Part) : List (Word64 × DivState) := q.stack.map fun e => (e.resume, e.st)

/-- The fused part of some members, the first holding the lowest quad, and whether the members diverged. What the manual does not say is the model's
choice: the fused part sleeps, and waits for a scalar copy, as long as any member would; a YIELD of the member of the lowest quad goes on, and that of
another member ends with the fuse (log entry 46). -/
def fuseOf (lead : Part) (ps : List Part) : Part × Bool :=
  let all := lead :: ps
  let s63 := all.foldl (fun m p => m ||| p.sregs.get 63) 0
  let low (p : Part) : SMap 64 := p.sregs.keep fun k => decide (k < 63)
  let sd := ps.any fun p => decide (low p ≠ low lead) || decide (p.loops ≠ lead.loops) || decide (stackShape p ≠ stackShape lead)
  ({ lead with
      quads := all.foldl (fun m p => m ||| p.quads) 0
      sregs := lead.sregs.set 63 s63
      stack := (lead.stack.reverse.mapIdx fun i e => fuseEntry ps i e).reverse
      copyWait := all.foldl (fun n p => max n p.copyWait) 0
      sleep := all.foldl (fun n p => max n p.sleep) 0
      sleepTick := all.any (·.sleepTick)
      acquired := all.foldl (fun n p => max n p.acquired) 0
      tallocGrant := all.flatMap (·.tallocGrant)
      joinWait := none, fuseWait := none, splitWait := none, starve := 0, starved := false }, sd)

/-- Times of a fused part: the largest of its members'. -/
def fuseTimes (k : Nat) (ps : List Part) (q : Part) : Part :=
  ps.foldl (fun q p => { q with pts := tmax k q.pts p.pts, owed := tmax k q.owed p.owed, bmvTime := tmax k q.bmvTime p.bmvTime }) q

/-- Parts that fuse join their program orders: what stood in the order of one of them stands in that of the fused part, and of what splits from it
(11 R272). -/
def Device.joinOrder (d : Device) (wid : Nat) (quads : BitVec 16) : Device :=
  let wide (w : Nat) (m : BitVec 16) : BitVec 16 := if decide (w = wid) && (m &&& quads != 0) then m ||| quads else m
  { d with
    reqs := d.reqs.map fun x => (x.1, { x.2 with after := wide x.2.wave x.2.after })
    ops := d.ops.map fun x => (x.1, { x.2 with after := wide x.2.wave x.2.after })
    bmvs := d.bmvs.map fun x => (x.1, { x.2 with after := wide x.2.wave x.2.after }) }

/-- Fuses the parts of a wave that hold some quads: 0 at a join, 1 at a join's timeout, 2 at a width requirement. -/
def Device.fuse (d : Device) (wid : Nat) (w : Wave) (quads : BitVec 16) (how : Nat) (joined : Bool) : Device :=
  let f := flushAll w (w.live.filter fun p => p.quads &&& quads != 0)
  match f.2 with
  | [] => d
  | [_] => d
  | lead :: ps =>
    let r := fuseOf lead ps
    let q := { fuseTimes d.pulse ps r.1 with joinDone := joined }
    let w' := f.1
    let w' := { w' with parts := insertPart q (removeParts w'.parts q.quads), fuses := w'.fuses + 1 }
    let w' := if r.2 then w'.addFpx d.clk.cycle 0x100#64 else w'
    let d := (d.joinOrder wid q.quads).setWave wid w'
    let c := d.core w.core
    let d := (d.setCore w.core { c with fuses := c.fuses + 1 }).tallied 2 w.core 2
    d.noteWave w 0x22 (w.context * 2 ^ 34 + how * 2 ^ 16 + q.quads.toNat) (position d (d.spaceOf w.launch) q.pc)

/-- A join wait ends for a part alone: it goes on and nothing fuses (09 R229; log entry 72). -/
def Device.passJoin (d : Device) (wid : Nat) (w : Wave) (q : Part) : Device :=
  d.setPart wid w { q with joinDone := true, joinWait := none, splitWait := none }

/-- Parts of a wave that wait at the join at an address. -/
def Device.waitingAt (d : Device) (wid : Nat) (w : Wave) (pc : Word64) : List Part :=
  w.live.filter fun p => decide (p.phase = .header) && decide (p.pc = pc) &&
    (match headerOf d wid w p with | (.join, _, _) => true | _ => false)

/-- Quads of some parts. -/
def quadsOfParts (l : List Part) : BitVec 16 := l.foldl (fun m p => m ||| p.quads) 0

/-- JOIN_FUSE: every part that has not retired waits at one JOIN (04 R112). -/
def Device.joinFuse (d : Device) (wid quad : Nat) : Device :=
  match d.standing wid quad with
  | some (w, q, .join, _) =>
    let l := d.waitingAt wid w q.pc
    if l.length = w.live.length then d.fuse wid w (quadsOfParts l) 0 true else d
  | _ => d

/-- JOIN_TIMEOUT: the parts that wait where a timeout expires fuse and go on; one that waits alone goes on (04 R112). -/
def Device.joinTimeout (d : Device) (wid quad : Nat) : Device :=
  match d.standing wid quad with
  | some (w, q, .join, _) =>
    match q.joinWait with
    | some (n, some l) =>
      let ps := d.waitingAt wid w q.pc
      if l ≤ n then (if ps.length < 2 then d.passJoin wid w q else d.fuse wid w (quadsOfParts ps) 1 true) else d
    | _ => d
  | _ => d

/-- Whether a part is in state 2. -/
def Device.waitsFuse (d : Device) (wid : Nat) (w : Wave) (q : Part) : Bool :=
  decide (q.phase = .header) && (match headerOf d wid w q with | (.fuse, _, _) => true | _ => false)

/-- JOIN_RELEASE: a join wait ends alone when every other part waits for a fuse (09 R229). -/
def Device.joinRelease (d : Device) (wid quad : Nat) : Device :=
  match d.standing wid quad with
  | some (w, q, .join, _) =>
    if w.live.all fun p => decide (p.quads = q.quads) || d.waitsFuse wid w p then d.passJoin wid w q else d
  | _ => d

/-- Parts that hold a quad of a block with a lane not retired. -/
def blockParts (w : Wave) (block : BitVec 16) : List Part := w.live.filter fun p => liveQuads w block &&& p.quads != 0

/-- Whether reaching its header traps for a part. -/
def Device.headerTraps (d : Device) (wid : Nat) (w : Wave) (q : Part) : Bool :=
  match (headerOf d wid w q).1 with
  | .trap _ => true
  | _ => false

/-- WIDTH_FUSE: every part that the block of a clause needs stands at its header, and reaching it raised no decode trap in any of them (03 R81, 09
R224, R228). -/
def Device.widthFuse (d : Device) (wid quad : Nat) : Device :=
  match d.standing wid quad with
  | some (_, _, .trap _, _) => d
  | some (w, q, _, c) =>
    let block := c.block w q
    let l := blockParts w block
    if block != 0 && !covers w q block && l.all (fun p => decide (p.phase = .header) && decide (p.pc = q.pc) && !d.headerTraps wid w p) &&
        l.any (fun p => decide (p.quads = q.quads)) then d.fuse wid w (quadsOfParts l) 2 false
    else d
  | _ => d

/-- FUSE_TIMEOUT: a part that has waited for a fuse for its limit traps at its clause (09 R228). -/
def Device.fuseTimeout (d : Device) (wid quad : Nat) : Device :=
  match (d.meets wid quad).filter fun x => d.listens x.1 x.2.1 with
  | some (_, q, .fuse, _) =>
    match q.fuseWait with
    | some (n, l) => if l ≤ n then takeTrap d wid q.quads (trapOf 9 0 0 0 0) else d
    | none => d
  | _ => d

/-! ## Issue (09 R233 to R235) -/

/-- Whether a part can issue its next instruction. -/
def eligible (q : Part) : Bool :=
  match q.phase, q.clause with
  | .issuing k, some c => decide (k < c.count)
  | _, _ => false

/-- Occupancy demotes a wave's stage: its output queue holds more than its input queue (09 R234). -/
def Device.stageDemoted (d : Device) (w : Wave) : Bool :=
  let ps := ((d.launches.get? w.launch).map fun l => pipes l.packet).getD []
  let occ (i : Nat) : Nat := ((d.groups.get? w.group).map fun g => g.occ.getD i 0).getD 0
  match ps.find? fun x => decide (bits x.2 25 24 = w.role) with
  | none => false
  | some o =>
    let inp := match ps.find? fun x => decide (bits x.2 27 26 = w.role) with
      | some i => occ i.1
      | none => ceilDiv (bits o.2 23 20) 2
    decide (inp < occ o.1)

/-- Class of a part. -/
def Device.classOf (d : Device) (w : Wave) (q : Part) : Nat :=
  if q.starved then 0 else if 0 < q.demoted then 3 else if d.stageDemoted w then 2 else 1

/-- Age of a part: launch, group, wave, lowest quad; smaller is older. -/
def Device.ageOf (d : Device) (w : Wave) (q : Part) : Nat :=
  ((w.launch * 2 ^ 32 + d.groupIndex w) * 64 + w.index) * 16 + lowQuad q.quads

/-- Parts of the waves bound to a slot of a core. -/
def Device.slotParts (d : Device) (core slot : Nat) : List (Nat × Wave × Part) :=
  d.waves.flatMap fun w => if decide (w.2.core = core) && decide (w.2.slot = slot) && d.runs w.2 then w.2.live.map fun q => (w.1, w.2, q) else []

/-- The part that a slot picks. -/
def Device.pickOf (d : Device) (core slot : Nat) : Option (Nat × Wave × Part) :=
  let key (x : Nat × Wave × Part) : Nat × Nat := (d.classOf x.2.1 x.2.2, d.ageOf x.2.1 x.2.2)
  ((d.slotParts core slot).filter fun x => eligible x.2.2).foldl (fun r x => match r with
    | none => some x
    | some y =>
      if decide ((key x).1 < (key y).1) || (decide ((key x).1 = (key y).1) && decide ((key x).2 < (key y).2)) then some x else some y) none

/-- A part after a pick of its slot: the picked one issues, another eligible one ages, one that yields to others has been let by. -/
def afterPick (cycle : Nat) (picked : Bool) (q : Part) : Part :=
  if picked then
    { q with phase := match q.phase with | .issuing k => .issuing (k + 1) | x => x
             starve := 0, starved := false, issueEnd := cycle + ceilDiv (quadsOf q.quads).length 8 }
  else if eligible q then { q with starve := q.starve + 1 }
  else if q.yieldOther then { q with yieldLeft := 1 }
  else q

/-- ISSUE_PICK. -/
def Device.issuePick (d : Device) (core slot : Nat) : Device :=
  let c := d.core core
  if d.clk.cycle < (c.slotFree.get slot).toNat then d
  else
    match d.pickOf core slot with
    | none => d
    | some (wid, _, q) =>
      let f (k : Nat) (w : Wave) : Wave :=
        if decide (w.core = core) && decide (w.slot = slot) && d.runs w then
          { w with parts := w.parts.map fun p =>
              if liveLanes w p.quads = 0 then p else afterPick d.clk.cycle (decide (k = wid) && decide (p.quads = q.quads)) p }
        else w
      let free := d.clk.cycle + ceilDiv (quadsOf q.quads).length 8
      let d : Device := { d with waves := d.waves.map fun x => (x.1, f x.1 x.2) }
      d.setCore core { c with slotFree := c.slotFree.set slot (BitVec.ofNat 64 free) }

/-- Changes a part when a condition on it holds. -/
def Device.tweak (d : Device) (wid quad : Nat) (cond : Wave → Part → Bool) (f : Part → Part) : Device :=
  match d.partOf wid quad with
  | some (w, q) => if cond w q then d.setPart wid w (f q) else d
  | none => d

/-- STARVATION_PROMOTE (09 R235). -/
def Device.promote (d : Device) (wid quad : Nat) : Device :=
  d.tweak wid quad (fun _ q => decide (Config.starveBound ≤ q.starve) && !q.starved) fun q => { q with starved := true }

/-- SPIN_DEMOTE (09 R236). -/
def Device.spinDemote (d : Device) (wid quad : Nat) : Device :=
  d.tweak wid quad (fun _ q => decide (Config.spinThreshold ≤ q.spin)) fun q => { q with spin := 0, demoted := Config.spinDemotion + 1 }

/-- SPIN_DEMOTION_EXPIRY (09 R236). -/
def Device.spinExpiry (d : Device) (wid quad : Nat) : Device :=
  d.tweak wid quad (fun _ q => decide (q.demoted = 1)) fun q => { q with demoted := 0 }

/-- SLEEP_EXPIRY: the cycles are over, or a pulse tick has come (04 R128). -/
def Device.sleepExpiry (d : Device) (wid quad : Nat) : Device :=
  d.tweak wid quad (fun _ q => decide (q.sleep = 1)) fun q => { q with sleep := 0, sleepTick := false }

/-- YIELD_EXPIRY: the cycles are over, another part has issued, or no other part of the slot is ready (04 R120). -/
def Device.yieldExpiry (d : Device) (wid quad : Nat) : Device :=
  d.tweak wid quad (fun w q => decide (q.yieldLeft = 1) || (q.yieldOther && !(d.slotParts w.core w.slot).any fun x => eligible x.2.2))
    fun q => { q with yieldLeft := 0, yieldOther := false }

/-- A step that names a wave and a part. -/
def onPart (f : Device → Nat → Nat → Device) (s : State) : Out := .next { s with dev := f s.dev (s.arg.getD 0 0) (s.arg.getD 1 0) }

/-! ## Meanings -/

/-- ISSUE_PICK (R233): operands core, slot. -/
def execIssuePick (s : State) : Out := onPart Device.issuePick s

/-- STARVATION_PROMOTE (R235): operands w, p. -/
def execStarvationPromote (s : State) : Out := onPart Device.promote s

/-- SPIN_DEMOTE (R236): operands w, p. -/
def execSpinDemote (s : State) : Out := onPart Device.spinDemote s

/-- SPIN_DEMOTION_EXPIRY (R236): operands w, p. -/
def execSpinDemotionExpiry (s : State) : Out := onPart Device.spinExpiry s

/-- SLEEP_EXPIRY (R128): operands w, p. -/
def execSleepExpiry (s : State) : Out := onPart Device.sleepExpiry s

/-- YIELD_EXPIRY (R120): operands w, p. -/
def execYieldExpiry (s : State) : Out := onPart Device.yieldExpiry s

/-- MISS_SPLIT (R226): operands w, p. -/
def execMissSplit (s : State) : Out := onPart Device.missSplit s

/-- SCALAR_COPY_DONE (R227): operands w, p. -/
def execScalarCopyDone (s : State) : Out := onPart Device.scalarCopyDone s

/-- JOIN_FUSE (R112): operands w, p. -/
def execJoinFuse (s : State) : Out := onPart Device.joinFuse s

/-- JOIN_TIMEOUT (R112): operands w, p. -/
def execJoinTimeout (s : State) : Out := onPart Device.joinTimeout s

/-- JOIN_RELEASE (R229): operands w, p. -/
def execJoinRelease (s : State) : Out := onPart Device.joinRelease s

/-- WIDTH_FUSE (R228): operands w, p. -/
def execWidthFuse (s : State) : Out := onPart Device.widthFuse s

/-- FUSE_TIMEOUT (R228): operands w, p. -/
def execFuseTimeout (s : State) : Out := onPart Device.fuseTimeout s

end Sys2Proof.Machine
end

