-- ==== Sys2Proof/Machine/Return.lean ====
section
/-! DEFINITION. What comes back from memory and what time does to it: long-latency returns, failures after commit, home-slice
service, store times, page walks, and the pulse (01 R36 to R40; 11 R280 to R285; 12 R293, R297 to R299, R304). -/

namespace Sys2Proof.Machine

/-! ## Returns (01 R38, R40; 06 R157) -/

/-- Words of `n` registers from little-endian bytes. -/
def words32 : Nat → List Byte → List Word32
  | 0, _ => []
  | n + 1, b => BitVec.ofNat 32 (leNat (b.take 4)) :: words32 n (b.drop 4)

/-- Registers that a loaded element of a size code gives (06 R158). -/
def loadedWords (size : Nat) (b : List Byte) : List Word32 :=
  match size with
  | 0 => [BitVec.ofNat 32 (leNat b)]
  | 1 => [BitVec.ofInt 32 (sextNat 8 (leNat b))]
  | 2 => [BitVec.ofNat 32 (leNat b)]
  | 3 => [BitVec.ofInt 32 (sextNat 16 (leNat b))]
  | 4 => words32 1 b
  | 5 => words32 2 b
  | _ => words32 4 b

/-- Scalar registers that a loaded element of a size code gives (06 R159). -/
def loadedScalars (size : Nat) (b : List Byte) : List Word64 :=
  match size with
  | 1 => [BitVec.ofInt 64 (sextNat 8 (leNat b))]
  | 3 => [BitVec.ofInt 64 (sextNat 16 (leNat b))]
  | 6 => [BitVec.ofNat 64 (leNat (b.take 8)), BitVec.ofNat 64 (leNat (b.drop 8))]
  | _ => [BitVec.ofNat 64 (leNat b)]

/-- First register, and whether the result is scalar. -/
def ReqKind.dest : ReqKind → Option (Nat × Bool)
  | .vload d _ => some (d, false)
  | .sload d _ => some (d, true)
  | .store => none
  | .atom _ _ _ _ d _ => some (d, true)
  | .vatom _ d => some (d, false)
  | .lload d _ => some (d, false)
  | .latom d => some (d, false)
  | .sres d => some (d, true)

/-- Vector registers that an access of a request gives. -/
def ReqKind.words (k : ReqKind) (b : List Byte) : List Word32 :=
  match k with
  | .vload _ z => loadedWords z b
  | .lload _ z => loadedWords z b
  | _ => words32 1 b

/-- Scalar registers that a request gives. -/
def ReqKind.scalars (k : ReqKind) (b : List Byte) : List Word64 :=
  match k with
  | .sload _ z => loadedScalars z b
  | _ => [BitVec.ofNat 64 (leNat b)]

/-- Writes registers from `d` on of one lane. -/
def putLane (w : Wave) (d lane : Nat) (ws : List Word32) : Wave :=
  { w with vregs := ws.zipIdx.foldl (fun m x => m.set (vkey (d + x.2) lane) x.1) w.vregs }

/-- Writes scalar registers of a part; s63 keeps only lanes it may hold (01 R16). -/
def putScalars (w : Wave) (d : Nat) (vs : List Word64) (q : Part) : Part :=
  { q with sregs := vs.zipIdx.foldl (fun m x =>
      m.set (d + x.2) (if d + x.2 = 63 then x.1 &&& liveLanes w q.quads else x.1)) q.sregs }

/-- Quads that a return of a request at a quad concerns: that one, or every raised one for a scalar result. -/
def Req.returnQuads (r : Req) (quad : Nat) : BitVec 16 :=
  match r.kind.dest with
  | some (_, true) => r.pending
  | _ => r.pending &&& BitVec.ofNat 16 (2 ^ quad)

/-- Accesses of a request that a quad's return needs. -/
def Req.accsOf (r : Req) (quads : BitVec 16) : List Access := r.accs.filter fun a => decide (a.lane = 64) || bit quads (a.lane / 4)

/-- Bytes that a lane's accesses brought, in ascending address (06 R155). -/
def Req.laneBytes (r : Req) (lane : Nat) : List Byte := (r.accs.filter fun a => decide (a.lane = lane)).flatMap (·.data)

/-- The wave with the registers that a return writes. -/
def returned (w : Wave) (r : Req) (quads : BitVec 16) : Wave :=
  match r.kind.dest with
  | none => w
  | some (d, true) =>
    { w with parts := onParts w.parts quads (putScalars w d (r.kind.scalars (r.accs.flatMap (·.data)))) }
  | some (d, false) =>
    (((r.accsOf quads).map (·.lane)).eraseDups).foldl (fun w l => putLane w d l (r.kind.words (r.laneBytes l))) w

/-- Removes a request of which nothing is left. -/
def Device.reap (d : Device) (rid : Nat) : Device :=
  match d.reqs.get? rid with
  | some r => if r.pending = 0 && r.served && (r.timed || !r.performs) then { d with reqs := d.reqs.del rid } else d
  | none => d

/-- LONG_LATENCY_RETURN: the registers of a quad are written in the banks and its flag falls; a return of a generation that is
gone writes nothing, and the operation counts in STALE once it has returned as a whole (01 R40, 12 R311). -/
def Device.longReturn (d : Device) (rid quad : Nat) : Device :=
  match d.reqs.get? rid with
  | none => d
  | some r =>
    let qs := r.returnQuads quad
    if !bit qs quad || (r.accsOf qs).any (fun a => !a.served) ||
        decide (d.clk.cycle < r.ready + Config.latency (2 ^ 64 + rid * 16 + quad)) then d
    else
      let d1 : Device := { d with reqs := d.reqs.set rid { r with pending := r.pending &&& ~~~ qs } }
      let d2 := match d1.liveWave r.wave r.gen with
        | some w => ((d1.setWave r.wave (returned w r qs)).lowerFlag r.wave r.gen w.core qs r.flag).comesBack rid
        | none => if r.pending &&& ~~~ qs = 0 then d1.countStale (d.coreOf r.wave) else d1
      d2.reap rid

/-! ## Failures after commit (12 R304) -/

/-- Begins the stop of a wave, unless another event is the one it reports (09 R231, 14 R338). -/
def Device.halt (d : Device) (wid : Nat) (raiser : Option Nat) (t : TrapInfo) : Device :=
  { d with waves := d.waves.upd wid fun w =>
      if w.reports d.clk.cycle raiser t then { w with halt := some (beginHalt d.clk.cycle raiser t), parts := w.parts.map (unpass w.halt) }
      else w }

/-- Marks a group failed. -/
def Device.failGroup (d : Device) (g : Nat) : Device := { d with groups := d.groups.upd g fun x => { x with failed := true } }

/-- Whether an access can fail with a subcode: lost data; a link to another device of the span; a refusal of the owner (12 R301; 13 R319, R322,
R323). -/
def Device.canFail (d : Device) (r : Req) (a : Access) (sub : Nat) : Bool :=
  match sub with
  | 1 => d.lostTo r a == some 3
  | 2 => d.lostTo r a == some 4
  | 3 => d.lostTo r a == some 2
  | _ => false

/-- The access of a request that fails at a quad with a subcode, and its index: one of the quad or a scalar one that has not reached its line. -/
def Device.failing (d : Device) (r : Req) (quad sub : Nat) : Option (Access × Nat) :=
  r.accs.zipIdx.find? fun x => (decide (x.1.lane = 64) || decide (x.1.lane / 4 = quad)) && !x.1.reached && d.canFail r x.1 sub

/-- Notes, before a change to the ports, on which of them each access and each item in flight was sent (13 R322, R324). -/
def Device.noteSent (d : Device) : Device :=
  let acc (rid : Nat) (r : Req) (a : Access) : Access :=
    if a.reached || a.sent.isSome || decide (a.line < spanBase / 128) || d.behindEarlier rid r a then a else { a with sent := d.portOf a.line }
  let op (o : EngOp) : EngOp := if o.sent.isSome then o else { o with sent := (opSpan d o).bind fun x => d.portOf x.1 }
  { d with reqs := d.reqs.map fun x => (x.1, { x.2 with accs := x.2.accs.map (acc x.1 x.2) })
           ops := d.ops.map fun x => (x.1, op x.2) }

/-- Marks a span port down (13 R324). -/
def Device.markDown (d : Device) (p : Nat) : Device :=
  let d := d.noteSent
  let m : BitVec 18 := BitVec.ofNat 18 (2 ^ p)
  { d with mgmt := { d.mgmt with portDown := d.mgmt.portDown ||| m, portUp := d.mgmt.portUp &&& ~~~ m } }

/-- A wave reports a failure after commit, or keeps it for the time when it has reported what stops it already; its group has failed (12 R304,
14 R338). -/
def Device.lateStop (d : Device) (wid : Nat) (w : Wave) (raiser : Option Nat) (t : TrapInfo) : Device :=
  let d := if w.reports d.clk.cycle raiser t then d.halt wid raiser t
    else d.setWave wid { w with late := w.late ++ [(raiser, t)] }
  d.failGroup w.group

/-- Quads of the accesses of a request that name a line and have not reached it; every quad for a scalar access. -/
def Req.quadsAt (r : Req) (line : Nat) : BitVec 16 :=
  let l := r.accs.filter fun a => !a.reached && decide (a.line = line)
  if l.any fun a => decide (a.lane = 64) then r.quads else quadsWith (maskOf 64 (l.map (·.lane)))

/-- An access fails for good, and with it every access of its request of the same line: nothing is written to the registers of the affected
quads, whose flag stays up, and the wave stops; a store is dropped (12 R304, R312; log entry 23). -/
def Device.failAccess (d : Device) (rid : Nat) (r : Req) (a : Access) (sub : Nat) : Device :=
  let qs := r.quadsAt a.line
  let drop (x : Access) : Access := if !x.reached && decide (x.line = a.line) then { x with served := true, keys := [] } else x
  let r' := { r with pending := r.pending &&& ~~~ qs, accs := r.accs.map drop }
  let d' : Device := { d with reqs := d.reqs.set rid r' }
  let d2 : Device := match d.liveWave r.wave r.gen with
    | none => if r.kind != ReqKind.store && r.pending != 0 && r'.pending == 0 then d'.countStale (d.coreOf r.wave) else d'
    | some w =>
      if r.kind = ReqKind.store then d'
      else
        let raiser := (w.parts.find? fun (p : Part) => p.quads &&& qs != 0).map fun p => lowQuad p.quads
        let lanes := if a.lane = 64 then 0 else laneMask qs
        d'.lateStop r.wave w raiser { trapOf 13 sub 0 lanes a.va with second := some r.pos }
  d2.reap rid

/-- ACCESS_FAILED_AFTER_COMMIT: the first failure of an access to lost data is retried, and the failure of the retry is lasting; a refusal and
a destination to which no port leads are not retried (12 R304; 13 R319, R322, R327). -/
def Device.accessFailed (d : Device) (rid quad sub : Nat) (retry : Bool) : Device :=
  match d.reqs.get? rid with
  | none => d
  | some r =>
    match d.failing r quad sub with
    | none => d
    | some (a, i) =>
      if !d.delivers r || d.behindEarlier rid r a then d
      else if decide (sub = 1) && (retry || !a.retried) then
        if retry && !a.retried then { d with reqs := d.reqs.set rid { r with accs := r.accs.set i { a with retried := true } } } else d
      else if retry then d
      else d.failAccess rid r a sub

/-! ## Home slices (11 R283, R284) -/

/-- HOME_SLICE_LOAD and HOME_SLICE_STORE: the next access of a request that has arrived is served. -/
def Device.arrive (d : Device) (load : Bool) (rid : Nat) : Device :=
  match d.reqs.get? rid with
  | none => d
  | some r =>
    if decide (r.kind.isLoad = load) && d.delivers r then ((d.serve1 rid).getD d).reap rid else d

/-- The largest time of a request's accesses that are timed at a home slice of this device. -/
def Device.largest (d : Device) (r : Req) (t : Word64) : Word64 :=
  r.accs.foldl (fun t a => if d.isHome a.line && a.reached then tmax d.pulse t a.time else t) t

/-- A load that was served under a lease ending before a time is to be served again. -/
def Access.again (k : Nat) (t : Word64) (a : Access) : Access :=
  match a.lease with
  | some l => if tle k t l then a else { a with served := false, lease := none, sent := none }
  | none => a

/-- STORE_TIME_RETURN: the part's pts is raised to the time of its store or atomic, and later loads served under a lease that
ends before it are served again (11 R284). -/
def Device.storeReturn (d : Device) (rid : Nat) : Device :=
  match d.reqs.get? rid with
  | none => d
  | some r =>
    if !r.performs || r.timed || !r.reached || decide (d.clk.cycle < r.ready + Config.latency (2 ^ 65 + rid)) then d
    else
      let redo (x : Nat × Req) : Nat × Req :=
        if decide (rid < x.1) && decide (x.2.wave = r.wave) && (x.2.after &&& r.after != 0) && x.2.kind.isLoad && x.2.pending != 0 then
          (x.1, { x.2 with accs := x.2.accs.map (·.again d.pulse (d.largest r d.floor)) })
        else x
      let d1 : Device := { d with reqs := AMap.set (d.reqs.map redo) rid { r with timed := true } }
      let d2 := if (d.liveWave r.wave r.gen).isSome then
          d1.mapParts r.wave r.after fun p => { p with pts := d.largest r p.pts } else d1
      d2.reap rid

/-! ## Page walks (12 R297 to R299) -/

/-- A walk's result reaches who asked for it: the TLBs of its core take a leaf, and its part takes the result (12 R298, R299). -/
def Device.walkEnds (d : Device) (x : WalkReq) (r : WalkEnd) : Device :=
  let d := match r with | .leaf l => fillTlb d x.core l | .fault _ _ => d
  d.mapParts x.wave x.quads fun q => { q with walked := ⟨x.va, r⟩ :: q.walked }

/-- PAGE_WALK: the oldest request of a core is walked for; every request of its die whose walk ends at the same entry takes the result of that
read, and one that ended with another agent's walk takes that one's. A walk that meets an entry in a held line waits; one that faults caches
nothing (12 R297 to R299). -/
def Device.pageWalk (d : Device) (core : Nat) : Device :=
  match d.walkQ.find? fun x => decide (x.core = core) with
  | none => d
  | some q =>
    match q.res with
    | some r => ({ d with walkQ := d.walkQ.filter fun x => x ≠ q } : Device).walkEnds q r
    | none =>
      let w := walk d core q.space q.va
      if w.held d then d
      else
        let same (x : WalkReq) : Bool := decide (x = q) || d.ends? core w x
        let d1 : Device := { d.afterWalk core w with walkQ := d.walkQ.filter fun x => !same x }
        (d.walkQ.filter same).foldl (fun d x => d.walkEnds x (walk d x.core x.space x.va).res) d1

/-! ## The pulse (11 R280, R282, R285; 10 R259; 13 R325) -/

/-- Nanoseconds of a period code. -/
def periodNs (c : Nat) : Nat := 64 * 2 ^ min c 4

/-- The device is a member of a span. -/
def Device.member (d : Device) : Bool := bit (d.mgmt.regs.get 0x8100) 7

/-- The device drives the pulse of its span. -/
def Device.driver (d : Device) : Bool := bit (d.mgmt.regs.get 0x8100) 8

/-- The pulse comes from the span. -/
def Device.drivenOutside (d : Device) : Bool := d.member && !d.driver

/-- The clocks after a tick: the count, the settings that take effect, and when the next is due. One that has waited for a whole period and more sets
the period anew: the model's choice (11 R280; log entry 104). -/
def tickClocks (outside member : Bool) (c : Clocks) : Clocks :=
  let p := if bits c.pulsecfg 2 0 ≤ 4 then bits c.pulsecfg 2 0 else c.period
  let n := c.pulse + 1
  { c with pulse := n, period := p, tension := bits c.pulsecfg 10 8, nextTick := (if outside || decide (c.nextTick + periodNs p ≤ c.ns) then c.ns else c.nextTick) + periodNs p,
           complete := if member then c.complete else n, lastSpanTick := if outside then c.ns else c.lastSpanTick }

/-- A part at a tick: its floor, and the end of a sleep until it. -/
def tickPart (k : Nat) (fl : Word64) (q : Part) : Part :=
  { q with pts := tmax k q.pts fl, sleep := if q.sleepTick then 1 else q.sleep }

/-- The L1 at a tick: copies whose lease lies before the floor, and far copies, are dropped. -/
def tickL1 (k : Nat) (fl : Word64) (c : Core) : Core :=
  { c with l1 := c.l1.filter fun l => devLine l.line && tle k fl l.lease }

/-- Whether the next tick of the pulse has to wait: its time has not come, or this device drives the pulse of its span and the last tick is not complete
in every device (11 R280). -/
def Device.tickWaits (d : Device) : Bool :=
  !d.drivenOutside && (decide (d.clk.ns < d.clk.nextTick) || (d.member && decide (d.clk.complete < d.clk.pulse)))

/-- PULSE_TICK. -/
def Device.pulseTick (d : Device) : Device :=
  if d.tickWaits then d
  else
    let d1 : Device := { d with clk := tickClocks d.drivenOutside d.member d.clk }
    let k := d1.pulse
    let fl := d1.floor
    let wave (w : Wave) : Wave := if w.saved then w else { w with parts := w.parts.map (tickPart k fl) }
    { d1 with
      waves := d1.waves.map fun w => (w.1, wave w.2)
      cores := d1.cores.map fun c => (c.1, tickL1 k fl c.2)
      lines := d1.lines.map fun l => (l.1, ⟨d1.raised l.2.wts, d1.raised l.2.rts⟩)
      er := SMap.setAll [] (d1.er.map fun e => (e.1, d1.raised e.2)) }

/-- TICK_COMPLETION: every device of the span has observed tick k. -/
def Device.tickComplete (d : Device) (k : Nat) : Device :=
  if d.member && decide (d.clk.complete < k) && decide (k ≤ d.pulse) then { d with clk := { d.clk with complete := k } } else d

/-- SPAN_LEAVE: without a tick for 8 periods the device leaves the span (13 R325). -/
def Device.spanLeave (d : Device) : Device :=
  if d.drivenOutside && decide (d.clk.lastSpanTick + 8 * periodNs d.clk.period ≤ d.clk.ns) then
    let d := d.noteSent
    let d1 : Device := { d with
      mgmt := { d.mgmt with regs := d.mgmt.regs.set 0x8100 (putBits (d.mgmt.regs.get 0x8100) 7 7 0), route := [] }
      clk := { d.clk with complete := d.clk.pulse, nextTick := d.clk.ns + periodNs d.clk.period, leftSpan := true } }
    d1.errorRecord 5 (Config.recordUnit 5).1 (Config.recordUnit 5).2 0 1
  else d

/-- A step that names one thing. -/
def onOne (f : Device → Nat → Device) (s : State) : Out := .next { s with dev := f s.dev (s.arg.getD 0 0) }

/-! ## Meanings -/

/-- LONG_LATENCY_RETURN (R38): operands rid, quad. -/
def execLongLatencyReturn (s : State) : Out := onPart Device.longReturn s

/-- ACCESS_FAILED_AFTER_COMMIT (R304): operands rid, quad, sub, retry. -/
def execAccessFailedAfterCommit (s : State) : Out :=
  .next { s with dev := s.dev.accessFailed (s.arg.getD 0 0) (s.arg.getD 1 0) (s.arg.getD 2 0) (decide (s.arg.getD 3 0 ≠ 0)) }

/-- HOME_SLICE_LOAD (R283): operand rid. -/
def execHomeSliceLoad (s : State) : Out := onOne (fun d r => d.arrive true r) s

/-- HOME_SLICE_STORE (R284): operand rid. -/
def execHomeSliceStore (s : State) : Out := onOne (fun d r => d.arrive false r) s

/-- STORE_TIME_RETURN (R284): operand rid. A saved wave's context takes the time (12 R309). -/
def execStoreTimeReturn (s : State) : Out :=
  let rid := s.arg.getD 0 0
  .next { s with dev := match s.dev.reqs.get? rid with | some r => s.dev.recorded r.wave fun d => d.storeReturn rid | none => s.dev }

/-- PAGE_WALK (R293): operand core. -/
def execPageWalk (s : State) : Out := onOne Device.pageWalk s

/-- PULSE_TICK (R280). -/
def execPulseTick (s : State) : Out := .next { s with dev := s.dev.pulseTick }

/-- TICK_COMPLETION (R280): operand k. -/
def execTickCompletion (s : State) : Out := onOne Device.tickComplete s

/-- SPAN_LEAVE (R325). -/
def execSpanLeave (s : State) : Out := .next { s with dev := s.dev.spanLeave }

end Sys2Proof.Machine
end

