-- ==== Sys2Proof/Machine/Packet.lean ====
section
/-! DEFINITION. Launch packets: acceptance, the refusal rules, the status word, and GBAR's release (01 R9, R10; 06 R180; 09 R237 to
R241; 13 R316). -/

namespace Sys2Proof.Machine

/-! ## Fields (09 R238) -/

/-- Waves per group. -/
def pkWaves (pk : List Word64) : Nat := bits (dw pk 4) 6 0

/-- Group count. -/
def pkGroups (pk : List Word64) : Nat := bits (dw pk 3) 31 0

/-- Lanes of the launch width. -/
def pkLanes (pk : List Word64) : Nat := 4 * 2 ^ bits (dw pk 0) 12 10

/-- Scratchpad bytes per group. -/
def pkSpad (pk : List Word64) : Nat := bits (dw pk 4) 27 8

/-- Role count. -/
def pkRoles (pk : List Word64) : Nat := bits (dw pk 0) 19 18 + 1

/-- Priority. -/
def pkPriority (pk : List Word64) : Nat := bits (dw pk 0) 9 8

/-- L1 fusion is requested. -/
def pkFused (pk : List Word64) : Bool := bit (dw pk 0) 13

/-- Dependences: address and value. -/
def pkDeps (pk : List Word64) : List (Word64 × Word64) :=
  (List.range (bits (dw pk 0) 17 15)).map fun j => (dw pk (18 + 2 * j), dw pk (19 + 2 * j))

/-- First wave, count, prologue allotment and full allotment of a role. -/
def pkRole (pk : List Word64) (i : Nat) : Nat × Nat × Nat × Nat :=
  let r := dw pk (14 + i)
  (bits r 22 16, bits r 30 24, bits r 7 0, bits r 15 8)

/-- The role of a wave. -/
def roleOf (pk : List Word64) (w : Nat) : Nat :=
  ((List.range (pkRoles pk)).find? fun i => decide ((pkRole pk i).1 ≤ w) && decide (w < (pkRole pk i).1 + (pkRole pk i).2.1)).getD 0

/-! ## Refusal (09 R240) -/

/-- Cause 1: the type, or a reserved bit. -/
def badType (pk : List Word64) : Bool :=
  decide (bits (dw pk 0) 7 0 ≠ 1) || !clear (dw pk 0) 63 27 || bit (dw pk 0) 14 || !clear (dw pk 3) 63 37 ||
    !clear (dw pk 4) 63 28 || bit (dw pk 4) 7 || !clear (dw pk 11) 63 13 || dw pk 13 != 0 ||
    (List.range 4).any (fun i => !clear (dw pk (14 + i)) 63 31 || bit (dw pk (14 + i)) 23) ||
    (List.range 3).any fun p => !clear (dw pk (26 + 2 * p)) 63 28 || bit (dw pk (26 + 2 * p)) 19 || dw pk (27 + 2 * p) != 0

/-- An allotment is a multiple of 8 from 8 to 128 (01 R10). -/
def allotOk (n : Nat) : Bool := decide (n % 8 = 0) && decide (8 ≤ n) && decide (n ≤ 128)

/-- Cause 3: roles outside 01 R10, or not a partition of the waves. -/
def badRoles (pk : List Word64) : Bool :=
  let rs := (List.range (pkRoles pk)).map (pkRole pk)
  rs.any (fun r => !allotOk r.2.2.1 || !allotOk r.2.2.2 || decide (r.2.2.2 < r.2.2.1) || decide (pkWaves pk < r.1 + r.2.1)) ||
    (List.range (pkWaves pk)).any fun w => decide ((rs.filter fun r => decide (r.1 ≤ w) && decide (w < r.1 + r.2.1)).length ≠ 1)

/-! ### Binding waves to slots (09 R244) -/

/-- Slot, context and lane-registers of a wave on a core. -/
abbrev Bound := Nat × Nat × Nat

/-- Lane-registers free in a slot. -/
def slotRoom (occ : List Bound) (s : Nat) : Nat :=
  32768 - ((occ.filter fun b => decide (b.1 = s)).map (·.2.2)).foldl (· + ·) 0

/-- The lowest free context of a slot that a wave may take. -/
def freeCtx (occ : List Bound) (ok : Nat → Nat → Bool) (s : Nat) : Option Nat :=
  (List.range 16).find? fun c => ok s c && occ.all fun b => decide (b.1 ≠ s) || decide (b.2.1 ≠ c)

/-- The slot with the most free lane-registers among those with a free context, the lowest on a tie. -/
def bestSlot (occ : List Bound) (ok : Nat → Nat → Bool) : Option Nat :=
  (List.range 4).foldl (fun r s =>
    if (freeCtx occ ok s).isNone then r
    else match r with
      | none => some s
      | some t => if slotRoom occ t < slotRoom occ s then some s else some t) none

/-- Binds waves in order, each with its lane-registers and the contexts it may take; none when one does not fit. -/
def bindWaves : List Bound → List (Nat × (Nat → Nat → Bool)) → Option (List Bound)
  | _, [] => some []
  | occ, (need, ok) :: l =>
    match bestSlot occ ok with
    | none => none
    | some s =>
      match freeCtx occ ok s with
      | none => none
      | some c =>
        if slotRoom occ s < need then none
        else (bindWaves ((s, c, need) :: occ) l).map fun r => (s, c, need) :: r

/-- Lane-registers that each wave of a group starts with. -/
def prologueNeeds (pk : List Word64) : List (Nat × (Nat → Nat → Bool)) :=
  (List.range (pkWaves pk)).map fun w => ((pkRole pk (roleOf pk w)).2.2.1 * pkLanes pk, fun _ _ => true)

/-- Cause 4: counts and sizes that no core can hold. -/
def badSizes (pk : List Word64) : Bool :=
  decide (pkGroups pk = 0) || decide (pkWaves pk = 0) || decide (64 < pkWaves pk) || decide (2048 < pkWaves pk * pkLanes pk) ||
    decide (pkSpad pk % 64 ≠ 0) || decide (524288 < pkSpad pk) || (bindWaves [] (prologueNeeds pk)).isNone

/-! ### Set tables (01 R9, 09 R239) -/

/-- Whether a row is malformed. -/
def badRow (r : Word64 × Word64) : Bool := !clear r.1 15 10 || bit r.1 9 || decide (bits r.1 31 16 = 0)

/-- Groups that a row covers, within the launch. -/
def rowGroups (pk : List Word64) (r : Word64 × Word64) : List Nat :=
  (List.range (bits r.1 31 16)).filterMap fun i =>
    let g := bits r.1 63 32 + i
    if g < pkGroups pk then some g else none

/-- Pairs of a course-pair row. -/
def rowPairs (r : Word64 × Word64) : List (Nat × Nat) :=
  if bits r.1 9 8 = 1 then (List.range (bits r.1 31 16 / 2)).map fun i => (bits r.1 63 32 + 2 * i, bits r.1 63 32 + 2 * i + 1) else []

/-- Sets that a wave belongs to. -/
def setsOfWave (rows : List (Word64 × Word64)) (g w : Nat) : Nat := (below 256 fun k => inSet rows k g w).length

/-- Cause 5: a malformed row, a wave in five or more sets, or a course pair that breaks its rules. -/
def badSets (pk : List Word64) (rows : List (Word64 × Word64)) : Bool :=
  let pairs := (rows.flatMap rowPairs).eraseDups
  let ends := pairs.flatMap fun p => [p.1, p.2]
  decide (4096 < bits (dw pk 11) 12 0) || rows.any badRow || pairs.any (fun p => decide (pkGroups pk ≤ p.2)) ||
    rows.any (fun r => decide (bits r.1 9 8 = 1) && decide (bits r.1 31 16 % 2 = 1)) ||
    pairs.any (fun p => decide (p.1 / cohortSize pk ≠ p.2 / cohortSize pk)) || decide (ends.eraseDups.length ≠ ends.length) ||
    rows.any fun r => (rowGroups pk r).any fun g => (List.range (pkWaves pk)).any fun w => decide (4 < setsOfWave rows g w)

/-! ### Cores of a cohort (09 R243) -/

/-- Whether a core is enabled and not retired. -/
def Device.usable (d : Device) (core : Nat) : Bool := decide (core < min d.mgmt.cores 192) && !(d.core core).retired

/-- Whether the cluster of a core is whole: its four L1s can act as one (10 R260). -/
def Device.wholeCluster (d : Device) (core : Nat) : Bool := (List.range 4).all fun i => d.usable (4 * clusterOf core + i)

/-- Whether consecutive cores from `s` on suit `m` groups, the first of index `first`: one die, enabled, not retired, course partners on the cores
2k and 2k + 1, and whole clusters for L1 fusion. -/
def Device.cohortCores (d : Device) (fused : Bool) (rows : List (Word64 × Word64)) (first m s : Nat) : Bool :=
  decide (dieOf s = dieOf (s + m - 1)) &&
    (List.range m).all fun i =>
      d.usable (s + i) && (!fused || d.wholeCluster (s + i)) &&
        (match partnerIndex rows (first + i) with
          | some p => if first + i < p then decide ((s + i) % 2 = 0) else decide ((s + i) % 2 = 1)
          | none => true)

/-- The cohorts that L1 fusion or course pairs constrain: under fusion the first, which is as large as any, and those that hold course partners. -/
def pairedCohorts (pk : List Word64) (rows : List (Word64 × Word64)) : List Nat :=
  ((if pkFused pk then [0] else []) ++ (rows.flatMap rowPairs).map fun (p : Nat × Nat) => p.1 / cohortSize pk).eraseDups

/-- Cause 6: a cohort that is too large, or one whose course pairs or fused L1s cannot be placed. A cohort without either that no cores hold is no
cause of refusal, and waits (log entry 92). -/
def Device.badCohort (d : Device) (pk : List Word64) (rows : List (Word64 × Word64)) : Bool :=
  let n := cohortSize pk
  let m (c : Nat) : Nat := min n (pkGroups pk - c * n)
  decide (65536 < m 0 * pkWaves pk * pkLanes pk) ||
    (pairedCohorts pk rows).any fun c => !(List.range 192).any (d.cohortCores (pkFused pk) rows (c * n) (m c))

/-- Cause 7: the dependences. -/
def badDeps (pk : List Word64) : Bool := decide (4 < bits (dw pk 0) 17 15) || (pkDeps pk).any fun x => decide (x.1.toNat % 8 ≠ 0)

/-- Cause 8: the pipeline. -/
def badPipes (pk : List Word64) : Bool :=
  let ps := (pipes pk).map (·.2)
  let twice (f : Word64 → Nat) : Bool := decide ((ps.map f).eraseDups.length ≠ ps.length)
  ps.any (fun x => decide (bits x 23 20 = 0) || decide (pkRoles pk ≤ bits x 27 26) || decide (pkRoles pk ≤ bits x 25 24) || decide (bits x 18 0 % 64 ≠ 0) ||
      decide (pkSpad pk < bits x 18 0 + 64 * bits x 23 20)) ||
    twice (fun x => bits x 27 26) || twice fun x => bits x 25 24

/-- Cause 9: a task queue of a launch that is still running. -/
def Device.badQueues (d : Device) (pk : List Word64) : Bool :=
  d.launches.any fun l => !l.2.complete && dw l.2.packet 12 &&& dw pk 12 != 0

/-- Cause 10: the entry and the alignments. -/
def Device.badAddrs (d : Device) (sp : Nat × Nat) (pk : List Word64) : Bool :=
  !isHeader d sp (dw pk 1) || decide ((dw pk 2).toNat % 64 ≠ 0) || decide ((dw pk 6).toNat % 8 ≠ 0) || decide ((dw pk 10).toNat % 16 ≠ 0)

/-- Cause 11: the initial MODE. -/
def badMode (pk : List Word64) : Bool := dw pk 5 != 0 && (!modeOk (dw pk 5) || dw pk 5 &&& 0x1F01FF#64 != dw pk 5)

/-- `n` dwords at an address, or why they cannot be read. -/
def readDwords (d : Device) (sp : Nat × Nat) (va : Word64) (n : Nat) : Except AccFault (List Word64) × Device :=
  let r := readVa d 0 sp .load va (8 * n)
  (r.1.map dwordsOf, r.2)

/-- Rows of a set table, read one by one, up to the first that cannot be read, and why that cannot. -/
def readRows (sp : Nat × Nat) : Nat → Word64 → Device → (List (Word64 × Word64) × Option AccFault) × Device
  | 0, _, d => (([], none), d)
  | n + 1, va, d =>
    match readDwords d sp va 2 with
    | (.error e, d) => (([], some e), d)
    | (.ok r, d) =>
      let l := readRows sp n (va + 16) d
      (((dw r 0, dw r 1) :: l.1.1, l.1.2), l.2)

/-- What the device has read for a packet: its argument block, the rows of its set table, and why something cannot be read. -/
structure Tables where
  /-- The argument block; empty where it cannot be read. -/
  args : List Word64
  /-- The rows. -/
  rows : List (Word64 × Word64)
  /-- Why the argument block or a row cannot be read. -/
  bad : List AccFault
  deriving DecidableEq, Repr

/-- The argument block and the set table of a packet. -/
def Device.tablesOf (d : Device) (sp : Nat × Nat) (pk : List Word64) : Tables × Device :=
  let a := readDwords d sp (dw pk 2) 16
  let r := readRows sp (min 4096 (bits (dw pk 11) 12 0)) (dw pk 10) a.2
  (match a.1 with | .ok x => ⟨x, r.1.1, r.1.2.toList⟩ | .error e => ⟨[], r.1.1, e :: r.1.2.toList⟩, r.2)

/-- The lowest-numbered cause for which a packet is refused. -/
def Device.refusal (d : Device) (sp : Nat × Nat) (t : Tables) (pk : List Word64) : Option Nat :=
  if badType pk then some 1
  else if 5 ≤ bits (dw pk 0) 12 10 then some 2
  else if badRoles pk then some 3
  else if badSizes pk then some 4
  else if badSets pk t.rows then some 5
  else if d.badCohort pk t.rows then some 6
  else if badDeps pk then some 7
  else if badPipes pk then some 8
  else if d.badQueues pk then some 9
  else if d.badAddrs sp pk || !t.bad.isEmpty then some 10
  else if badMode pk then some 11
  else none

/-! ## The status word (09 R241) -/

/-- The completion interrupt of a launch's host queue, when it is enabled (13 R318). A device queue has none (log entry 24). -/
def Device.completionIrq (d : Device) (l : Launch) : Device :=
  if l.queue < 8 then
    match (d.fn l.fn).queues.get? l.queue with
    | some q => if bit q.ctl 30 then d.msix l.fn (bits q.ctl 28 24) else d
    | none => d
  else d

/-- Writes the status word of a launch, timed after `t`, and sends the completion interrupt. None while the write has to wait for a walk. -/
def Device.writeStatus (d : Device) (seq : Nat) (l : Launch) (state cause : Nat) (t : Word64) : Option Device :=
  let a := dw l.packet 6
  let w : Word64 := BitVec.ofNat 64 (seq * 2 ^ 16 + cause * 2 ^ 8 + state)
  if a = 0 || decide (a.toNat % 8 ≠ 0) then some (d.completionIrq l)
  else
    let r := d.storeVa 0 (l.fn, l.as) a (wordBytes [w]) t
    if r.1 = some .wait then none else some (r.2.completionIrq l)

/-! ## PACKET_ACCEPT (09 R237, 13 R316) -/

/-- Enters a packet as the launch of a number, refused or not; none while something it reads or writes has to wait. The argument block is read
here once, and a later change of it is not seen: the manual does not say when it is read, and this is the model's choice (01 R15; log entry
82). -/
def Device.enter (d : Device) (seq fn as queue : Nat) (pk : List Word64) (start : Word64) : Option Device :=
  let r := d.tablesOf (fn, as) pk
  let t := r.1
  if t.bad.contains .wait then none
  else
    let cause := d.refusal (fn, as) t pk
    let l : Launch := { fn := fn, as := as, queue := queue, packet := pk, args := t.args, sets := t.rows,
                        start := start, fetched := d.clk.ns, time := 0, depsMet := false, admitted := 0, failed := false, refused := cause,
                        complete := cause.isSome }
    let d : Device := { r.2 with launches := d.launches.set seq l }
    match cause with
    | some c => d.writeStatus seq l 3 c start
    | none => some d

/-- Stops a queue with a cause. -/
def HostQueue.stop (q : HostQueue) (cause : Nat) : HostQueue := { q with stat := BitVec.ofNat 64 (cause * 256 + 1) }

/-- Replaces a queue of a function. -/
def Device.setQueue (d : Device) (fn q : Nat) (x : HostQueue) : Device :=
  let f := d.fn fn
  d.setFn fn { f with queues := f.queues.set q x }

/-- Whether a queue has a packet to fetch: the device is ready, the queue enabled and running, the indices apart. -/
def Device.queueReady (d : Device) (q : HostQueue) : Bool :=
  decide (d.mgmt.devstate = 2) && bit q.ctl 31 && !bit q.stat 0 && q.read != q.write

/-- The fetch of a packet acts as an acquire at system scope: no L1 keeps a copy that could hide a write of the host from the waves to come (13
R316; log entry 88). -/
def Device.fetchAcquire (d : Device) : Device := { d with cores := d.cores.map fun c => (c.1, { c.2 with l1 := [] }) }

/-- PACKET_ACCEPT: queue 0 to 7 of a function, or 8 + device queue. Nothing happens while what it reads has to wait. -/
def Device.accept (d : Device) (fn queue : Nat) : Device :=
  if queue < 8 then
    let q := (d.fn fn).queues.getD queue HostQueue.reset
    if !d.queueReady q then d
    else
      let as := bits q.ctl 11 8
      let slot := q.base + BitVec.ofNat 64 (256 * (q.read.toNat % 2 ^ bits q.ctl 4 0))
      match readDwords d.fetchAcquire (fn, as) slot 32 with
      | (.error .wait, _) => d
      | (.error _, d) => d.setQueue fn queue (q.stop 2)
      | (.ok pk, d1) =>
        let d' : Device := { d1 with seq := (d.seq + 1) % 2 ^ 48 }
        ((d'.setQueue fn queue { q with read := q.read + 1 }).enter d.seq fn as queue pk 0).getD d
  else
    match d.devQ.getD (queue - 8) [] with
    | [] => d
    | c :: l =>
      if d.mgmt.devstate ≠ 2 then d
      else (({ d with devQ := d.devQ.set (queue - 8) l } : Device).enter c.seq c.space.1 c.space.2 queue c.packet c.start).getD d

/-! ## GBAR_RELEASE (06 R180) -/

/-- Keys of a group and a wave of a launch. -/
def groupKeyOf (launch g : Nat) : Nat := launch * 2 ^ 32 + g

/-- Key of a wave of a group. -/
def waveKeyOf (gid w : Nat) : Nat := gid * 64 + w

/-- Whether a part waits at a GBAR of a set that has not been released for it. -/
def atGbar (k : Nat) (q : Part) : Bool := decide (q.phase = .held (.gbar k)) && !q.gbarGo.any fun x => decide (x.1 = k)

/-- Keys of the waves of a set. -/
def setMembers (l : Launch) (launch k : Nat) : List Nat :=
  ((setRows l.sets k).flatMap fun r => (rowGroups l.packet r).flatMap fun g =>
    (below (pkWaves l.packet) fun w => bit r.2 w).map fun w => waveKeyOf (groupKeyOf launch g) w).eraseDups

/-- Whether a wave has arrived at a GBAR, or has retired. -/
def Device.gbarHere (d : Device) (k wid : Nat) : Bool :=
  match d.waves.get? wid with
  | none => false
  | some w => w.retired || w.live.all (atGbar k)

/-- GBAR_RELEASE: every wave of the set has arrived or retired; the held parts may commit with the largest pts. -/
def Device.gbarRelease (d : Device) (launch k : Nat) : Device :=
  match d.launches.get? launch with
  | none => d
  | some l =>
    let ms := setMembers l launch k
    let held := ms.flatMap fun m => ((d.waves.get? m).map fun w => w.live.filter (atGbar k)).getD []
    if held.isEmpty || !ms.all (d.gbarHere k) then d
    else
      let t := held.foldl (fun t p => tmax d.pulse t p.pts) d.floor
      let go (w : Nat × Wave) : Nat × Wave :=
        if ms.contains w.1 then
          (w.1, { w.2 with parts := w.2.parts.map fun q => if atGbar k q then { q with gbarGo := (k, t) :: q.gbarGo } else q })
        else w
      { d with waves := d.waves.map go }

/-! ## Meanings -/

/-- PACKET_ACCEPT (R237): operands fn, q. -/
def execPacketAccept (s : State) : Out := onPart Device.accept s

/-- GBAR_RELEASE (R180): operands launch, set. -/
def execGbarRelease (s : State) : Out := onPart Device.gbarRelease s

end Sys2Proof.Machine
end

