-- ==== Sys2Proof/Machine/Launch.lean ====
section
/-! DEFINITION. Admission and placement, the allotment arbiter, pre-emption, saving and restoring, retirement and the end of a
launch (01 R8, R10, R12, R40 to R42; 04 R118, R124; 09 R242 to R250; 10 R256, R260; 12 R309 to R311). -/

namespace Sys2Proof.Machine

/-! ## What a core holds (09 R244, 10 R256) -/

/-- Whether a wave holds registers and a context of its slot. -/
def Wave.occupies (w : Wave) : Bool := !w.retired && !w.saved

/-- The allotment that a wave's slot keeps for it: the full one once ACQUIRE is granted. -/
def Wave.reserved (w : Wave) : Nat := if w.acqGrant then w.full else w.cur

/-- Slots, contexts and lane-registers taken on a core. -/
def Device.taken (d : Device) (core : Nat) : List Bound :=
  (d.waves.filter fun w => decide (w.2.core = core) && w.2.occupies).map fun w => (w.2.slot, w.2.ctx, w.2.reserved * w.2.lanes)

/-- Lanes resident on a core: those of every wave of the groups there, of one that a debugger has saved too, which is to come back (09 R244, 12
R308). -/
def Device.lanesOn (d : Device) (core : Nat) : Nat :=
  let here (w : Wave) : Bool := decide (w.core = core) && !w.retired &&
    (!w.saved || (match d.groups.get? w.group with | some g => decide (g.core = some core) | none => false))
  ((d.waves.filter fun w => here w.2).map (·.2.lanes)).foldl (· + ·) 0

/-- Scratchpad allotments on a core: base and size. -/
def Device.spadsOn (d : Device) (core : Nat) : List (Nat × Nat) :=
  (d.groups.filter fun g => decide (g.2.core = some core)).map fun g => (g.2.base, g.2.size)

/-- The lowest 256-byte aligned gap of `n` bytes. -/
def Device.spadGap (d : Device) (core n : Nat) : Option Nat :=
  let l := d.spadsOn core
  let starts := 0 :: l.map fun x => roundUp (x.1 + x.2) 256
  (starts.filter fun b => decide (b + n ≤ 524288) && l.all fun x => decide (n = 0) || decide (x.2 = 0) || !overlap (b, b + n) (x.1, x.1 + x.2)).foldl
    (fun r b => match r with | none => some b | some a => some (min a b)) none

/-- Generations outstanding in a context: those that work in flight of its waves carries, apart from one wave's (01 R40). -/
def Device.outstanding (d : Device) (core slot ctx : Nat) (but : Option Nat) : List (BitVec 16) :=
  let here (w : Nat) : Bool := but != some w &&
    (match d.waves.get? w with
      | some x => decide (x.core = core) && decide (x.slot = slot) && decide (x.ctx = ctx)
      | none => false)
  (d.reqs.filter fun x => here x.2.wave).map (·.2.gen) ++ (d.ops.filter fun x => here x.2.wave).map (·.2.gen) ++
    (d.bmvs.filter fun x => here x.2.wave).map (·.2.gen) ++ (d.mdone.filter fun x => here x.2.wave).map (·.2.gen) ++
    d.groups.flatMap fun g => (g.2.mq.filter fun e => here e.wave).map (·.gen)

/-- The first number from `g` on that is not outstanding. -/
def skipGens (out : List (BitVec 16)) : Nat → BitVec 16 → BitVec 16
  | 0, g => g
  | n + 1, g => if out.contains g then skipGens out n (g + 1) else g

/-- A new generation number of a context, and the core after it (01 R40). -/
def Device.newGen (d : Device) (core slot ctx : Nat) : BitVec 16 × Device :=
  let c := d.core core
  let k := slot * 16 + ctx
  let out := d.outstanding core slot ctx none
  let g := skipGens out out.length (c.gens.get k)
  (g, d.setCore core { c with gens := c.gens.set k (g + 1) })

/-! ## Clusters (09 R243, 10 R260) -/

/-- Launches with groups on a cluster. -/
def Device.clusterLaunches (d : Device) (cl : Nat) : List Nat :=
  (d.groups.filter fun g => match g.2.core with | some c => decide (clusterOf c = cl) | none => false).map (·.2.launch)

/-- Whether a launch asked for L1 fusion. -/
def Device.fusedLaunch (d : Device) (launch : Nat) : Bool := ((d.launches.get? launch).map fun l => pkFused l.packet).getD false

/-- Whether the cluster of a core may take a group of a launch. -/
def Device.clusterOk (d : Device) (launch core : Nat) : Bool :=
  let ls := d.clusterLaunches (clusterOf core)
  if d.fusedLaunch launch then ls.all fun l => decide (l = launch) else ls.all fun l => !d.fusedLaunch l

/-- Sets the fusion of a cluster's L1s, emptying them when it changes. -/
def Device.setFused (d : Device) (cl : Nat) (b : Bool) : Device :=
  (List.range 4).foldl (fun d i =>
    let c := d.core (4 * cl + i)
    if c.fused = b then d else d.setCore (4 * cl + i) { c with fused := b, l1 := [] }) d

/-! ## Admission (09 R242 to R244, R247) -/

/-- Whether a dependence holds: the time of the load that found it so, or none; a word that cannot be read, or that is neither of device nor of
system kind, is an error. A load that waits for a walk or at a held line has not found it to hold. -/
def Device.depHolds (d : Device) (sp : Nat × Nat) (x : Word64 × Word64) : Except Unit (Option Word64) × Device :=
  match element d .unit 0 sp .load false x.1 8 with
  | (.error .wait, d) => (.ok none, d)
  | (.error _, d) => (.error (), d)
  | (.ok b, d) =>
    match d.barred true b.keys with
    | some .wait => (.ok none, d)
    | some _ => (.error (), d)
    | none =>
      if b.any fun y => decide (y.1.kind ≠ 0) && decide (y.1.kind ≠ 2) then (.error (), d)
      else if leNat (d.bytes b.keys) < x.2.toNat then (.ok none, d)
      else
        let r := d.readLines 0 d.floor b.leaves
        (.ok (some r.1), r.2)

/-- Whether every dependence of a launch holds, and the largest time of the loads. -/
def Device.depsHold (d : Device) (l : Launch) : Except Unit (Option Word64) × Device :=
  (pkDeps l.packet).foldl (fun r x =>
    let h := r.2.depHolds (l.fn, l.as) x
    (match r.1, h.1 with
      | .error e, _ => .error e
      | _, .error e => .error e
      | .ok (some t), .ok (some u) => .ok (some (tmax d.pulse t u))
      | _, _ => .ok none, h.2)) (.ok (some l.start), d)

/-- Whether a launch still has groups to admit. -/
def Launch.waiting (l : Launch) : Bool := !l.complete && l.refused.isNone && !l.failed && decide (l.admitted < pkGroups l.packet)

/-- The launch at the head of a launch's queue. -/
def Device.headOf (d : Device) (l : Launch) : Option Nat :=
  (d.launches.find? fun x => x.2.waiting && decide (x.2.queue = l.queue) && (decide (8 ≤ l.queue) || decide (x.2.fn = l.fn))).map (·.1)

/-- What may be admitted next: a saved group or the next groups of a launch. -/
inductive Cand where
  | saved (g : Nat)
  | fresh (launch : Nat)
  deriving DecidableEq, Repr

/-- A saved group may be restored only when every bank product of its waves is recorded (12 R310). -/
def Device.restorable (d : Device) (gid : Nat) : Bool :=
  d.bmvs.all fun b => match d.waves.get? b.2.wave with | some w => decide (w.group ≠ gid) | none => true

/-- Rank of a candidate: priority first, saved groups before new ones, then age; smaller comes first (09 R242, R246). -/
def Device.candRank (d : Device) (c : Cand) : Nat × Nat × Nat :=
  let pr (launch : Nat) : Nat := 3 - ((d.launches.get? launch).map fun l => pkPriority l.packet).getD 0
  match c with
  | .saved g =>
    let x := d.groups.get? g
    let launch := (x.map (·.launch)).getD 0
    (pr launch, 0, launch * 2 ^ 32 + (x.map (·.index)).getD 0)
  | .fresh s => (pr s, 1, s * 2 ^ 32)

/-- Whether a rank comes before another. -/
def rankLt (a b : Nat × Nat × Nat) : Bool :=
  decide (a.1 < b.1) || (decide (a.1 = b.1) && (decide (a.2.1 < b.2.1) || (decide (a.2.1 = b.2.1) && decide (a.2.2 < b.2.2))))

/-- The candidate that comes first. -/
def Device.firstCand (d : Device) : Option Cand :=
  let saved := (d.groups.filter fun g => g.2.saved && !g.2.left).map fun g => Cand.saved g.1
  let heads := (d.launches.filter fun l => l.2.waiting && decide (d.headOf l.2 = some l.1) &&
      (l.2.depsMet || (match (d.depsHold l.2).1 with | .ok none => false | _ => true))).map fun l => Cand.fresh l.1
  (saved ++ heads).foldl (fun r c => match r with
    | none => some c
    | some b => if rankLt (d.candRank c) (d.candRank b) then some c else some b) none

/-- Whether a group of a packet fits a core, and how its waves bind. -/
def Device.fits (d : Device) (launch : Nat) (needs : List (Nat × (Nat → Nat → Bool))) (lanes spad core : Nat) : Option (List Bound × Nat) :=
  if !d.clusterOk launch core || decide (2048 < d.lanesOn core + needs.length * lanes) then none
  else
    match bindWaves (d.taken core) needs, d.spadGap core spad with
    | some b, some base => some (b, base)
    | _, _ => none

/-- A wave as a launch creates it (01 R12, R15). -/
def newWave (launch gid : Nat) (l : Launch) (w core : Nat) (b : Bound) (gen : BitVec 16) (t : Word64) : Wave :=
  let pk := l.packet
  let r := pkRole pk (roleOf pk w)
  let width := bits (dw pk 0) 12 10
  let quads : BitVec 16 := BitVec.ofNat 16 (2 ^ 2 ^ width - 1)
  let mode := if dw pk 5 = 0 then 0xA0001#64 else dw pk 5
  let sregs : SMap 64 := SMap.set (SMap.setAll [] (l.args.zipIdx.map fun x => (x.2, x.1))) 63 (laneMask quads)
  let q : Part :=
    { quads := quads, sregs := sregs, pc := dw pk 1, stack := [], loops := [], pts := t, window := [], phase := .header, clause := none,
      mode := mode, joinDone := false, skipJoin := false, passBit := false, bpPass := false, reached := false,
      limSplit := 32, limFuse := 2 ^ 20, limJoin := 10, bpHere := none, copyWait := 0, joinWait := none,
      fuseWait := none, splitWait := none, sleep := 0, sleepTick := false, yieldLeft := 0, yieldOther := false, starve := 0,
      starved := false, spin := 0, spinLine := none, spinWts := 0, spinFrom := 0, demoted := 0, owed := 0, acquired := l.fetched, fenceTick := none,
      tqReady := false, bmvTime := 0, gbarGo := [], tallocGrant := [], acqClause := false, heldAt := 0, issueEnd := 0, arrived := false,
      walked := [], watch := none, allotWait := 0 }
  { launch := launch, group := gid, index := w, core := core, slot := b.1, ctx := b.2.1, gen := gen, width := width, role := roleOf pk w,
    prologue := r.2.2.1, full := r.2.2.2, cur := r.2.2.1, fpx := 0, fpxAt := 0, fpxNew := 0, batch := 0, vregs := [], qregs := [], flags := [], blame := [],
    exited := 0, parts := [q], halt := none, late := [], acqReq := none, acqGrant := false, failures := [], btimes := [], counters := [], splits := 0,
    fuses := 0, stepping := none, retired := false, killed := false, profiled := false, saved := false }

/-- A group as a launch creates it (01 R12). -/
def newGroup (launch index core base : Nat) (pk : List Word64) : Group :=
  { launch := launch, index := index, core := some core, base := base, size := pkSpad pk, spad := [], st := 0,
    mode := if dw pk 5 = 0 then 0xA0001#64 else dw pk 5, recs := [], tiles := [], spdoob := 0, oobAt := 0, oobNew := 0, splitd := 32, fusel := 2 ^ 20, mq := [],
    failed := false, preempt := none, preemptFor := none, preemptHost := none, passed := [], saved := false, images := [], occ := [], left := false }

/-- Places a wave in a context: it gets a new generation, which what is left of the context's earlier waves no longer matches. -/
def Device.placeWave (d : Device) (launch gid : Nat) (l : Launch) (core w : Nat) (b : Bound) : Device :=
  let g := d.newGen core b.1 b.2.1
  let clear (x : Wave) : Wave :=
    if x.retired && decide (x.core = core) && decide (x.slot = b.1) && decide (x.ctx = b.2.1) then { x with gen := g.1 } else x
  let d : Device := { g.2 with waves := g.2.waves.map fun x => (x.1, clear x.2) }
  let x := newWave launch gid l w core b g.1 (tmax d.pulse d.floor l.start)
  (d.setWave (waveKeyOf gid w) x).noteLife x 0

/-- Admits one group to a core. -/
def Device.admitGroup (d : Device) (launch : Nat) (l : Launch) (index core : Nat) (bs : List Bound) (base : Nat) : Device :=
  let gid := groupKeyOf launch index
  let d := d.setGroup gid (newGroup launch index core base l.packet)
  let d := d.note l.fn core 0x10 index (BitVec.ofNat 64 launch)
  let d := bs.zipIdx.foldl (fun d b => d.placeWave launch gid l core b.2 b.1) d
  if pkFused l.packet then d.setFused (clusterOf core) true else d

/-- Cores for `m` groups from index `first` on, with their bindings. -/
def Device.placeAt (d : Device) (launch : Nat) (l : Launch) (first m s : Nat) : Option (List (Nat × List Bound × Nat)) :=
  if !d.cohortCores (pkFused l.packet) l.sets first m s then none
  else (List.range m).foldr (fun i r =>
    match r, d.fits launch (prologueNeeds l.packet) (pkLanes l.packet) (pkSpad l.packet) (s + i) with
    | some x, some b => some ((s + i, b) :: x)
    | _, _ => none) (some [])

/-- Groups of the next cohort of a launch. -/
def Launch.nextCohort (l : Launch) : Nat := min (cohortSize l.packet) (pkGroups l.packet - l.admitted)

/-- Where the next cohort of a launch goes: the lowest cores that hold it. -/
def Device.placement (d : Device) (launch : Nat) (l : Launch) : Option (List (Nat × List Bound × Nat)) :=
  (List.range 192).findSome? (d.placeAt launch l l.admitted l.nextCohort)

/-- Empties the task queues that a packet allots (09 R247). -/
def Device.emptyQueues (d : Device) (pk : List Word64) : Device :=
  { d with taskQ := (below 64 fun q => tqAllotted pk q).foldl (fun t q => t.set q emptyQueue) d.taskQ }

/-- GROUP_ADMIT: when it comes first, the next cohort of a launch is admitted to the lowest cores that hold it. -/
def Device.groupAdmit (d : Device) (launch : Nat) : Device :=
  match d.launches.get? launch with
  | none => d
  | some l =>
    if d.firstCand ≠ some (.fresh launch) || d.mgmt.table.isSome then d
    else
      match if l.depsMet then (.ok (some l.start), d) else d.depsHold l with
      | (.error _, d) => { d with launches := d.launches.set launch { l with failed := true } }
      | (.ok none, _) => d
      | (.ok (some t), d) =>
        let l1 := { l with depsMet := true, start := t }
        let d1 : Device := { d with launches := d.launches.set launch l1 }
        match d1.placement launch l1 with
        | none => d1
        | some ps =>
          let d2 := if l1.admitted = 0 then d1.emptyQueues l1.packet else d1
          let d3 := ps.zipIdx.foldl (fun d x => d.admitGroup launch l1 (l1.admitted + x.2) x.1.1 x.1.2.1 x.1.2.2) d2
          { d3 with launches := d3.launches.set launch { l1 with admitted := l1.admitted + ps.length } }

/-! ## The allotment arbiter (09 R245) -/

/-- A request that waits: wave key, age, what it asks, cycles waited, and the part's lowest quad. -/
structure AReq where
  /-- Key of the wave. -/
  wave : Nat
  /-- Lowest quad of the part. -/
  quad : Nat
  /-- Age of the part. -/
  age : Nat
  /-- Lane-registers or units. -/
  amount : Nat
  /-- Cycles waited. -/
  waited : Nat
  deriving DecidableEq, Repr

/-- Whether a part waits for an allotment, with its clause. -/
def Device.asking (d : Device) (wid : Nat) (w : Wave) (q : Part) : Option Clause :=
  if decide (q.phase ≠ .header) || !d.runs w || w.halt.isSome then none
  else
    match headerOf d wid w q with
    | (.allot, some c, _) => some c
    | _ => none

/-- The request of a part in a list: 0 to 3 the registers of a slot, 4 accumulator memory. -/
def Device.requestOf (d : Device) (list wid : Nat) (w : Wave) (q : Part) : Option AReq :=
  match d.asking wid w q with
  | none => none
  | some c =>
    let r (amount waited : Nat) : AReq := ⟨wid, lowQuad q.quads, d.ageOf w q, amount, waited⟩
    if list < 4 then
      if w.slot = list && c.hasAcquire && !w.acqGrant && decide (w.cur ≠ w.full) then
        some (r ((w.full - w.cur) * w.lanes) (w.acqReq.getD 0)) else none
    else (c.tallocs[q.tallocGrant.length]?).map fun u => r u q.allotWait

/-- The requests of a list, oldest first in effect: the oldest. -/
def Device.oldest (d : Device) (core list : Nat) : Option AReq :=
  ((d.resident core).flatMap fun w => w.2.live.filterMap (d.requestOf list w.1 w.2)).foldl (fun r x => match r with
    | none => some x
    | some y => if x.age < y.age then some x else some y) none

/-- Lane-registers free in a slot of a core. -/
def Device.slotFreeRegs (d : Device) (core slot : Nat) : Nat := slotRoom (d.taken core) slot

/-- The arbiter no longer breaks a wait in a list (09 R245). -/
def Device.endBreak (d : Device) (core list : Nat) : Device :=
  let c := d.core core
  d.setCore core { c with breaks := c.breaks.filter fun x => decide (x.1 ≠ list) }

/-- Grants the oldest request of a list when it fits. -/
def Device.grant (d : Device) (core list : Nat) : Device :=
  match d.oldest core list with
  | none => d
  | some r =>
    match d.partOf r.wave r.quad with
    | none => d
    | some (w, q) =>
      if list < 4 then
        if r.amount ≤ d.slotFreeRegs core list then
          (d.setWave r.wave { w.zeroFrom w.prologue with acqGrant := true, acqReq := none }).endBreak core list
        else d
      else
        match d.freeRun core r.amount with
        | some f => (d.setPart r.wave w { q with tallocGrant := q.tallocGrant ++ [(f, r.amount)] }).endBreak core list
        | none => d

/-- Whether a group holds resources of a list. -/
def Device.holdsList (d : Device) (core list gid : Nat) : Bool :=
  if list < 4 then d.waves.any fun w => decide (w.2.group = gid) && decide (w.2.core = core) && decide (w.2.slot = list) && w.2.occupies
  else
    (match d.groups.get? gid with | some g => !g.tiles.isEmpty | none => false) ||
      d.waves.any fun w => decide (w.2.group = gid) && w.2.parts.any fun q => !q.tallocGrant.isEmpty

/-- Whether a group has a request waiting. -/
def Device.groupAsks (d : Device) (core gid : Nat) : Bool :=
  (d.resident core).any fun w => decide (w.2.group = gid) && w.2.live.any fun q => (d.asking w.1 w.2 q).isSome

/-- Whether every part of a core has waited for an allotment for the deadlock wait. -/
def Device.stuck (d : Device) (core : Nat) : Bool :=
  (d.resident core).all fun w => w.2.live.all fun q => (d.asking w.1 w.2 q).isSome && decide (Config.deadlockWait ≤ q.allotWait)

/-- Groups on a core. -/
def Device.groupsOn (d : Device) (core : Nat) : List (Nat × Group) := d.groups.filter fun g => decide (g.2.core = some core)

/-- Whether a group's context can be saved: its launch names a context area (09 R249). -/
def Device.saveable (d : Device) (g : Group) : Bool := d.packetWord g.launch 9 != 0

/-- The victim of a list: the youngest other group that holds its resources and is not passed over. -/
def Device.victim (d : Device) (core list own : Nat) : Option Nat :=
  ((d.groupsOn core).filter fun g => decide (g.1 ≠ own) && d.holdsList core list g.1 && d.saveable g.2 && !g.2.passed.contains list).foldl
    (fun r g => match r with
      | none => some g.1
      | some b => if b < g.1 then some g.1 else some b) none

/-- A pre-emption of a group has failed, which the host runtime hears of where it asked for it (09 R249). -/
def Device.reportFail (d : Device) (gid : Nat) (for' : Option Nat) : Device :=
  if for'.isNone then { d with out := .preemptFailed gid :: d.out } else d

/-- PREEMPT_REQUEST: a group of a launch that can be saved begins to stop; the request for any other group fails at once (09 R249). A request of the
host's runtime beside one of the arbiter that is pending is noted, and has a limit of its own. -/
def Device.preemptRequest (d : Device) (gid : Nat) (for' : Option Nat) : Device :=
  match d.groups.get? gid with
  | none => d
  | some g =>
    if g.core.isNone || g.saved then d
    else if g.preempt.isSome then
      if for'.isNone && g.preemptFor.isSome && g.preemptHost.isNone then d.setGroup gid { g with preemptHost := some 0 } else d
    else if !d.saveable g then d.reportFail gid for'
    else d.setGroup gid { g with preempt := some 0, preemptFor := for' }

/-- ALLOTMENT_DEADLOCK_PREEMPT: the arbiter breaks a wait, one victim after the other until the oldest request is granted (09 R245). -/
def Device.breakWait (d : Device) (core list : Nat) : Device :=
  match d.oldest core list with
  | none => d
  | some r =>
    let own := ((d.waves.get? r.wave).map (·.group)).getD 0
    let blocked := decide (Config.deadlockWait ≤ r.waited) &&
      (d.groupsOn core).all fun g => decide (g.1 = own) || !d.holdsList core list g.1 || d.groupAsks core g.1
    let c := d.core core
    if !(d.stuck core || blocked || c.breaks.contains (list, r.wave, r.quad)) || (d.groupsOn core).any (fun g => decide (g.2.preemptFor = some list) && g.2.preempt.isSome) then d
    else
      match d.victim core list own with
      | some v => ((d.endBreak core list).setCore core { c with
          breaks := (list, r.wave, r.quad) :: c.breaks.filter fun x => decide (x.1 ≠ list) }).preemptRequest v (some list)
      | none => d

/-! ## Pre-emption (09 R249; 12 R309, R310) -/

/-- Waves of a group that have not retired, in ascending index. -/
def Device.wavesOf (d : Device) (gid : Nat) : List (Nat × Wave) := d.waves.filter fun w => decide (w.2.group = gid) && !w.2.retired

/-- Whether an entry of a matrix queue is an ACCRD of a wave. -/
def MQEntry.returnsTo (e : MQEntry) (wid : Nat) : Bool :=
  decide (e.wave = wid) && (match e.work with | .accrd _ _ _ _ _ => true | _ => false)

/-- Whether register-returning work of a wave is outstanding. -/
def Device.owesRegs (d : Device) (wid : Nat) : Bool :=
  (d.reqs.any fun r => decide (r.2.wave = wid) && r.2.pending != 0) || (d.mdone.any fun m => decide (m.2.wave = wid)) ||
    d.groups.any fun g => g.2.mq.any (·.returnsTo wid)

/-- Whether a group is the follower of a course MMA that is dispatched (07 R203). -/
def Device.follows (d : Device) (gid : Nat) : Bool :=
  match (d.partner gid).bind d.groups.get? with
  | some g => g.mq.any (·.dispatched)
  | none => false

/-- Whether every part of every wave of a group stands stopped at a marker, with nothing outstanding. -/
def Device.quiet (d : Device) (gid : Nat) (g : Group) : Bool :=
  g.mq.isEmpty && !d.follows gid &&
    d.waves.all fun w => decide (w.2.group ≠ gid) || w.2.retired ||
      ((w.2.live.all fun q => q.stands && (markerAt d (d.spaceOf w.2.launch) q.pc).isSome) && !d.owesRegs w.1 &&
        !d.marksHeld w.2)

/-- The registers of a part that are live at its marker; the others read as zero (01 R42). -/
def savePart (d : Device) (sp : Nat × Nat) (w : Wave) (q : Part) : Wave × Part :=
  match liveAt d sp q.pc with
  | none => (w, q)
  | some l =>
    let liveV (r : Nat) : Bool := bit (dw l (if r < 64 then 2 else 3)) (r % 64)
    let mine (lane : Nat) : Bool := bit q.quads (lane / 4)
    ({ w with vregs := w.vregs.keep fun k => !mine (k / 128) || liveV (k % 128)
              qregs := w.qregs.keep fun k => !mine (k / 2) || bit (dw l 0) (32 + k % 2) },
      { q with sregs := q.sregs.keep fun r => bit (dw l 1) r })

/-- Saves the registers of some parts. -/
def saveParts (d : Device) (sp : Nat × Nat) : List Part → Wave → Wave
  | [], w => w
  | q :: l, w =>
    let r := flushWindow w q
    let s := savePart d sp r.1 r.2
    saveParts d sp l { s.1 with parts := putPart s.1.parts s.2 }

/-- A wave with its context saved (01 R42, 12 R309). It keeps what it has been granted; a request that waits is made again (09 R246). -/
def saveWave (d : Device) (w : Wave) : Wave := { saveParts d (d.spaceOf w.launch) w.live w with saved := true, acqReq := none }

/-- The tile images of a group: the words of each handle's units. -/
def tileImages (c : Core) (g : Group) : SMap 32 :=
  g.tiles.foldl (fun m t => (c.acc.filter fun k => decide (t.2.first * 4096 ≤ k.1) && decide (k.1 < (t.2.first + t.2.units) * 4096)).foldl
    (fun m k => m.set (t.1 * 2 ^ 20 + (k.1 - t.2.first * 4096)) k.2) m) []

/-- Ends the fusion of a cluster once no group of a fused launch is left on it. -/
def Device.unfuse (d : Device) (core : Nat) : Device :=
  if (d.clusterLaunches (clusterOf core)).any d.fusedLaunch then d else d.setFused (clusterOf core) false

/-- PREEMPT_SAVE: once everything has stopped and drained, the group's context is saved and it leaves its core. -/
def Device.preemptSave (d : Device) (gid : Nat) : Device :=
  match d.groups.get? gid with
  | none => d
  | some g =>
    match g.core, g.preempt with
    | some core, some _ =>
      if !d.quiet gid g then d
      else
        let go (w : Wave) : Wave := if decide (w.group = gid) && !w.retired && !w.saved then saveWave d w else w
        let img := tileImages (d.core core) g
        let d1 : Device := { d with waves := d.waves.map fun w => (w.1, go w.2) }
        let own := (d.wavesOf gid).filter fun w => !w.2.saved
        let put := own.foldl (fun e w => e.putWave (fun q => d.stateCode w.1 w.2 q false) (saveWave d w.2) g) (d1.putGroup core g)
        let d2 := put.setGroup gid
          { g with core := none, saved := true, images := img, preempt := none, preemptFor := none, preemptHost := none, passed := [] }
        (d2.note (d.spaceOf g.launch).1 core 0x11 (2 * 2 ^ 32 + g.index) (BitVec.ofNat 64 g.launch)).unfuse core
    | _, _ => d

/-- PREEMPT_FAIL: a pre-emption that is not done within its limit fails; the arbiter passes the group over, and a later request of the host's runtime
goes on (09 R245, R249). -/
def Device.preemptFail (d : Device) (gid : Nat) : Device :=
  match d.groups.get? gid with
  | none => d
  | some g =>
    match g.preempt with
    | some n =>
      if n < Config.drainLimit then d
      else
        (d.reportFail gid g.preemptFor).setGroup gid
          { g with preempt := g.preemptHost, preemptFor := none, preemptHost := none, passed := g.passed ++ g.preemptFor.toList }
    | none => d

/-! ## Restore (09 R246, R250) -/

/-- What the waves of a saved group need: the allotment each held, and a context with nothing tagged with its generation. -/
def Device.restoreNeeds (d : Device) (gid core : Nat) : List (Nat × (Nat → Nat → Bool)) :=
  (d.wavesOf gid).map fun w =>
    (w.2.reserved * w.2.lanes, fun s c => !(d.outstanding core s c (some w.1)).contains w.2.gen)

/-- First units for runs of some lengths beside the runs `held`, in order, each at the lowest that fits. -/
def placeRuns : List Nat → List (Nat × Nat) → Option (List Nat)
  | [], _ => some []
  | n :: l, held =>
    match (List.range 16).find? fun f => decide (f + n ≤ 16) && held.all fun x => !overlap (f, f + n) (x.1, x.1 + x.2) with
    | none => none
    | some f => (placeRuns l ((f, n) :: held)).map (f :: ·)

/-- Lengths of the unit runs that were granted to the waiting clauses of a wave, part by part. -/
def Wave.grantRuns (w : Wave) : List Nat := w.parts.flatMap fun q => q.tallocGrant.map (·.2)

/-- Takes as many of some first units as a list of runs has: the runs at those units, and the units left. -/
def regrant : List (Nat × Nat) → List Nat → List (Nat × Nat) × List Nat
  | [], fs => ([], fs)
  | x :: l, fs => let r := regrant l fs.tail; ((fs.headD x.1, x.2) :: r.1, r.2)

/-- Parts with the runs granted to them at new first units, in order. -/
def regrantParts : List Part → List Nat → List Part
  | [], _ => []
  | q :: l, fs => let r := regrant q.tallocGrant fs; { q with tallocGrant := r.1 } :: regrantParts l r.2

/-- Waves with the runs granted to their parts at new first units, in order. -/
def regrantWaves : List (Nat × Wave) → List Nat → List (Nat × Wave)
  | [], _ => []
  | w :: l, fs =>
    (w.1, { w.2 with parts := regrantParts w.2.parts fs }) :: regrantWaves l (fs.drop w.2.grantRuns.length)

/-- First units for the tiles of a saved group on a core, in ascending handle order, then for what its waves had been granted. -/
def Device.restoreRuns (d : Device) (gid core : Nat) (g : Group) : Option (List Nat) :=
  placeRuns (g.tiles.map (·.2.units) ++ (d.wavesOf gid).flatMap fun w => w.2.grantRuns) (d.unitsHeld core)

/-- Where a restored group may go, to stand right beside the groups of its cohort that are resident (09 R243). -/
def Device.restoreCores (d : Device) (g : Group) (l : Launch) : List Nat :=
  let n := cohortSize l.packet
  let mates := d.groups.filterMap fun x =>
    if decide (x.2.launch = g.launch) && decide (x.2.index / n = g.index / n) && decide (x.2.index ≠ g.index) then
      x.2.core.map fun c => (x.2.index, c) else none
  let first := g.index / n * n
  let m := min n (pkGroups l.packet - first)
  let off := g.index - first
  ((List.range 192).filter fun s => d.cohortCores (pkFused l.packet) l.sets first m s && mates.all fun x => decide (x.2 = s + (x.1 - first))).map (· + off)

/-- A part as a restore takes it up: awake, its counts at zero, its pts at least the floor, and no copy that its core holds from before to hide what it
has seen (04 R128; 09 R250; 11 R278, R287). -/
def restorePart (k : Nat) (fl : Word64) (ns : Nat) (q : Part) : Part :=
  { q with acquired := ns, pts := tmax k q.pts fl, joinWait := none, fuseWait := none, splitWait := none, sleep := 0, sleepTick := false, yieldLeft := 0,
           yieldOther := false, allotWait := 0, arrived := false, copyWait := 0 }

/-- A wave as a restore places it. -/
def restoreWave (k : Nat) (fl : Word64) (ns core : Nat) (b : Bound) (w : Wave) : Wave :=
  { w with core := core, slot := b.1, ctx := b.2.1, saved := false, parts := w.parts.map (restorePart k fl ns) }

/-- Restores a saved group on a core, with what its slot of the context area holds then: its header, its tiles and first units of them and of what its
waves had been granted, its scratchpad and its waves (12 R308, R309). Work of its engines stays with the core that it was given to. Its records carry
no charts (12 R310). -/
def Device.restoreAt (d : Device) (gid : Nat) (g0 : Group) (core : Nat) (bs : List Bound) (base : Nat) (runs : List Nat) : Device :=
  let r := d.contextGet core g0.launch g0.index 0 (d.slotSize g0.launch)
  let g := groupFrom r.1 g0
  let tiles := (g.tiles.zip runs).map fun t => (t.1.1, { t.1.2 with first := t.2 })
  let img := tilesFrom r.1 g
  let wave (b : Bound) (w : Wave) : Wave :=
    restoreWave d.pulse d.floor d.clk.ns core b (waveFrom r.1 (d.blockAt w.launch w.index) (liveVs d w) (liveQs d w) w)
  let ws := (regrantWaves (d.wavesOf gid) (runs.drop g.tiles.length)).zip bs
  let d0 := g.recs.foldl (fun d o => d.discard core o.2.ident) r.2
  let d1 := ws.foldl (fun d x => d.setWave x.1.1 (wave x.2 x.1.2)) d0
  let c := d1.core core
  let acc := tiles.foldl (fun m t => (img.filter fun x => decide (x.1 / 2 ^ 20 = t.1)).foldl
    (fun m x => m.set (t.2.first * 4096 + x.1 % 2 ^ 20) x.2) ((Core.zeroUnits { c with acc := m } t.2.first t.2.units).acc)) c.acc
  let d3 := d1.setCore core { c with acc := acc }
  let d4 := d3.setGroup gid
    { g with core := some core, base := base, tiles := tiles, saved := false, images := [], spad := padFrom r.1 g }
  let d5 := d4.note (d.spaceOf g.launch).1 core 0x10 g.index (BitVec.ofNat 64 g.launch)
  if d.fusedLaunch g.launch then d5.setFused (clusterOf core) true else d5

/-- A core for a saved group, with the bindings of its waves, its scratchpad base and its first units, if the core holds it and the group's slot can be
read. -/
def Device.restoreFit (d : Device) (gid : Nat) (g : Group) (l : Launch) (c : Nat) : Option (Nat × (List Bound × Nat) × List Nat) :=
  if d.contextWaits c g.launch g.index 0 (d.slotSize g.launch) then none
  else
    match d.fits g.launch (d.restoreNeeds gid c) (pkLanes l.packet) g.size c,
          d.restoreRuns gid c (groupFrom (d.contextGet c g.launch g.index 0 tileAt).1 g) with
    | some b, some t => some (c, b, t)
    | _, _ => none

/-- GROUP_RESTORE: when it comes first, a saved group is admitted again to the lowest core that holds it. -/
def Device.groupRestore (d : Device) (gid : Nat) : Device :=
  match d.groups.get? gid with
  | none => d
  | some g =>
    match d.launches.get? g.launch with
    | none => d
    | some l =>
      if !g.saved || d.firstCand ≠ some (.saved gid) || !d.restorable gid || d.mgmt.table.isSome then d
      else
        match (d.restoreCores g l).findSome? (d.restoreFit gid g l) with
        | some (c, b, t) => d.restoreAt gid g c b.1 b.2 t
        | none => d

/-! ## Retirement and completion (04 R118; 09 R241; 12 R308, R311) -/

/-- Whether engine work of a group's waves, or stores of theirs, is in flight. -/
def Device.busyGroup (d : Device) (gid : Nat) : Bool :=
  let mine (w : Nat) : Bool := match d.waves.get? w with | some x => decide (x.group = gid) | none => false
  (d.ops.any fun x => decide (x.2.group = gid)) || (d.bmvs.any fun x => mine x.2.wave) || (d.reqs.any fun x => mine x.2.wave) ||
    (d.mdone.any fun x => mine x.2.wave) || (match d.groups.get? gid with | some g => !g.mq.isEmpty | none => false)

/-- A group leaves its core once every wave has retired and its work is done. -/
def Device.leaveGroup (d : Device) (gid : Nat) : Device :=
  match d.groups.get? gid with
  | none => d
  | some g =>
    if g.left || !(d.wavesOf gid).isEmpty || d.busyGroup gid then d
    else
      let d1 := d.setGroup gid { g with left := true, core := none, saved := false, preempt := none, tiles := [], images := [] }
      match g.core with
      | some c => (d1.note (d.spaceOf g.launch).1 c 0x11 (b2n g.failed * 2 ^ 32 + g.index) (BitVec.ofNat 64 g.launch)).unfuse c
      | none => d1

/-- Every group that is done leaves. -/
def Device.leaveGroups (d : Device) : Device := d.groups.foldl (fun d g => d.leaveGroup g.1) d

/-- WAVE_RETIRE: every part has retired and the register returns are in; the profile record is written, once nothing that it reads has to
wait (14 R341). -/
def Device.waveRetire (d : Device) (wid : Nat) : Device :=
  match d.waves.get? wid with
  | none => d
  | some w =>
    if w.retired || !w.live.isEmpty || d.owesRegs wid || !d.drained wid then d
    else
      match d.profile w with
      | none => d
      | some d => ((d.noteLife w 1).setWave wid { w with retired := true, profiled := true, halt := none }).leaveGroup w.group

/-- A time not before any access of a launch: that of its waves' work that is done, and of what the waves carry (09 R241, 11 R287). -/
def Device.launchTime (d : Device) (launch : Nat) : Word64 :=
  (d.waves.filter fun w => decide (w.2.launch = launch)).foldl (fun t w =>
    w.2.btimes.foldl (fun t x => tmax d.pulse t x.2)
      (w.2.parts.foldl (fun t q => tmax d.pulse t q.bmvTime) (tmax d.pulse t (waveTime d w.2))))
    (tmax d.pulse d.floor (((d.launches.get? launch).map (·.time)).getD 0))

/-- Whether every group of a launch that was admitted has left, and none is left to admit. -/
def Device.launchDone (d : Device) (launch : Nat) (l : Launch) : Bool :=
  !l.complete && !l.waiting && l.refused.isNone && d.groups.all fun g => decide (g.2.launch ≠ launch) || g.2.left

/-- LAUNCH_COMPLETE: the status word is written, once that does not have to wait, and what the launch held is freed. -/
def Device.launchComplete (d : Device) (launch : Nat) : Device :=
  match d.launches.get? launch with
  | none => d
  | some l =>
    if !d.launchDone launch l then d
    else
      let failed := l.failed || d.groups.any fun g => decide (g.2.launch = launch) && g.2.failed
      match d.writeStatus launch l (if failed then 2 else 1) 0 (d.launchTime launch) with
      | none => d
      | some d1 =>
        { d1 with
          launches := d1.launches.set launch { l with complete := true, failed := failed }
          waves := d1.waves.filter fun w => decide (w.2.launch ≠ launch)
          groups := d1.groups.filter fun g => decide (g.2.launch ≠ launch)
          taskQ := d1.taskQ.filter fun q => !tqAllotted l.packet q.1 }

/-! ## Meanings -/

/-- GROUP_ADMIT (R244): operand launch. -/
def execGroupAdmit (s : State) : Out := onOne Device.groupAdmit s

/-- ALLOTMENT_GRANT (R245): operands core, list. -/
def execAllotmentGrant (s : State) : Out := onPart Device.grant s

/-- ALLOTMENT_DEADLOCK_PREEMPT (R245): operands core, list. -/
def execAllotmentDeadlockPreempt (s : State) : Out := onPart Device.breakWait s

/-- PREEMPT_REQUEST (R249): operand g. -/
def execPreemptRequest (s : State) : Out := onOne (fun d g => d.preemptRequest g none) s

/-- PREEMPT_SAVE (R249): operand g. -/
def execPreemptSave (s : State) : Out := onOne Device.preemptSave s

/-- PREEMPT_FAIL (R249): operand g. -/
def execPreemptFail (s : State) : Out := onOne Device.preemptFail s

/-- GROUP_RESTORE (R250): operand g. -/
def execGroupRestore (s : State) : Out := onOne Device.groupRestore s

/-- WAVE_RETIRE (R118): operand w. -/
def execWaveRetire (s : State) : Out := onOne Device.waveRetire s

/-- LAUNCH_COMPLETE (R241): operand launch. -/
def execLaunchComplete (s : State) : Out := onOne Device.launchComplete s

end Sys2Proof.Machine
end

