-- ==== Sys2Proof/Machine/Trap.lean ====
section
/-! DEFINITION. Stopping a wave, its trap record, breakpoints, and the debugger's commands (09 R231; 12 R305 to R308, R311; 14 R335 to
R338). -/

namespace Sys2Proof.Machine

/-! ## Killing (12 R308, R311) -/

/-- Kills a wave: it retires with a new generation, its profile record is written, and its group is failed. It waits until every access that the
wave has committed is timed (14 R341), and until nothing that its record needs has to wait. -/
def Device.killWave (d : Device) (wid : Nat) : Device :=
  match d.waves.get? wid with
  | none => d
  | some w =>
    if w.retired || !d.drained wid then d
    else
      let g := d.newGen w.core w.slot w.ctx
      let w' := { w with killed := true, retired := true, profiled := true, saved := false, halt := none, late := [], stepping := none }
      match g.2.profile w' with
      | none => d
      | some d1 => (((d1.noteLife w 2).setWave wid { w' with gen := g.1 }).failGroup w.group).leaveGroup w.group

/-! ## The trap area (12 R307) -/

/-- What a trap area is to the device at one moment. -/
inductive TrapArea where
  /-- A read or a write of it would have to wait. -/
  | waits
  /-- There is none, or it is not usable. -/
  | absent
  /-- It is usable: address of the next record, write count, whether it has room. -/
  | usable (va wr : Word64) (room : Bool)
  deriving DecidableEq, Repr

/-- Why a range cannot be stored to, if it cannot. -/
def Device.storable (d : Device) (core : Nat) (sp : Nat × Nat) (va : Word64) (n : Nat) : Option AccFault :=
  match (Sys2Proof.Machine.reach d core sp .store va n).1 with
  | .error e => some e.2
  | .ok b => d.barred false b.keys

/-- The trap area of a launch, with the device after the loads of its header: usable when that can be read and its next record and its write count
can be written. -/
def Device.trapAreaOf (d : Device) (launch core : Nat) : TrapArea × Device :=
  let a := d.packetWord launch 7
  let sp := d.spaceOf launch
  if a = 0 then (.absent, d)
  else
    match readWords d core sp [a, a + 8, a + 16] with
    | (.ok [h, wr, rd], d) =>
      let n := bits h 31 0
      let va := a + BitVec.ofNat 64 (64 + 160 * (wr.toNat % n))
      (if decide (n = 0) || decide (65536 < n) then .absent
        else
          match d.storable core sp va 160, d.storable core sp (a + 8) 8 with
          | none, none => .usable va wr (decide ((wr - rd).toNat < n))
          | some .wait, _ => .waits
          | _, some .wait => .waits
          | _, _ => .absent, d)
    | (.error .wait, d) => (.waits, d)
    | (_, d) => (.absent, d)

/-- The trap area of a launch. -/
def Device.trapArea (d : Device) (launch core : Nat) : TrapArea := (d.trapAreaOf launch core).1

/-- Whether every part of a wave stands at a marker header. -/
def Device.atMarkers (d : Device) (w : Wave) : Bool := w.live.all fun q => q.stands && (markerAt d (d.spaceOf w.launch) q.pc).isSome

/-- Flags set in some quad of a part. -/
def partFlags (w : Wave) (q : Part) : Nat :=
  ((below 12 fun f => (quadsOf q.quads).any fun k => decide (0 < w.flag k f)).map fun f => 2 ^ f).foldl (· + ·) 0

/-- A part's entry of a trap record (12 R306). -/
def partEntry (d : Device) (wid : Nat) (w : Wave) (h : Halt) (q : Part) : List Word64 :=
  let raised := h.raiser == some (lowQuad q.quads)
  [BitVec.ofNat 64 (partFlags w q * 2 ^ 27 + b2n raised * 2 ^ 26 + d.stateCode wid w q raised * 2 ^ 23 +
      4 * (quadsOf q.quads).length * 2 ^ 16 + q.quads.toNat),
    position d (d.spaceOf w.launch) q.pc]

/-- The 160 bytes of a wave's trap record (12 R305). -/
def trapRecord (d : Device) (wid : Nat) (w : Wave) (h : Halt) : List Byte :=
  let t := h.info
  let sp := d.spaceOf w.launch
  let ps := w.live.take 4
  let pc := (((ps.find? fun q => h.raiser == some (lowQuad q.quads)).orElse fun _ => ps.head?).map (·.pc)).getD 0
  let head : List Word64 :=
    [BitVec.ofNat 64 (t.detail % 2 ^ 16 * 2 ^ 48 + b2n (d.atMarkers w) * 2 ^ 31 + b2n (decide (t.cause ≠ 13)) * 2 ^ 30 +
        ps.length * 2 ^ 27 + (t.slot.getD 0) % 8 * 2 ^ 24 + b2n t.slot.isSome * 2 ^ 23 + t.sub % 256 * 2 ^ 8 + t.cause),
      BitVec.ofNat 64 (w.gen.toNat * 2 ^ 48 + w.launch % 2 ^ 48),
      BitVec.ofNat 64 (w.index * 2 ^ 40 + w.core * 2 ^ 32 + d.groupIndex w),
      objIdent d sp pc, t.lanes, t.addr, t.bits.setWidth 64,
      if t.cause = 12 then BitVec.ofNat 64 (t.granules % 2 ^ 32 * 2 ^ 32 + t.batch) else 0,
      (t.second.map (position d sp)).getD 0, 0, 0, 0]
  let entries := ps.flatMap (partEntry d wid w h)
  wordBytes (head ++ entries ++ List.replicate (8 - entries.length) 0)

/-- The trap interrupt of a launch's host queue (13 R318). A device queue has none (log entry 24). -/
def Device.trapIrq (d : Device) (launch : Nat) : Device :=
  match d.launches.get? launch with
  | some l =>
    if l.queue < 8 then
      match (d.fn l.fn).queues.get? l.queue with
      | some q => d.msix l.fn (bits q.ctl 20 16)
      | none => d
    else d
  | none => d

/-! ## TRAP_STOP and TRAP_RECORD_WRITE -/

/-- Changes the stop of a wave. -/
def Device.setHalt (d : Device) (wid : Nat) (w : Wave) (h : Option Halt) : Device := d.setWave wid { w with halt := h }

/-- Whether a stopped wave has a record that its trap area can take (12 R307). -/
def Device.owesRecord (d : Device) (w : Wave) (h : Halt) : Bool :=
  !h.written &&
    match d.trapArea w.launch w.core with
    | .usable _ _ room => room
    | .waits => true
    | .absent => false

/-- TRAP_STOP: every part of a stopping wave stands at a header; the windows are written back (01 R34). A wave that is to be killed is killed: a
running one now, and one whose record is due once that is written (12 R307, 14 R336; log entry 52). -/
def Device.trapStop (d : Device) (wid : Nat) : Device :=
  match d.waves.get? wid with
  | none => d
  | some w =>
    match w.halt with
    | none => d
    | some h =>
      if w.retired || w.live.isEmpty || !w.live.all (·.stands) then d
      else if h.kill && (if h.stopped then !d.owesRecord w h else decide (h.info.cause = 0)) then d.killWave wid
      else if h.stopped then d
      else
        let f := w.live.foldl (fun w q => let r := flushWindow w q; { r.1 with parts := putPart r.1.parts r.2 }) w
        let pc := ((w.live.find? fun q => h.raiser == some (lowQuad q.quads)).map (·.pc)).getD 0
        let d1 := d.setHalt wid f (some { h with stopped := true })
        if h.info.cause = 0 then d1
        else d1.noteWave w 0x30 (w.context * 2 ^ 34 + h.info.sub * 2 ^ 8 + h.info.cause) (position d (d.spaceOf w.launch) pc)

/-- A stopped wave goes on to report the failure after commit that it has kept longest (12 R304; log entry 54). -/
def Device.nextReport (d : Device) (wid : Nat) (w : Wave) (h : Halt) : Device :=
  match w.late with
  | [] => d
  | x :: l =>
    let pc := ((w.live.find? fun q => x.1 == some (lowQuad q.quads)).map (·.pc)).getD 0
    (d.setWave wid { w with halt := some { h with info := x.2, raiser := x.1, written := false }, late := l }).noteWave w 0x30
      (w.context * 2 ^ 34 + x.2.sub * 2 ^ 8 + x.2.cause) (position d (d.spaceOf w.launch) pc)

/-- TRAP_RECORD_WRITE: with room in the trap area, the record is written, counted and signalled; a trapping wave whose launch has
no usable area is killed, and its group fails. A wave whose record is written begins the next that it has to write. -/
def Device.trapWrite (d : Device) (wid : Nat) : Device :=
  match d.waves.get? wid with
  | none => d
  | some w =>
    match w.halt with
    | none => d
    | some h =>
      if !h.stopped || (h.kill && h.written) || w.retired || !d.drained wid then d
      else if h.written then d.nextReport wid w h
      else
        match d.trapAreaOf w.launch w.core with
        | (.waits, _) => d
        | (.absent, d) => d.setHalt wid w (some (if h.info.cause = 0 then { h with written := true } else { h with kill := true }))
        | (.usable va wr room, d) =>
          if !room then d
          else
            let sp := d.spaceOf w.launch
            let t := waveTime d w
            let d1 := (d.storeVa w.core sp va (trapRecord d wid w h) t).2
            let d2 := (d1.storeVa w.core sp (d.packetWord w.launch 7 + 8) (wordBytes [wr + 1]) t).2
            (d2.setHalt wid w (some { h with written := true })).trapIrq w.launch

/-! ## BREAKPOINT_MATCH and STEP_TIMEOUT -/

/-- BREAKPOINT_MATCH: the lowest breakpoint that matches a part that could start its clause stops its wave instead. -/
def Device.breakpoint (d : Device) (wid quad b : Nat) : Device :=
  match d.meets wid quad with
  | some (w, q, .ready, _) =>
    if breakpointOf d w q ≠ some b || !d.listens w q then d
    else
      let r := flushWindow w q
      (d.setPart wid r.1 r.2).halt wid (some quad) (trapOf 6 0 b 0 0)
  | _ => d

/-- STEP_TIMEOUT: a stepped wave of which no part has committed stops again. -/
def Device.stepTimeout (d : Device) (wid : Nat) : Device :=
  match d.waves.get? wid with
  | some w =>
    if w.stepping = some 0 && w.halt.isNone then (d.setWave wid { w with stepping := none }).halt wid none (trapOf 0 1 0 0 0) else d
  | none => d

/-! ## Debugger commands (14 R335, R336; 12 R308) -/

/-- Launch, group and wave that the debug registers of a function name now; a command acts on those named as it was written (14 R336). -/
def HostFn.target (f : HostFn) : Nat × Nat × Nat :=
  (bits (f.regs.get 0x2008) 47 0, bits (f.regs.get 0x2010) 31 0, bits (f.regs.get 0x2010) 37 32)

/-- Key of the group that a function's command names, when it is one of its own launches'. -/
def Device.dbgGroup (d : Device) (fn : Nat) : Option Nat :=
  let t := (d.fn fn).dbgTarget
  match d.launches.get? t.1, d.groups.get? (groupKeyOf t.1 t.2.1) with
  | some l, some g => if l.fn = fn && !g.left then some (groupKeyOf t.1 t.2.1) else none
  | _, _ => none

/-- Key of the wave that a function's command names, when it has not retired. -/
def Device.dbgWave (d : Device) (fn : Nat) : Option (Nat × Wave) :=
  (d.dbgGroup fn).bind fun g =>
    let k := waveKeyOf g (d.fn fn).dbgTarget.2.2
    (d.waves.get? k).bind fun w => if w.retired then none else some (k, w)

/-- Ends a command with a result. -/
def Device.dbgDone (d : Device) (fn result : Nat) : Device := let f := d.fn fn; d.setFn fn { f with dbgBusy := none, dbgResult := result, dbgSince := 0 }

/-- Notes that a command has begun and waits for its end. -/
def Device.dbgStart (d : Device) (fn cmd : Nat) : Device := let f := d.fn fn; d.setFn fn { f with dbgBusy := some (cmd + 16) }

/-- Runs a command's action while it is pending; `started` says that it has begun. -/
def Device.dbg (d : Device) (fn cmd : Nat) (act : Bool → Device) : Device :=
  match (d.fn fn).dbgBusy with
  | some c => if c = cmd then act false else if c = cmd + 16 then act true else d
  | none => d

/-- Command 1: stops the wave; the result comes with the record. -/
def Device.dbgHaltWave (d : Device) (fn : Nat) : Device :=
  d.dbg fn 1 fun started =>
    match d.dbgWave fn with
    | none => d.dbgDone fn 1
    | some (k, w) =>
      match w.halt with
      | some h => if h.written then d.dbgDone fn (if started then 0 else 4) else d
      | none =>
        if started then d.dbgDone fn 0
        else
          match d.trapAreaOf w.launch w.core with
          | (.waits, _) => d
          | (.absent, d) => d.dbgDone fn 5
          | (.usable _ _ _, d) => (d.halt k none (trapOf 0 0 0 0 0)).dbgStart fn 1

/-- Command 2: stops every wave of the group that is not halted. -/
def Device.dbgHaltGroup (d : Device) (fn : Nat) : Device :=
  d.dbg fn 2 fun started =>
    match d.dbgGroup fn with
    | none => d.dbgDone fn 1
    | some g =>
      let ws := d.wavesOf g
      if started then
        if ws.all fun w => match w.2.halt with | some h => h.written | none => true then d.dbgDone fn 0 else d
      else if ws.all fun w => w.2.halt.isSome then d.dbgDone fn 4
      else if ws.any fun w => decide (d.trapArea w.2.launch w.2.core = .waits) then d
      else if ws.any fun w => decide (d.trapArea w.2.launch w.2.core = .absent) then d.dbgDone fn 5
      else ((ws.filter fun w => w.2.halt.isNone).foldl (fun d w => d.halt w.1 none (trapOf 0 0 0 0 0)) d).dbgStart fn 2

/-- A wave whose record is written, for Resume, Step and Save: none while its stop is not over. One that data was lost for can only be killed (12
R308). -/
def Device.dbgHalted (d : Device) (fn : Nat) (act : Nat → Wave → Halt → Device) : Device :=
  match d.dbgWave fn with
  | none => d.dbgDone fn 1
  | some (k, w) =>
    match w.halt with
    | none => d.dbgDone fn 2
    | some h => if decide (h.info.cause = 13) || !w.late.isEmpty then d.dbgDone fn 2 else if h.written then act k w h else d

/-- Places a saved wave on its group's core again, with what its context image holds then; none while no context is free, a bank product of it is
outstanding or its image cannot be read yet (12 R308, R310). Its lanes have counted as resident all the while (09 R244). -/
def Device.unsave (d : Device) (k : Nat) (w : Wave) : Option Device :=
  if !w.saved then some d
  else if d.bmvs.any fun b => decide (b.2.wave = k) then none
  else
    (d.groups.get? w.group).bind fun g => g.core.bind fun core =>
      if d.contextWaits core w.launch g.index (d.blockAt w.launch w.index) (d.blockSize w.launch) then none
      else
      match bindWaves (d.taken core) [(w.reserved * w.lanes, fun s c => !(d.outstanding core s c (some k)).contains w.gen)],
            placeRuns w.grantRuns (d.unitsHeld core) with
      | some [b], some fs =>
        let x := d.getWave core { w with parts := regrantParts w.parts fs } g
        some (x.2.setWave k (restoreWave d.pulse d.floor d.clk.ns core b x.1))
      | _, _ => none

/-- Resumes a halted wave, and lets it run for a step or for good. -/
def Device.dbgGo (d : Device) (fn k : Nat) (w : Wave) (step : Option Nat) : Device :=
  match d.unsave k w with
  | none => d
  | some d1 =>
    let d2 := resumeWave d1 k
    let d3 : Device := { d2 with waves := d2.waves.upd k fun x => { x with stepping := step } }
    d3.dbgDone fn 0

/-- Command 3. -/
def Device.dbgResume (d : Device) (fn : Nat) : Device := d.dbg fn 3 fun _ => d.dbgHalted fn fun k w _ => d.dbgGo fn k w none

/-- Command 4. -/
def Device.dbgStep (d : Device) (fn : Nat) : Device :=
  d.dbg fn 4 fun _ => d.dbgHalted fn fun k w _ =>
    match d.trapAreaOf w.launch w.core with
    | (.waits, _) => d
    | (.absent, d) => d.dbgDone fn 5
    | (.usable _ _ _, d) => d.dbgGo fn k w (some Config.stepLimit)

/-- A wave is to be killed once it has stopped; one that ran leaves no record. -/
def Device.killSoon (d : Device) (k : Nat) (w : Wave) : Device :=
  match w.halt with
  | some h => d.setHalt k w (some { h with kill := true })
  | none => d.setHalt k w (some { beginHalt d.clk.cycle none (trapOf 0 0 0 0 0) with kill := true })

/-- Command 5. -/
def Device.dbgKillWave (d : Device) (fn : Nat) : Device :=
  d.dbg fn 5 fun started =>
    match d.dbgWave fn with
    | none => d.dbgDone fn (if started then 0 else 1)
    | some (k, w) => if started then d else (d.killSoon k w).dbgStart fn 5

/-- Command 6. -/
def Device.dbgKillGroup (d : Device) (fn : Nat) : Device :=
  d.dbg fn 6 fun started =>
    match d.dbgGroup fn with
    | none => d.dbgDone fn (if started then 0 else 1)
    | some g =>
      if started then if (d.wavesOf g).isEmpty then d.dbgDone fn 0 else d
      else ((d.wavesOf g).foldl (fun d w => d.killSoon w.1 w.2) d).dbgStart fn 6

/-- A Save waits; within the drain limit of a pre-emption it has to end, and otherwise fails as one that cannot be made (09 R249, 12 R310; log entry
52). -/
def Device.dbgDrain (d : Device) (fn : Nat) : Device :=
  let f := d.fn fn
  if f.dbgSince = 0 then d.setFn fn { f with dbgSince := d.clk.cycle + 1 }
  else if f.dbgSince + Config.drainLimit ≤ d.clk.cycle + 1 then d.dbgDone fn 3
  else d

/-- Command 7: a halted wave whose parts all stand at markers is saved, once its returns are in and its group's matrix
queue is empty (12 R310). -/
def Device.dbgSave (d : Device) (fn : Nat) : Device :=
  d.dbg fn 7 fun _ => d.dbgHalted fn fun k w h =>
    match d.groups.get? w.group with
    | none => d
    | some g =>
    let busy := d.owesRegs k || !g.mq.isEmpty || d.follows w.group || d.marksHeld w
    let code (q : Part) : Nat := d.stateCode k w q (h.raiser == some (lowQuad q.quads))
    if !d.atMarkers w || d.packetWord w.launch 9 = 0 then d.dbgDone fn 3
    else if w.saved then d.dbgDone fn 0
    else if busy then d.dbgDrain fn
    else ((d.setWave k (saveWave d w)).putWave code (saveWave d w) g).dbgDone fn 0

/-- Commands 0 and 8 to 15. -/
def Device.dbgInvalid (d : Device) (fn : Nat) : Device :=
  match (d.fn fn).dbgBusy with
  | some c => if decide (c = 0) || (decide (8 ≤ c) && decide (c ≤ 15)) then d.dbgDone fn 1 else d
  | none => d

/-! ## Meanings -/

/-- TRAP_STOP (R231): operand w. -/
def execTrapStop (s : State) : Out := onOne Device.trapStop s

/-- TRAP_RECORD_WRITE (R307): operand w. -/
def execTrapRecordWrite (s : State) : Out := onOne Device.trapWrite s

/-- BREAKPOINT_MATCH (R337): operands w, p, b. -/
def execBreakpointMatch (s : State) : Out :=
  .next { s with dev := s.dev.breakpoint (s.arg.getD 0 0) (s.arg.getD 1 0) (s.arg.getD 2 0) }

/-- STEP_TIMEOUT (R336): operand w. -/
def execStepTimeout (s : State) : Out := onOne Device.stepTimeout s

/-- DBG_HALT_WAVE (R336): operand fn. -/
def execDbgHaltWave (s : State) : Out := onOne Device.dbgHaltWave s

/-- DBG_HALT_GROUP (R336): operand fn. -/
def execDbgHaltGroup (s : State) : Out := onOne Device.dbgHaltGroup s

/-- DBG_RESUME (R308): operand fn. -/
def execDbgResume (s : State) : Out := onOne Device.dbgResume s

/-- DBG_STEP (R336): operand fn. -/
def execDbgStep (s : State) : Out := onOne Device.dbgStep s

/-- DBG_KILL_WAVE (R308): operand fn. -/
def execDbgKillWave (s : State) : Out := onOne Device.dbgKillWave s

/-- DBG_KILL_GROUP (R308): operand fn. -/
def execDbgKillGroup (s : State) : Out := onOne Device.dbgKillGroup s

/-- DBG_SAVE (R308): operand fn. -/
def execDbgSave (s : State) : Out := onOne Device.dbgSave s

/-- DBG_INVALID_COMMAND (R336): operand fn. -/
def execDbgInvalidCommand (s : State) : Out := onOne Device.dbgInvalid s

end Sys2Proof.Machine
end

