-- ==== Sys2Proof/Machine/HostPort.lean ====
section
/-! DEFINITION. The host port: the registers of a function, queues, invalidation, BAR2, MSI-X unmasking, and requests of the span
(13 R314 to R318, R322, R323, R332; 14 R335, R343). -/

namespace Sys2Proof.Machine

/-! ## Fields (00 R5) -/

/-- Bits hi to lo of a value, in place; the others are reserved and read as zero. -/
def keepField (v : Word64) (hi lo : Nat) : Nat := bits v hi lo * 2 ^ lo

/-- The fields of a value that a register holds. -/
def keepFields (v : Word64) (l : List (Nat × Nat)) : Word64 :=
  BitVec.ofNat 64 ((l.map fun f => keepField v f.1 f.2).foldl (· + ·) 0)

/-- Whether the host port answers for anything but FNID, DEVSTATE and SPDM (13 R320). -/
def Device.responds (d : Device) : Bool := decide (d.mgmt.devstate ≠ 3)

/-- Whether a function exists (13 R313). -/
def fnOk (fn : Nat) : Bool := decide (fn ≤ 16)

/-- Changes a function's registers, if the device answers and the function exists. -/
def Device.onFn (d : Device) (fn : Nat) (f : HostFn → HostFn) : Device := if d.responds && fnOk fn then d.setFn fn (f (d.fn fn)) else d

/-- Sets one register of a function. -/
def HostFn.put (f : HostFn) (off : Nat) (v : Word64) : HostFn := { f with regs := f.regs.set off v }

/-- Sets a management register. -/
def Device.putMgmt (d : Device) (off : Nat) (v : Word64) : Device := { d with mgmt := { d.mgmt with regs := d.mgmt.regs.set off v } }

/-- Changes the management registers for a write through the PF; a VF's is ignored (13 R314). -/
def Device.onPf (d : Device) (fn : Nat) (f : Device → Device) : Device := if d.responds && decide (fn = 0) then f d else d

/-! ## Registers without behaviour of their own (13 R314, R332; 14 R335) -/

/-- What a debug register holds after a write, or none where a field lies outside its range and the write is ignored. -/
def debugValue (off : Nat) (v : Word64) : Option Word64 :=
  let block (first step n : Nat) : Bool := decide (first ≤ off) && decide (off < first + step * n)
  if off = 0x2008 then some (keepFields v [(47, 0)])
  else if off = 0x2010 then some (keepFields v [(37, 0)])
  else if block 0x2040 32 8 then
    (match (off - 0x2040) % 32 with
      | 0 => some v
      | 8 => some v
      | 16 => some (keepFields v [(1, 0)])
      | 24 => some (keepFields v [(47, 0)])
      | _ => none)
  else if block 0x2200 32 8 then
    (match (off - 0x2200) % 32 with
      | 0 => some v
      | 8 => some (keepFields v [(47, 0)])
      | 16 => some (keepFields v [(15, 15), (11, 8), (2, 0)])
      | _ => none)
  else
    match off with
    | 0x2400 => if v.toNat % 64 = 0 then some v else none
    | 0x2408 =>
      if decide (10 ≤ bits v 20 16) && decide (bits v 20 16 ≤ 24) && decide (4 ≤ bits v 4 0) && decide (bits v 4 0 ≤ 20) then
        some (keepFields v [(31, 31), (20, 16), (4, 0)]) else none
    | 0x2418 => some v
    | 0x2440 => if v.toNat % 4096 = 0 then some v else none
    | 0x2448 =>
      if decide (12 ≤ bits v 4 0) && decide (bits v 4 0 ≤ 30) then some (keepFields v [(31, 30), (11, 8), (4, 0)]) else none
    | 0x2480 => some (keepFields v [(31, 0)])
    | _ => none

/-- What a register of a function holds after a write, or none where it takes none. -/
def fnValue (off : Nat) (v : Word64) : Option Word64 :=
  match off with
  | 0x0018 => some (keepFields v [(31, 0)])
  | 0x0020 => some (keepFields v [(3, 0)])
  | 0x0800 => some v
  | 0x0808 => some v
  | _ => debugValue off v

/-- A write of TRCCTL opens or closes the function's streams when it changes the enable (14 R344, R346). -/
def Device.traceSwitch (d : Device) (fn : Nat) (was : Bool) : Device :=
  let now := bit (d.fn fn).trcctl 31
  if now && !was then d.openStreams fn else if was && !now then d.closeStreams fn else d

/-- A write to a register of a function's own window. -/
def Device.fnWrite (d : Device) (fn off : Nat) (v : Word64) : Device :=
  if decide (0x0100 ≤ off) && decide (off < 0x0200) && decide (off % 16 = 0) then
    d.onFn fn fun f => { f with asroot := f.asroot.set ((off - 0x0100) / 16) (keepFields v [(51, 12), (0, 0)]) }
  else if decide (0x1000 ≤ off) && decide (off < 0x1800) && decide (off % 256 = 0) then
    d.onFn fn fun f =>
      let q := f.queues.getD ((off - 0x1000) / 256) HostQueue.reset
      { f with queues := f.queues.set ((off - 0x1000) / 256) { q with base := keepFields v [(63, 12)] } }
  else if off = 0x2000 then
    d.onFn fn fun f => if f.dbgBusy.isSome then f else { f with dbgBusy := some (bits v 3 0), dbgTarget := f.target }
  else
    match fnValue off v with
    | none => d
    | some x =>
      let was := bit (d.fn fn).trcctl 31
      let d := d.onFn fn fun f => f.put off x
      if off = 0x2448 then d.traceSwitch fn was else d

/-- A write to a management register without behaviour of its own. A TEMPLIM outside 85 to 105 is ignored (log entry 26). -/
def Device.mgmtWrite (d : Device) (off : Nat) (v : Word64) : Device :=
  if decide (0x8200 ≤ off) && decide (off < 0x8600) && decide (off % 8 = 0) then
    let d := d.noteSent
    { d with mgmt := { d.mgmt with route := d.mgmt.route.set ((off - 0x8200) / 8) (BitVec.ofNat 18 (bits v 17 0)) } }
  else
    match off with
    | 0x8018 => if decide (85 ≤ bits v 31 16) && decide (bits v 31 16 ≤ 105) then
        d.putMgmt off (putBits (d.mgmt.regs.get off) 31 16 (bits v 31 16)) else d
    | 0x8040 => d.putMgmt off v
    | 0x8048 => d.putMgmt off (BitVec.ofNat 64 (keepField (d.mgmt.regs.get off) 63 32 + keepField v 31 8 + keepField v 4 0))
    | 0x8108 => d.putMgmt off v
    | 0x8110 => d.putMgmt off v
    | _ => d

/-- REGISTER_WRITE. -/
def Device.regWrite (d : Device) (fn off : Nat) (v : Word64) : Device :=
  if off < 0x8000 then (if d.responds && fnOk fn then d.fnWrite fn off v else d) else d.onPf fn fun d => d.mgmtWrite off v

/-- PULSECFG_WRITE: taken at the next tick (11 R280, 13 R332). -/
def Device.pulsecfgWrite (d : Device) (fn : Nat) (v : Word64) : Device :=
  let code := if 4 < bits v 2 0 then bits d.clk.pulsecfg 2 0 else bits v 2 0
  d.onPf fn fun d => { d with clk := { d.clk with pulsecfg := putBits (keepFields v [(10, 8)]) 2 0 code } }

/-- PWRCAP_WRITE: clamped to 1,200 to 2,800 W (13 R330). -/
def Device.pwrcapWrite (d : Device) (fn : Nat) (v : Word64) : Device :=
  d.onPf fn fun d => d.putMgmt 0x8008 (BitVec.ofNat 64 (min 2800 (max 1200 (bits v 11 0))))

/-- Whether the pulse of the span reaches the device: its last tick lies less than 8 periods back (13 R325). -/
def Device.hearsPulse (d : Device) : Bool := decide (d.clk.ns < d.clk.lastSpanTick + 8 * periodNs d.clk.period)

/-- SPANCTL_WRITE: a device that joins counts 8 periods from now on; one that leaves completes its own ticks (11 R280). A device that has left for
want of the pulse becomes a member again only while the pulse reaches it (13 R325). -/
def Device.spanctlWrite (d : Device) (fn : Nat) (v : Word64) : Device :=
  d.onPf fn fun d =>
    let x := keepFields v [(8, 0)]
    let deaf := d.clk.leftSpan && !bit v 8 && !d.hearsPulse
    let d1 := d.putMgmt 0x8100 (if deaf then putBits x 7 7 0 else x)
    if d1.member then
      { d1 with clk := { d1.clk with lastSpanTick := if d.drivenOutside then d1.clk.lastSpanTick else d1.clk.ns, leftSpan := false } }
    else if d.drivenOutside then
      { d1 with clk := { d1.clk with complete := d1.clk.pulse, nextTick := d1.clk.ns + periodNs d1.clk.period } }
    else { d1 with clk := { d1.clk with complete := d1.clk.pulse } }

/-! ## Unit counters (14 R343) -/

/-- Lines of a slice held in a form. -/
def Device.formCount (d : Device) (s form : Nat) : Nat := ((d.held s).filter fun l => decide (l.form = form)).length

/-- The counter that a selector names. -/
def Device.unitCounter (d : Device) (sel : Word64) : Word64 :=
  let u := bits sel 23 8
  match bits sel 31 24, bits sel 7 0 with
  | 1, k =>
    if decide (192 ≤ u) || decide (7 ≤ k) then 0
    else if k < 3 then BitVec.ofNat 64 (d.formCount u (2 - k))
    else d.l2cnt.get (u * 8 + k)
  | 2, 0 => if u < 192 then (d.core u).stale else 0
  | 2, 1 => if u < 192 then (d.core u).splits else 0
  | 2, 2 => if u < 192 then (d.core u).fuses else 0
  | 3, 0 => if u < 18 then d.mgmt.replays.get u else 0
  | 3, 1 => if u < 18 then d.mgmt.transient.get u else 0
  | _, _ => 0

/-- Clears the counter that a selector names, but for what it has counted in the present cycle; occupancy counters ignore it. -/
def Device.clearCounter (d : Device) (sel : Word64) : Device :=
  let u := bits sel 23 8
  match bits sel 31 24, bits sel 7 0 with
  | 1, k => if decide (192 ≤ u) || decide (7 ≤ k) || decide (k < 3) then d else { d with l2cnt := d.l2cnt.set (u * 8 + k) (d.tallyOf 1 u k) }
  | 2, 0 => if u < 192 then d.setCore u { d.core u with stale := d.staleOf u } else d
  | 2, 1 => if u < 192 then d.setCore u { d.core u with splits := (d.tallyOf 2 u 1) } else d
  | 2, 2 => if u < 192 then d.setCore u { d.core u with fuses := (d.tallyOf 2 u 2) } else d
  | 3, 0 => if u < 18 then { d with mgmt := { d.mgmt with replays := d.mgmt.replays.set u (d.tallyOf 3 u 0) } } else d
  | 3, 1 => if u < 18 then { d with mgmt := { d.mgmt with transient := d.mgmt.transient.set u (d.tallyOf 3 u 1) } } else d
  | _, _ => d

/-- CNTDATA_WRITE: a write of 0 clears the selected counter. -/
def Device.cntdataWrite (d : Device) (fn : Nat) (v : Word64) : Device :=
  if d.responds && fnOk fn && decide (v = 0) then d.clearCounter ((d.fn fn).regs.get 0x2480) else d

/-! ## Queues (13 R316) -/

/-- A doorbell takes effect: the index is written, and on an enabled queue that runs it is checked, and then the address space. -/
def HostQueue.rung (f : HostFn) (q : HostQueue) (x : Word32) : HostQueue :=
  let q := { q with write := x }
  if !bit q.ctl 31 || bit q.stat 0 then q
  else if 2 ^ bits q.ctl 4 0 < (q.write - q.read).toNat then q.stop 1
  else if !bit (f.asroot.get (bits q.ctl 11 8)) 0 then q.stop 3
  else q

/-- QDOORBELL_WRITE: before DEVSTATE 2 the index is held. -/
def Device.doorbell (d : Device) (fn q : Nat) (v : Word64) : Device :=
  if 8 ≤ q then d
  else d.onFn fn fun f =>
    let x := f.queues.getD q HostQueue.reset
    let i := BitVec.ofNat 32 (bits v 31 0)
    { f with queues := f.queues.set q (if d.mgmt.devstate = 2 then x.rung f i else { x with held := x.held ++ [i] }) }

/-- Fields of QCTL. -/
def qctlFields : List (Nat × Nat) := [(31, 30), (28, 24), (20, 16), (11, 8), (4, 0)]

/-- A queue after a write to QCTL. -/
def HostQueue.control (q : HostQueue) (v : Word64) : HostQueue :=
  if bit q.ctl 31 then
    { q with ctl := BitVec.ofNat 64 ((keepFields v [(31, 30), (28, 24), (20, 16)]).toNat + (keepFields q.ctl [(11, 8), (4, 0)]).toNat) }
  else if bit v 31 then { q with ctl := keepFields v qctlFields, read := 0, write := 0, stat := 0 }
  else { q with ctl := keepFields v qctlFields }

/-- QCTL_WRITE. -/
def Device.qctlWrite (d : Device) (fn q : Nat) (v : Word64) : Device :=
  if 8 ≤ q then d
  else d.onFn fn fun f => { f with queues := f.queues.set q ((f.queues.getD q HostQueue.reset).control v) }

/-- Every doorbell that was held takes effect, in the order of the writes (13 R320). -/
def Device.ringHeld (d : Device) : Device :=
  { d with fns := d.fns.map fun f => (f.1, { f.2 with queues := f.2.queues.map fun q =>
      (q.1, q.2.held.foldl (HostQueue.rung f.2) { q.2 with held := [] }) }) }

/-! ## Invalidation (12 R300, 13 R317) -/

/-- INVCMD_WRITE: a write while busy is ignored. -/
def Device.invStart (d : Device) (fn : Nat) (v : Word64) : Device :=
  d.onFn fn fun f => if f.inv.isSome then f else { f with inv := some (bits v 3 0) }

/-- Whether [lo, hi) meets the range of a command; a length of 0 is the whole space. -/
def inInvRange (va len : Word64) (lo hi : Nat) : Bool :=
  decide (len = 0) || (decide (lo < va.toNat + len.toNat) && decide (va.toNat < hi))

/-- Whether a walk cache entry covers addresses of a range. -/
def WalkEntry.meets (w : WalkEntry) (va len : Word64) : Bool :=
  let size := 2 ^ (12 + 9 * w.level)
  let a := BitVec.ofNat 64 (va.toNat % 2 ^ 57)
  inInvRange a len (w.tag * size) ((w.tag + 1) * size)

/-- Whether the result of a walk is for an address of a range. -/
def Walked.meets (x : Walked) (va len : Word64) : Bool :=
  match x.res with
  | .leaf l => inInvRange va len l.vbase (l.vbase + l.size)
  | .fault _ _ => inInvRange va len (x.va.toNat / 4096 * 4096) (x.va.toNat / 4096 * 4096 + 4096)

/-- Removes every entry of a space that covers a range from every TLB and walk cache, and the results of walks that parts have yet to use. -/
def Device.invalidate (d : Device) (sp : Nat × Nat) (va len : Word64) : Device :=
  let leaf (l : Leaf) : Bool := l.space != sp || !inInvRange va len l.vbase (l.vbase + l.size)
  let tab (w : WalkEntry) : Bool := w.space != sp || !w.meets va len
  { d with
    cores := d.cores.map fun c => (c.1, { c.2 with tlb := c.2.tlb.filter leaf })
    tlb2 := d.tlb2.map fun t => (t.1, t.2.filter leaf)
    walks := d.walks.map fun w => (w.1, w.2.filter tab)
    waves := d.waves.map fun w =>
      if d.spaceOf w.2.launch = sp then
        (w.1, { w.2 with parts := w.2.parts.map fun q => { q with walked := q.walked.filter fun x => !x.meets va len } })
      else w }

/-- INVALIDATION_COMPLETE. -/
def Device.invDone (d : Device) (fn : Nat) : Device :=
  let f := d.fn fn
  match f.inv with
  | none => d
  | some as => (d.invalidate (fn, as) (f.regs.get 0x0800) (f.regs.get 0x0808)).setFn fn { f with inv := none }

/-! ## BAR2 (13 R314, R315) -/

/-- APFAULT_WRITE: a write of 0 clears it, another value is ignored. -/
def Device.apfaultWrite (d : Device) (fn : Nat) (v : Word64) : Device :=
  if v = 0 then d.onFn fn fun f => f.put 0x0028 0 else d

/-- Virtual address of an offset of a function's aperture. -/
def HostFn.apVa (f : HostFn) (off : Nat) : Word64 :=
  BitVec.ofInt 64 (sextNat 57 (bits (f.regs.get 0x0018) 31 0 * 2 ^ 25 + off))

/-- The bytes of an access through BAR2, or why it fails. -/
def Device.barTargets (d : Device) (fn : Nat) (a : Acc) (va : Word64) (n : Nat) : Except AccFault Bytes × Device :=
  match Sys2Proof.Machine.reach d 0 (fn, bits ((d.fn fn).regs.get 0x0020) 3 0) a va n with
  | (.error e, d) => (.error e.2, d)
  | (.ok b, d) =>
    match d.barred (a == .barRead) b.keys with
    | some e => (.error e, d)
    | none => (.ok b, d)

/-- Cause and subcode of an access that fails translation, permission or a kind check (12 R301). -/
def AccFault.code (e : AccFault) : Option Nat :=
  match e with
  | .tr sub _ => some (sub * 256 + 3)
  | .pm sub => some (sub * 256 + 4)
  | .gone _ => none
  | .wait => none

/-- Records the first fault of a function's aperture. One that cannot be served for another reason leaves no record (13 R315). -/
def Device.apFault (d : Device) (fn : Nat) (e : AccFault) (va : Word64) : Device :=
  let f := d.fn fn
  match e.code with
  | none => d
  | some c => if bit (f.regs.get 0x0028) 63 then d else d.setFn fn ((f.put 0x0028 (BitVec.ofNat 64 (2 ^ 63 + c))).put 0x0030 va)

/-- Whether an access through BAR2 has to wait. -/
def Device.barWaits (d : Device) (fn : Nat) (a : Acc) (off n : Nat) : Bool :=
  d.responds && fnOk fn && (match (d.barTargets fn a ((d.fn fn).apVa off) n).1 with | .error .wait => true | _ => false)

/-- BAR2_READ: waits at a held line and for a walk; a failed access completes with Unsupported Request. -/
def Device.bar2Read (d : Device) (fn off n : Nat) : Device :=
  if !d.responds || !fnOk fn then { d with out := .bar2Refused :: d.out }
  else
    let va := (d.fn fn).apVa off
    match d.barTargets fn .barRead va n with
    | (.error .wait, _) => d
    | (.error e, d) => let d := d.apFault fn e va; { d with out := .bar2Refused :: d.out }
    | (.ok b, d) => let r := (d.readLines 0 d.floor b.leaves).2; { r with out := .bar2 (d.bytes b.keys) :: r.out }

/-- BAR2_WRITE: waits for a walk; a failed access is dropped. -/
def Device.bar2Write (d : Device) (fn off n : Nat) (v : Word64) : Device :=
  if !d.responds || !fnOk fn then d
  else
    let va := (d.fn fn).apVa off
    match d.barTargets fn .barWrite va n with
    | (.error .wait, _) => d
    | (.error e, d) => d.apFault fn e va
    | (.ok x, d) =>
      x.lines.foldl (fun d l =>
        let kb := (x.keys.zip (leBytes n v.toNat)).filter fun y => decide (y.1 / 128 = l.1)
        d.storeLine none d.floor l.1 l.2 (kb.map (·.1)) (kb.map (·.2))) d

/-! ## The span (13 R322, R323) -/

/-- Whether a source of the span is admitted. -/
def Device.admits (d : Device) (src : Nat) : Bool :=
  if src < 64 then bit (d.mgmt.regs.get 0x8108) src else bit (d.mgmt.regs.get 0x8110) (src - 64)

/-- What a request of the span does to the bytes it names. -/
inductive SpanOp where
  /-- Reads them. -/
  | load
  /-- Writes them. -/
  | store (v : Nat)
  /-- Replaces them by the word that an atomic gives, and answers with the old one: operation, operand, swap (06 R164). -/
  | atomic (op b c : Nat)
  deriving DecidableEq, Repr

/-- The request of a code: 0 a load, 1 a store, 2 and more an atomic. -/
def spanOp (code : Nat) (v c : Word64) : SpanOp :=
  match code with
  | 0 => .load
  | 1 => .store v.toNat
  | n + 2 => .atomic n v.toNat c.toNat

/-- Bytes that a request of the span writes. -/
def SpanOp.written (op : SpanOp) (old : List Byte) : List Byte :=
  match op with
  | .load => old
  | .store v => leBytes old.length v
  | .atomic f b c => leBytes old.length (atomNew f (8 * old.length) (leNat old) (b % 2 ^ (8 * old.length)) (c % 2 ^ (8 * old.length)))

/-- Whether a request of the span stores; then it waits for nothing. -/
def SpanOp.stores (op : SpanOp) : Bool :=
  match op with
  | .store _ => true
  | _ => false

/-- Whether a request of the span is answered as refused. -/
def Device.spanRefuses (d : Device) (src off n : Nat) : Bool := decide (128 ≤ src) || !d.admits src || decide (d.capacity < off + n)

/-- Whether a request of the span has to wait. -/
def Device.spanWaits (d : Device) (src : Nat) (op : SpanOp) (off n : Nat) : Bool :=
  d.responds && !d.spanRefuses src off n && decide (d.barred (!op.stores) ((List.range n).map (off + ·)) = some .wait)

/-- SPAN_REQUEST: a source that is not admitted, or an address beyond the capacity, is refused; a load or an atomic of a held line waits. A device
that has failed to boot answers nothing (13 R320, R323). -/
def Device.spanRequest (d : Device) (src : Nat) (op : SpanOp) (off n : Nat) : Device :=
  let keys := (List.range n).map (off + ·)
  let old := d.bytes keys
  if !d.responds then d
  else if d.spanRefuses src off n then { d with out := .spanRefused :: d.out }
  else
    match d.barred (!op.stores) keys with
    | some .wait => d
    | some _ => { d with out := .spanRefused :: d.out }
    | none =>
      let kb := keys.zip (op.written old)
      let line (d : Device) (l : Nat) : Device :=
        let x := kb.filter fun y => decide (y.1 / 128 = l)
        if op = .load then (d.loadAt l (1, true) d.floor).2.2 else (d.storeAt l (1, true) d.floor (x.map (·.1)) (x.map (·.2))).2
      let d := (linesOf keys).foldl line d
      { d with out := .spanReply (if op.stores then [] else old) :: d.out }

/-! ## MSI-X (13 R318) -/

/-- The host masks a vector: a message for it stays pending from now on. A device that has failed to boot does not respond (13 R320). -/
def Device.mask (d : Device) (fn v : Nat) : Device :=
  if !d.responds || !fnOk fn || decide (32 ≤ v) then d
  else let f := d.fn fn; d.setFn fn { f with masked := f.masked ||| BitVec.ofNat 32 (2 ^ v) }

/-- MSIX_VECTOR_UNMASK: a pending message is sent. A device that has failed to boot does not respond (13 R320). -/
def Device.unmask (d : Device) (fn v : Nat) : Device :=
  if !d.responds || !fnOk fn || decide (32 ≤ v) then d
  else
    let f := d.fn fn
    let m : Word32 := BitVec.ofNat 32 (2 ^ v)
    let d1 := d.setFn fn { f with masked := f.masked &&& ~~~ m, pendingMsix := f.pendingMsix &&& ~~~ m }
    if bit f.pendingMsix v then { d1 with out := .msix fn v :: d1.out } else d1

/-! ## Reads of BAR0 (13 R314, R332; 14 R335) -/

/-- Cores enabled and not retired (13 R314, R327). -/
def Device.coreCount (d : Device) : Nat :=
  (below (min 256 d.mgmt.cores) fun c => !((d.core c).retired && (d.groups.all fun g => decide (g.2.core ≠ some c)))).length

/-- CONFIG. -/
def Device.config (d : Device) : Word64 :=
  BitVec.ofNat 64 (b2n d.member * 2 ^ 39 + d.spanIndex * 2 ^ 32 + d.mgmt.gib % 2 ^ 16 * 2 ^ 16 + d.coreCount % 256)

/-- A queue's registers. -/
def HostQueue.reg (q : HostQueue) (r : Nat) : Word64 :=
  match r with
  | 0x00 => q.base
  | 0x08 => q.ctl
  | 0x10 => q.read.setWidth 64
  | 0x18 => q.write.setWidth 64
  | 0x20 => q.stat
  | _ => 0

/-- A management register. -/
def Device.mgmtRead (d : Device) (off : Nat) : Word64 :=
  let m := d.mgmt
  if decide (0x8200 ≤ off) && decide (off < 0x8600) then (if off % 8 = 0 then (m.route.get ((off - 0x8200) / 8)).setWidth 64 else 0)
  else if decide (0x8600 ≤ off) && decide (off < 0x8600 + 8 * 18) then
    let p := (off - 0x8600) / 8
    if off % 8 = 0 then
      BitVec.ofNat 64 ((m.replays.get p).toNat % 2 ^ 16 * 2 ^ 32 + (m.transient.get p).toNat % 2 ^ 16 * 2 ^ 16 +
        b2n (bit m.portDown p) * 2 + b2n (bit m.portUp p)) else 0
  else if decide (0x8700 ≤ off) && decide (off < 0x8700 + 8 * 46) then
    (if off % 8 = 0 then m.wear.getD ((off - 0x8700) / 8) 65535#64 else 0)
  else
    match off with
    | 0x8000 => d.clk.pulsecfg
    | 0x8020 => BitVec.ofNat 64 (clockWord d.clk d.clk.mhz)
    | _ => m.regs.get off

/-- A register of a function. -/
def Device.fnRead (d : Device) (fn off : Nat) : Word64 :=
  let f := d.fn fn
  if decide (0x0100 ≤ off) && decide (off < 0x0200) then (if off % 16 = 0 then f.asroot.get ((off - 0x0100) / 16) else 0)
  else if decide (0x1000 ≤ off) && decide (off < 0x1800) then
    (f.queues.getD ((off - 0x1000) / 256) HostQueue.reset).reg ((off - 0x1000) % 256)
  else
    match off with
    | 0x0010 => d.config
    | 0x0810 => BitVec.ofNat 64 (b2n f.inv.isSome * 2 ^ 63)
    | 0x2000 => BitVec.ofNat 64 (b2n f.dbgBusy.isSome * 2 ^ 63 + f.dbgResult % 16 * 2 ^ 4)
    | 0x2488 => d.unitCounter (f.regs.get 0x2480)
    | _ => f.regs.get off

/-- What a read of BAR0 returns; none where the device does not respond (13 R320). -/
def Device.bar0 (d : Device) (fn off : Nat) : Option Word64 :=
  if !fnOk fn then none
  else if off = 0 then some (BitVec.ofNat 64 (d.mgmt.patch % 256 * 2 ^ 24 + d.mgmt.minor % 256 * 2 ^ 16 + 3 * 2 ^ 8 + fn))
  else if off = 8 then some (BitVec.ofNat 64 (d.mgmt.bootCause % 256 * 2 ^ 8 + d.mgmt.devstate))
  else if !d.responds then none
  else if off < 0x8000 then some (d.fnRead fn off)
  else some (if fn = 0 then d.mgmtRead off else 0)

/-- A read of BAR0. -/
def Device.bar0Read (d : Device) (fn off : Nat) : Device := { d with out := .bar0 (d.bar0 fn off) :: d.out }

/-! ## Meanings -/

/-- Operand `i` of a step as a 64-bit word. -/
def State.word (s : State) (i : Nat) : Word64 := BitVec.ofNat 64 (s.arg.getD i 0)

/-- A step that names a function and a value. -/
def onFnVal (f : Device → Nat → Word64 → Device) (s : State) : Out := .next { s with dev := f s.dev (s.arg.getD 0 0) (s.word 1) }

/-- QCTL_WRITE (R316): operands fn, q, value. -/
def execQctlWrite (s : State) : Out := .next { s with dev := s.dev.qctlWrite (s.arg.getD 0 0) (s.arg.getD 1 0) (s.word 2) }

/-- QDOORBELL_WRITE (R316): operands fn, q, value. -/
def execQdoorbellWrite (s : State) : Out := .next { s with dev := s.dev.doorbell (s.arg.getD 0 0) (s.arg.getD 1 0) (s.word 2) }

/-- INVCMD_WRITE (R317): operands fn, value. -/
def execInvcmdWrite (s : State) : Out := onFnVal Device.invStart s

/-- INVALIDATION_COMPLETE (R317): operand fn. -/
def execInvalidationComplete (s : State) : Out := onOne Device.invDone s

/-- APFAULT_WRITE (R314): operands fn, value. -/
def execApfaultWrite (s : State) : Out := onFnVal Device.apfaultWrite s

/-- BAR2_READ (R315): operands fn, offset, bytes. -/
def execBar2Read (s : State) : Out := .next { s with dev := s.dev.bar2Read (s.arg.getD 0 0) (s.arg.getD 1 0) (s.arg.getD 2 0) }

/-- BAR2_WRITE (R315): operands fn, offset, bytes, value. -/
def execBar2Write (s : State) : Out :=
  .next { s with dev := s.dev.bar2Write (s.arg.getD 0 0) (s.arg.getD 1 0) (s.arg.getD 2 0) (s.word 3) }

/-- PULSECFG_WRITE (R332): operands fn, value. -/
def execPulsecfgWrite (s : State) : Out := onFnVal Device.pulsecfgWrite s

/-- PWRCAP_WRITE (R330): operands fn, value. -/
def execPwrcapWrite (s : State) : Out := onFnVal Device.pwrcapWrite s

/-- SPANCTL_WRITE (R325): operands fn, value. -/
def execSpanctlWrite (s : State) : Out := onFnVal Device.spanctlWrite s

/-- CNTDATA_WRITE (R343): operands fn, value. -/
def execCntdataWrite (s : State) : Out := onFnVal Device.cntdataWrite s

/-- REGISTER_WRITE (R314): operands fn, offset, value. -/
def execRegisterWrite (s : State) : Out := .next { s with dev := s.dev.regWrite (s.arg.getD 0 0) (s.arg.getD 1 0) (s.word 2) }

/-- SPAN_REQUEST (R323): operands source, code of the request, offset, bytes, value, swap. -/
def execSpanRequest (s : State) : Out :=
  .next { s with dev := s.dev.spanRequest (s.arg.getD 0 0) (spanOp (s.arg.getD 1 0) (s.word 4) (s.word 5)) (s.arg.getD 2 0) (s.arg.getD 3 0) }

/-- MSIX_VECTOR_UNMASK (R318): operands fn, vector. -/
def execMsixVectorUnmask (s : State) : Out := onPart Device.unmask s

end Sys2Proof.Machine
end

