-- ==== Sys2Proof/Machine/Manage.lean ====
section
/-! DEFINITION. Resets, boot, decode tables, power, errors and retirement, wear, link failures, clocks of cores, and SPDM
(03 R92, R93; 13 R320, R322, R324, R326 to R330, R333, R334; 14 R346). -/

namespace Sys2Proof.Machine

/-! ## Reset and boot (13 R320) -/

/-- A core after a fundamental reset: only its retirement is kept. -/
def Core.cleared (c : Core) : Core := { Core.reset with retired := c.retired }

/-- Management state after a fundamental reset: what fuses hold, what is retired, what the wear indicators show, and the version of the decode
table in force, which never falls (13 R327, R333). -/
def Mgmt.cleared (m : Mgmt) : Mgmt :=
  { Mgmt.reset with wear := m.wear, rows := m.rows, fuseVersion := m.fuseVersion, fuseKey := m.fuseKey, minor := m.minor, patch := m.patch }

/-- FUNDAMENTAL_RESET: everything is as at reset but for memory outside the device, parts that are retired, and what management keeps; bytes of
device memory read as at reset (log entry 3). -/
def Device.fundamental (d : Device) : Device :=
  { Device.reset with
    mem := d.mem.keep fun k => decide (sysBase ≤ k)
    l2dead := d.l2dead
    cores := (d.cores.filter fun c => c.2.retired).map fun c => (c.1, c.2.cleared)
    banks := (d.banks.filter fun b => b.2.retired).map fun b => (b.1, ⟨true, 0⟩)
    mgmt := d.mgmt.cleared
    out := d.out
    draws := d.draws }

/-- A firmware stage or a decode table as the one before it finds it (13 R333). -/
structure Stage where
  /-- SHA-384 digest. -/
  digest : Nat
  /-- The ECDSA signature holds. -/
  signed : Bool
  /-- Security version. -/
  version : Nat
  /-- Hash of the key that signed it. -/
  key : Nat
  deriving DecidableEq, Repr

/-- Whether a stage is verified: signed, by the key whose hash is fused, at no lower a security version than the fused minimum. -/
def Mgmt.verifies (m : Mgmt) (x : Stage) : Bool := x.signed && decide (x.key = m.fuseKey) && decide (m.fuseVersion ≤ x.version)

/-- The stages that operands give, four operands each: digest, signature holds, security version, key hash. -/
def stagesOf : List Nat → List Stage
  | a :: b :: c :: e :: l => ⟨a, decide (b ≠ 0), c, e⟩ :: stagesOf l
  | _ => []

/-- Each stage that is verified extends its digest into a measurement register, up to the first that is not; and whether all are. -/
def Mgmt.measure (m : Mgmt) : List Stage → Mgmt × Bool
  | [] => (m, true)
  | x :: l => if m.verifies x then ({ m with measures := m.measures ++ [x.digest] } : Mgmt).measure l else (m, false)

/-- BOOT_COMPLETE: the stages have been verified one by one and measured, and the device is ready with the cores, capacity and ports found; or it
has failed, with cause 1 where a stage is refused, or another cause of 1 to 4 (13 R320, R333). -/
def Device.boot (d : Device) (cause cores gib ports : Nat) (stages : List Stage) : Device :=
  let r := d.mgmt.measure stages
  if decide (d.mgmt.devstate ≠ 1) || decide (4 < cause) then d
  else if !r.2 then { d with mgmt := { r.1 with devstate := 3, bootCause := 1 } }
  else if cause = 0 then
    let m := { r.1 with devstate := 2, bootCause := 0, cores := min 192 cores, gib := gib % 2 ^ 16, portUp := BitVec.ofNat 18 ports }
    ({ d with mgmt := m } : Device).ringHeld
  else { d with mgmt := { r.1 with devstate := 3, bootCause := cause } }

/-- FUNCTION_LEVEL_RESET of a VF: its launches are killed, its queues and address spaces freed. -/
def Device.flr (d : Device) (fn : Nat) : Device :=
  if decide (fn = 0) || decide (16 < fn) then d
  else
    let d1 := (d.waves.filter fun w => decide ((d.spaceOf w.2.launch).1 = fn) && (d.launches.get? w.2.launch).isSome && !w.2.retired).foldl
      (fun d w => d.killSoon w.1 w.2) d
    { d1 with
      launches := d1.launches.map fun l => (l.1, if l.2.fn = fn then { l.2 with failed := true } else l.2)
      devQ := d1.devQ.map fun q => (q.1, q.2.filter fun c => decide (c.space.1 ≠ fn))
      fns := d1.fns.del fn
      cores := d1.cores.map fun c => (c.1, { c.2 with tlb := c.2.tlb.filter fun l => decide (l.space.1 ≠ fn) })
      tlb2 := d1.tlb2.map fun t => (t.1, t.2.filter fun l => decide (l.space.1 ≠ fn))
      walks := d1.walks.map fun w => (w.1, w.2.filter fun e => decide (e.space.1 ≠ fn)) }

/-! ## Decode tables (03 R92, R93; 13 R333; 15 R347) -/

/-- Whether a wave is resident on some core. -/
def Device.anyResident (d : Device) : Bool := d.waves.any fun w => !w.2.retired && !w.2.saved

/-- A table that waits takes effect once no wave is resident. -/
def Device.tableSettle (d : Device) : Device :=
  match d.mgmt.table with
  | some (minor, patch, digest) =>
    if d.anyResident then d
    else { d with mgmt := { d.mgmt with table := none, minor := minor, patch := patch, measures := d.mgmt.measures.dropLast ++ [digest] } }
  | none => d

/-- DECODE_TABLE_UPDATE: a table that is not verified, not of major 3, or of a lower minor is refused; otherwise admission stops and
the table takes effect once no wave is resident. What the table defines the manual does not say: the reserved encodings stay illegal in the model
(03 R90; log entry 85). -/
def Device.tableUpdate (d : Device) (major minor patch : Nat) (x : Stage) : Device :=
  if !d.mgmt.verifies x || decide (major ≠ 3) || decide (minor < d.mgmt.minor) || decide (d.mgmt.devstate ≠ 2) then d
  else ({ d with mgmt := { d.mgmt with table := some (minor, patch, x.digest) } } : Device).tableSettle

/-! ## Power and temperature (13 R330, R331) -/

/-- One step of throttling. -/
def Clocks.slower (c : Clocks) : Clocks :=
  if 1200 < c.mhz then { c with mhz := max 1200 (c.mhz - 100) } else { c with halved := true }

/-- One step undone. -/
def Clocks.faster (c : Clocks) : Clocks :=
  if c.halved then { c with halved := false } else { c with mhz := min 2400 (c.mhz + 100) }

/-- Whether no step is in force. -/
def Clocks.full (c : Clocks) : Bool := !c.halved && decide (2400 ≤ c.mhz)

/-- Every core stops, record type 6 is written and DEVSTATE becomes 3. -/
def Device.stopAll (d : Device) : Device :=
  let d1 : Device := { d with clk := { d.clk with stopped := true } }
  let d2 := (d1.noteClocks 0).errorRecord 6 (Config.recordUnit 6).1 (Config.recordUnit 6).2 0 1
  { d2 with mgmt := { d2.mgmt with devstate := 3 } }

/-- The hottest junction, in tenths of a degree, as TEMP shows it. -/
def Device.putTemp (d : Device) (temp : Nat) : Device := d.putMgmt 0x8018 (putBits (d.mgmt.regs.get 0x8018) 15 0 temp)

/-- POWER_WINDOW: the average power in watts, the hottest junction in tenths of a degree, and PWRNOW. At 115 degrees the device stops. -/
def Device.powerWindow (d : Device) (watts temp : Nat) (now : Word64) : Device :=
  if d.clk.stopped then d
  else
    let cap := (d.mgmt.regs.get 0x8008).toNat
    let lim := bits (d.mgmt.regs.get 0x8018) 31 16
    let power := decide (cap < watts)
    let hot := decide (10 * lim ≤ temp)
    let cool := decide (100 * watts ≤ 97 * cap) && !hot
    let c := if power || hot then d.clk.slower else if cool then d.clk.faster else d.clk
    let c := { c with powerThr := !c.full && (power || d.clk.powerThr), thermThr := !c.full && (hot || d.clk.thermThr) }
    let d2 := (({ d with clk := c } : Device).putTemp temp).putMgmt 0x8010 now
    let d3 := if c.mhz = d.clk.mhz then d2 else d2.noteClocks c.mhz
    if 1150 ≤ temp then d3.stopAll else d3

/-- THERMAL_STOP: the hottest junction, in tenths of a degree, has reached 115 degrees between two windows. -/
def Device.thermalStop (d : Device) (temp : Nat) : Device :=
  if d.clk.stopped || decide (temp < 1150) then d else (d.putTemp temp).stopAll

/-! ## Wear, errors and retirement (13 R326 to R329) -/

/-- WEAR_UPDATE: days are clamped to 65,535. -/
def Device.wearUpdate (d : Device) (i days measure : Nat) : Device :=
  if 46 ≤ i then d
  else { d with mgmt := { d.mgmt with wear := d.mgmt.wear.set i (BitVec.ofNat 64 (measure % 2 ^ 32 * 2 ^ 16 + min 65535 days)) } }

/-- Key of a unit's count. -/
def unitKey (cls unit : Nat) : Nat := cls * 2 ^ 32 + unit % 2 ^ 32

/-- Adds to the count of a unit. -/
def Device.countError (d : Device) (key n : Nat) : Device :=
  { d with mgmt := { d.mgmt with errCount := d.mgmt.errCount.set key (d.mgmt.errCount.get key + BitVec.ofNat 64 n) } }

/-- The data of a line is lost until something writes it. -/
def Device.loseLine (d : Device) (line : Nat) : Device :=
  if decide (sysBase / 128 ≤ line) || d.bad.contains line then d else { d with bad := line :: d.bad }

/-- A wave whose data in a core is lost stops with cause 0x0D, subcode 1, or reports that once it has reported what stops it already; its group fails
(13 R327). -/
def Device.loseWave (d : Device) (core wid : Nat) : Device :=
  match d.waves.get? wid with
  | some w => if decide (w.core = core) && !w.retired then d.lateStop wid w none (trapOf 13 1 0 0 0) else d
  | none => d

/-- The accesses of a request that were in a line of the L2 whose data is lost fail (13 R327). -/
def Device.loseAccess (d : Device) (line rid : Nat) : Device :=
  match d.reqs.get? rid with
  | none => d
  | some r =>
    match r.accs.find? fun a => !a.reached && decide (a.line = line) with
    | some a => d.failAccess rid r a 1
    | none => d

/-- A core is retired, with the waves whose data is lost (13 R327). -/
def Device.retireCore (d : Device) (core : Nat) (waves : List Nat) : Device :=
  waves.foldl (fun d w => d.loseWave core w) (d.setCore core { d.core core with retired := true })

/-- What a lasting error retires: an HBM row, which is remapped, with the lines of it whose data is lost; a bank unit; a core with the waves
whose data is lost; the way of an L2 line, with the requests whose accesses met it where the line is not of device memory; a port. The L1, the L1 TLB
and the queues and windows of a core are SRAM of it (13 R327; log entry 101). -/
def Device.retireUnit (d : Device) (cls unit pa : Nat) (waves : List Nat) : Device :=
  match cls with
  | 7 => d.retireCore unit waves
  | 8 => d.retireCore unit waves
  | 11 => d.retireCore unit waves
  | 1 =>
    let d := (pa :: waves).foldl (fun d a => d.loseLine (a / 128)) d
    { d with mgmt := { d.mgmt with rows := d.mgmt.rows ++ [pa] } }
  | 2 => { d with banks := d.banks.set unit { d.banks.getD unit BankUnit.reset with retired := true } }
  | 3 => d.retireCore unit waves
  | 4 =>
    let d1 := waves.foldl (fun d w => d.loseAccess (pa / 128) w) ((d.dropL2 (pa / 128)).loseLine (pa / 128))
    { d1 with l2dead := d1.l2dead ++ [pa / 128] }
  | 5 => d.markDown unit
  | _ => d

/-- Drops an entry of a storage that parity protects, to be fetched from its source again when it is next needed: a line of the L1 of a core, an
entry of its L1 TLB, of the L2 TLB of a cluster, of the walk cache of a die, each by its place. An entry of a queue or of a forwarding window is
fetched again at once, which changes nothing (13 R326). -/
def Device.dropEntry (d : Device) (cls unit i : Nat) : Device :=
  match cls with
  | 7 => let c := d.core unit; d.setCore unit { c with l1 := c.l1.eraseIdx i }
  | 8 => let c := d.core unit; d.setCore unit { c with tlb := c.tlb.eraseIdx i }
  | 9 => { d with tlb2 := d.tlb2.set unit ((d.tlb2.getD unit []).eraseIdx i) }
  | 10 => { d with walks := d.walks.set unit ((d.walks.getD unit []).eraseIdx i) }
  | _ => d

/-- Whether a unit of a class of storage that parity protects exists. -/
def parityOk (cls unit : Nat) : Bool :=
  match cls with
  | 7 => decide (unit < 192)
  | 8 => decide (unit < 192)
  | 9 => decide (unit < 48)
  | 10 => decide (unit < 2)
  | 11 => decide (unit < 192)
  | _ => false

/-- Whether a unit of a class exists. -/
def unitOk (cls unit : Nat) : Bool :=
  match cls with
  | 1 => true
  | 2 => decide (unit < 768)
  | 3 => decide (unit < 192)
  | 4 => decide (unit < 192)
  | 5 => decide (unit < 18)
  | 6 => true
  | _ => false

/-- Class and index by which a record names a unit whose storage parity protects: the core of an L1, an L1 TLB, a queue or a window; of an L2 TLB and a
walk cache the manual gives no class, and it is free (13 R328; log entry 101). -/
def recordName (cls unit : Nat) : Nat × Nat := if decide (cls = 9) || decide (cls = 10) then Config.recordUnit (cls * 2 ^ 8 + unit) else (3, unit)

/-- UNCORRECTABLE_ERROR: a transient one is counted, and drops the entry where parity protects it; a lasting one retires the part and writes a
record of type 3. -/
def Device.uncorrectable (d : Device) (cls unit : Nat) (lasting : Bool) (pa : Nat) (waves : List Nat) : Device :=
  if parityOk cls unit then
    let d := d.dropEntry cls unit pa
    if lasting then (d.retireUnit cls unit pa waves).errorRecord 3 (recordName cls unit).1 (recordName cls unit).2 0 1
    else d.countError (unitKey (16 + cls) unit) 1
  else if !unitOk cls unit then d
  else if lasting then (d.retireUnit cls unit pa waves).errorRecord 3 cls unit (BitVec.ofNat 64 pa) 1
  else d.countError (unitKey (16 + cls) unit) 1

/-- CORRECTED_ERROR_RECORD: corrections are counted; a record is written at most once per second per unit. -/
def Device.corrected (d : Device) (cls unit n : Nat) : Device :=
  if !unitOk cls unit then d
  else
    let k := unitKey cls unit
    let d1 := d.countError k n
    let last := d.mgmt.errStamp.getD k 0
    let count := (d1.mgmt.errCount.get k).toNat
    if decide (count = 0) || (decide (0 < last) && decide (d.clk.ns + 1 < last + 10 ^ 9)) then d1
    else
      let d2 := d1.errorRecord 1 cls unit 0 count
      { d2 with mgmt := { d2.mgmt with errCount := d2.mgmt.errCount.set k 0, errStamp := d2.mgmt.errStamp.set k (d.clk.ns + 1) } }

/-! ## Span ports (13 R322, R324) -/

/-- LINK_REPLAY: only counted. -/
def Device.linkReplay (d : Device) (p : Nat) : Device :=
  if 18 ≤ p then d
  else ({ d with mgmt := { d.mgmt with replays := d.mgmt.replays.set p (d.mgmt.replays.get p + 1) } } : Device).tallied 3 p 0

/-- A failure is lasting: the port on which the operation failed first is marked down, and a record is written (13 R324). -/
def Device.portFails (d : Device) (p : Nat) : Device := (d.markDown p).errorRecord 3 5 p 0 1

/-- The access of a request at a quad that is on its way to another device of the span, and its index. -/
def Device.onSpan (d : Device) (rid : Nat) (r : Req) (quad : Nat) : Option (Access × Nat) :=
  r.accs.zipIdx.find? fun x => (decide (x.1.lane = 64) || decide (x.1.lane / 4 = quad)) && !x.1.reached &&
    decide (spanBase / 128 ≤ x.1.line) && !d.ownKey (x.1.line * 128) && !d.behindEarlier rid r x.1

/-- A failure of a request on its port: the first is noted, and the access is sent again once; the second is lasting. -/
def Device.linkFailReq (d : Device) (rid quad : Nat) (second : Bool) : Device :=
  match d.reqs.get? rid with
  | none => d
  | some r =>
    match d.onSpan rid r quad with
    | none => d
    | some (a, i) =>
      match second, a.port with
      | false, none => { d with reqs := d.reqs.set rid { r with accs := r.accs.set i { a with port := a.sent.orElse fun _ => d.portOf a.line } } }
      | true, some p => (d.portFails p).failAccess rid r a 2
      | _, _ => d

/-- A failure of the present item of an engine's operation on its port, in the same way. -/
def Device.linkFailItem (d : Device) (id : Nat) (second : Bool) : Device :=
  match d.ops.get? id with
  | none => d
  | some o =>
    match opSpan d o with
    | none => d
    | some (line, va) =>
      match second, o.port with
      | false, none => { d with ops := d.ops.set id { o with port := o.sent.orElse fun _ => d.portOf line } }
      | true, some p => (d.portFails p).linkFailOp o va
      | _, _ => d

/-- LINK_OPERATION_FAILURE of a request, at a quad, or of an engine's operation: it is sent again once; a second failure is lasting, marks
the first port down and fails the item. A second attempt that succeeds counts as transient when its item is done (13 R324). -/
def Device.linkFailure (d : Device) (engine : Bool) (id quad : Nat) (second : Bool) : Device :=
  if engine then d.linkFailItem id second else d.linkFailReq id quad second

/-- PORT_RETRAIN. -/
def Device.retrain (d : Device) (p : Nat) : Device :=
  if 18 ≤ p then d
  else
    let d := d.noteSent
    let m : BitVec 18 := BitVec.ofNat 18 (2 ^ p)
    { d with mgmt := { d.mgmt with portDown := d.mgmt.portDown &&& ~~~ m, portUp := d.mgmt.portUp ||| m } }

/-! ## Clocks of cores (14 R346) -/

/-- CORE_CLOCK_STOP. -/
def Device.coreStop (d : Device) (core : Nat) : Device :=
  if decide (192 ≤ core) || (d.core core).stopped then d
  else (d.setCore core { d.core core with stopped := true }).noteClock core 0

/-- CORE_CLOCK_RESTART. -/
def Device.coreRestart (d : Device) (core : Nat) : Device :=
  if !(d.core core).stopped then d
  else (d.setCore core { d.core core with stopped := false }).noteClock core d.clk.mhz

/-! ## SPDM (13 R334) -/

/-- Answers a request with some words. -/
def Device.answer (d : Device) (code : Nat) (w : List Nat) : Device := { d with mgmt := { d.mgmt with spdm := (code, w) :: d.mgmt.spdm } }

/-- What GET_CAPABILITIES answers: the flags of certificates, challenges and signed measurements, and no other: no key exchange, no encryption and
no message authentication (log entry 7). -/
def capabilityWords : List Nat := [0x16]

/-- What NEGOTIATE_ALGORITHMS answers: ECDSA on P-384 and SHA-384 alone, and neither a key exchange nor a cipher (log entry 7). -/
def algorithmWords : List Nat := [0x80, 0x02, 0, 0]

/-- Answers a request with words that the manual does not give (log entry 7). -/
def Device.answerFree (d : Device) (code arg : Nat) : Device :=
  { d.answer code (Config.spdmReply code arg d.draws) with draws := d.draws + 1 }

/-- The measurements: firmware stages and decode table, then the Ruson version triple. -/
def Device.measurements (d : Device) : List Nat := d.mgmt.measures ++ [3 * 2 ^ 16 + d.mgmt.minor * 2 ^ 8 + d.mgmt.patch]

/-- GET_MEASUREMENTS: 0 asks for their number, 255 for all, k for the k-th; another index gets an error reply. -/
def Device.getMeasurements (d : Device) (i : Nat) : Device :=
  if i = 0 then d.answer 0xE0 [d.measurements.length]
  else if i = 255 then d.answer 0xE0 d.measurements
  else match d.measurements[i - 1]? with
    | some m => d.answer 0xE0 [m]
    | none => d.answer 0x7F [0xE0]

/-- A request that names a certificate slot: only slot 0 is held. -/
def Device.slotRequest (d : Device) (code slot arg : Nat) : Device := if slot = 0 then d.answerFree code arg else d.answer 0x7F [code]

/-! ## Meanings -/

/-- FUNDAMENTAL_RESET (R320). -/
def execFundamentalReset (s : State) : Out := .next { s with dev := s.dev.fundamental, spec := none }

/-- BOOT_COMPLETE (R320): operands cause, cores, GiB, ports, then the stages, four operands each. -/
def execBootComplete (s : State) : Out :=
  .next { s with dev := s.dev.boot (s.arg.getD 0 0) (s.arg.getD 1 0) (s.arg.getD 2 0) (s.arg.getD 3 0) (stagesOf (s.arg.drop 4)) }

/-- FUNCTION_LEVEL_RESET (R320): operand fn. -/
def execFunctionLevelReset (s : State) : Out := onOne Device.flr s

/-- DECODE_TABLE_UPDATE (R93): operands major, minor, patch, signature holds, digest, security version, key hash. -/
def execDecodeTableUpdate (s : State) : Out :=
  let a (i : Nat) : Nat := s.arg.getD i 0
  .next { s with dev := s.dev.tableUpdate (a 0) (a 1) (a 2) ⟨a 4, decide (a 3 ≠ 0), a 5, a 6⟩ }

/-- POWER_WINDOW (R330): operands watts, temperature, PWRNOW. -/
def execPowerWindow (s : State) : Out := .next { s with dev := s.dev.powerWindow (s.arg.getD 0 0) (s.arg.getD 1 0) (s.word 2) }

/-- THERMAL_STOP (R330): operand temperature. -/
def execThermalStop (s : State) : Out := onOne Device.thermalStop s

/-- WEAR_UPDATE (R329): operands index, days, measure. -/
def execWearUpdate (s : State) : Out := .next { s with dev := s.dev.wearUpdate (s.arg.getD 0 0) (s.arg.getD 1 0) (s.arg.getD 2 0) }

/-- UNCORRECTABLE_ERROR (R327): operands class, unit, lasting, address or place, then the waves, or further addresses, whose data is lost. -/
def execUncorrectableError (s : State) : Out :=
  .next { s with dev := s.dev.uncorrectable (s.arg.getD 0 0) (s.arg.getD 1 0) (decide (s.arg.getD 2 0 ≠ 0)) (s.arg.getD 3 0) (s.arg.drop 4) }

/-- CORRECTED_ERROR_RECORD (R328): operands class, unit, corrections. -/
def execCorrectedErrorRecord (s : State) : Out :=
  .next { s with dev := s.dev.corrected (s.arg.getD 0 0) (s.arg.getD 1 0) (s.arg.getD 2 0) }

/-- LINK_REPLAY (R324): operand port. -/
def execLinkReplay (s : State) : Out := onOne Device.linkReplay s

/-- LINK_OPERATION_FAILURE (R324): operands engine, request or operation, quad, second. -/
def execLinkOperationFailure (s : State) : Out :=
  .next { s with dev := s.dev.linkFailure (decide (s.arg.getD 0 0 ≠ 0)) (s.arg.getD 1 0) (s.arg.getD 2 0) (decide (s.arg.getD 3 0 ≠ 0)) }

/-- PORT_RETRAIN (R322): operand port. -/
def execPortRetrain (s : State) : Out := onOne Device.retrain s

/-- CORE_CLOCK_STOP (R346): operand core. -/
def execCoreClockStop (s : State) : Out := onOne Device.coreStop s

/-- CORE_CLOCK_RESTART (R346): operand core. -/
def execCoreClockRestart (s : State) : Out := onOne Device.coreRestart s

/-- GET_VERSION (R334): SPDM 1.2 and 1.3. -/
def execGetVersion (s : State) : Out := .next { s with dev := s.dev.answer 0x84 [0x12, 0x13] }

/-- GET_CAPABILITIES (R334). -/
def execGetCapabilities (s : State) : Out := .next { s with dev := s.dev.answer 0xE1 capabilityWords }

/-- NEGOTIATE_ALGORITHMS (R334). -/
def execNegotiateAlgorithms (s : State) : Out := .next { s with dev := s.dev.answer 0xE3 algorithmWords }

/-- GET_DIGESTS (R334). -/
def execGetDigests (s : State) : Out := .next { s with dev := s.dev.answerFree 0x81 0 }

/-- GET_CERTIFICATE (R334): operand slot. -/
def execGetCertificate (s : State) : Out := .next { s with dev := s.dev.slotRequest 0x82 (s.arg.getD 0 0) 0 }

/-- CHALLENGE (R334): operands slot, nonce. -/
def execChallenge (s : State) : Out := .next { s with dev := s.dev.slotRequest 0x83 (s.arg.getD 0 0) (s.arg.getD 1 0) }

/-- GET_MEASUREMENTS (R334): operand index. -/
def execGetMeasurements (s : State) : Out := onOne Device.getMeasurements s

end Sys2Proof.Machine
end

