-- ==== Sys2Proof/Machine/Special.lean ====
section
/-! DEFINITION. The special functions of VSFU (02 R65, 05 R143), correctly rounded. A value that F32 does not hold exactly is
computed in fixed point with 320 fraction bits and given a sticky bit, so that the one rounding of 02 R65 falls as for the
exact value: no F32 operand brings a function closer than 2^-200 to a rounding boundary without lying on it, and the cases
that lie on one are exact and taken first. Log entry 11. -/

namespace Sys2Proof.Machine

/-- Fraction bits of the fixed-point work. -/
def fxP : Nat := 320

/-- 2π at 320 fraction bits. -/
def twoPi : Nat := 0x6487ed5110b4611a62633145c06e0e68948127044533e63a0105df531d89cd9128a5043cc71a026ef

/-- The natural logarithm of 2 at 320 fraction bits. -/
def lnTwo : Nat := 0xb17217f7d1cf79abc9e3b39803f2f6af40f343267298b62d8a0d175b8baafa2be7b876206debac98

/-- The product of two fixed-point numbers. -/
def fxMul (a b : Nat) : Nat := a * b / 2 ^ fxP

/-- Terms of e^y from term `k` on: `n` of them, the current one being `t`. -/
def expGo : Nat → Nat → Nat → Nat → Nat
  | 0, _, _, _ => 0
  | n + 1, k, t, y => t + expGo n (k + 1) (fxMul t y / (k + 1)) y

/-- e^y for a fixed-point y from 0 to 1. -/
def fxExp (y : Nat) : Nat := expGo 100 0 (2 ^ fxP) y

/-- The alternating series that sine and cosine share: terms t, − t·z / ((k+1)(k+2)), … -/
def altGo : Nat → Nat → Nat → Nat → Int
  | 0, _, _, _ => 0
  | n + 1, k, t, z => (t : Int) - altGo n (k + 2) (fxMul t z / ((k + 1) * (k + 2))) z

/-- sin y for a fixed-point y from 0 to π/2. -/
def fxSin (y : Nat) : Nat := (altGo 60 1 y (fxMul y y)).toNat

/-- cos y for a fixed-point y from 0 to π/2. -/
def fxCos (y : Nat) : Nat := (altGo 60 0 (2 ^ fxP) (fxMul y y)).toNat

/-- Terms of atanh: t / k + t·z / (k + 2) + … -/
def atanhGo : Nat → Nat → Nat → Nat → Nat
  | 0, _, _, _ => 0
  | n + 1, k, t, z => t / k + atanhGo n (k + 2) (fxMul t z) z

/-- ln of a fixed-point number from 1 to 2. -/
def fxLn (m : Nat) : Nat :=
  let z := (m - 2 ^ fxP) * 2 ^ fxP / (m + 2 ^ fxP)
  2 * atanhGo 130 1 z (fxMul z z)

/-- A fixed-point value that is not exact: a sticky bit below its last place. -/
def sticky (neg : Bool) (v : Nat) : Num := .fin neg (2 * v + 1) (-321)

/-- The fraction m × 2^e mod 1 at 320 fraction bits; exact for e ≥ −320. -/
def fracFx (m : Nat) (e : Int) : Nat := m * 2 ^ (e + 320).toNat % 2 ^ fxP

/-- 2^(m × 2^e) for a signed exponent; far exponents are replaced by ones as far out of range. -/
def exp2Num (neg : Bool) (m : Nat) (e : Int) : Num :=
  if m = 0 then Num.one
  else if 10 < (m.log2 : Int) + e then (if neg then .fin false 1 (-5000) else .fin false 1 5000)
  else
    let x := m * 2 ^ (e + 320).toNat
    let ip := x / 2 ^ fxP
    let fr := x % 2 ^ fxP
    if fr = 0 then .fin false 1 (if neg then -(ip : Int) else ip)
    else
      let n : Int := if neg then -(ip : Int) - 1 else ip
      let f := if neg then 2 ^ fxP - fr else fr
      .fin false (2 * fxExp (fxMul f lnTwo) + 1) (n - 321)

/-- log2 of m × 2^e, m not 0. -/
def log2Num (m : Nat) (e : Int) : Num :=
  let k : Int := (m.log2 : Int) + e
  if m = 2 ^ m.log2 then Num.ofInt k
  else
    let v := fxLn (m * 2 ^ (320 - m.log2)) * 2 ^ fxP / lnTwo
    if 0 ≤ k then sticky false (k.toNat * 2 ^ fxP + v) else sticky true ((-k).toNat * 2 ^ fxP - v - 1)

/-- sin (2πx) or cos (2πx) of x = ± m × 2^e (02 R65). -/
def sinCosNum (cos neg : Bool) (m : Nat) (e : Int) : Num :=
  let r := fracFx m e
  let q := (4 * r / 2 ^ fxP + b2n cos) % 4
  let s := 4 * r % 2 ^ fxP
  let sg := (if cos then false else neg) != decide (2 ≤ q)
  if s = 0 then (if q % 2 = 0 then .fin (if cos then false else neg) 0 0 else .fin sg 1 0)
  else
    let y := fxMul twoPi (s / 4)
    sticky sg (if q % 2 = 0 then fxSin y else fxCos y)

/-- tanh of ± m × 2^e, m not 0. -/
def tanhNum (neg : Bool) (m : Nat) (e : Int) : Num :=
  let k : Int := (m.log2 : Int) + e
  if 5 < k then .fin neg (2 ^ 100 - 1) (-100)
  else if k < -12 then .fin neg (m * 2 ^ 60 - 1) (e - 60)
  else
    match exp2Num true (2 * m * (2 ^ (2 * fxP) / lnTwo) / 2 ^ (-e).toNat) (-320) with
    | .fin _ t g =>
      let t' := t * 2 ^ 320 / 2 ^ (-g).toNat
      sticky neg ((2 ^ fxP - t') * 2 ^ fxP / (2 ^ fxP + t'))
    | x => x

/-- A VSFU function of an F32 pattern: 0 VRCP, 1 VRSQ, 2 VSQRT, 3 VEXP2, 4 VLOG2, 5 VSIN, 6 VCOS, 7 VTANH (05 R143). -/
def sfu (fn : Nat) (b : Nat) : Nat × Fx :=
  let f (x : Num) : Nat × Fx := roundNum .f32 1 x
  let bad : Nat × Fx := (Fmt.nan .f32, fxNV)
  match val .f32 b with
  | .nan s => (Fmt.nan .f32, fxIf s fxNV)
  | .inf s =>
    match fn with
    | 0 => f (.fin s 0 0)
    | 1 => if s then bad else f Num.zero
    | 2 => if s then bad else f (.inf false)
    | 3 => if s then f Num.zero else f (.inf false)
    | 4 => if s then bad else f (.inf false)
    | 7 => f (.fin s 1 0)
    | _ => bad
  | .fin s m e =>
    if m = 0 then
      match fn with
      | 0 => (infBits .f32 s, fxDZ)
      | 1 => (infBits .f32 s, fxDZ)
      | 3 => f Num.one
      | 4 => (infBits .f32 true, fxDZ)
      | 6 => f Num.one
      | _ => f (.fin s 0 0)
    else
      match fn with
      | 0 => f (divSticky false s 1 m 0 e)
      | 1 => if s then bad else f (rsqrtSticky m e)
      | 2 => if s then bad else f (sqrtSticky m e)
      | 3 => f (exp2Num s m e)
      | 4 => if s then bad else f (log2Num m e)
      | 5 => f (sinCosNum false s m e)
      | 6 => f (sinCosNum true s m e)
      | _ => f (tanhNum s m e)

end Sys2Proof.Machine
end

