-- ==== Sys2Proof/Machine/Flags.lean ====
section
/-! DEFINITION. Results that raise exceptions: a value and its exceptions in every active lane (02 R61, R62; 05 R130). -/

namespace Sys2Proof.Machine

namespace Spec

/-- Writes one register in every active lane and raises what the lanes raised. -/
def lanesFx (p : Spec) (t : Bool) (d : Nat) (f : Nat → Nat × Fx) : Res :=
  (p.setV t d fun l => BitVec.ofNat 32 (f l).1).raiseFx (p.act.map fun l => (l, (f l).2))

/-- Writes a pair in every active lane and raises what the lanes raised. -/
def pairsFx (p : Spec) (t : Bool) (d : Nat) (f : Nat → Nat × Fx) : Res :=
  (p.setVs t d fun l => [BitVec.ofNat 32 (f l).1, BitVec.ofNat 32 ((f l).1 / 2 ^ 32)]).raiseFx
    (p.act.map fun l => (l, (f l).2))

end Spec

/-- The four operations of the floating-point majors (05 R133). -/
def fpOp (op : Nat) (f : Fmt) (mode : Nat) (a b c : Num) : Nat × Fx :=
  match op with
  | 0 => fAdd f mode a b
  | 1 => fSub f mode a b
  | 2 => fMul f mode a b
  | _ => fFma f mode a b c

/-- The mask of the active lanes that satisfy a comparison (05 R132, R138). -/
def laneBits (p : Spec) (f : Nat → Bool) : Word64 := maskOf 64 (p.act.filter f)

end Sys2Proof.Machine
end

