-- ==== Sys2Proof/Machine/Sample.lean ====
section
/-! DEFINITION. Counter-based draws, reservoirs and ray tests (08 R210 to R222). -/

namespace Sys2Proof.Machine

/-- The draw of VRAND (08 R210). -/
def rand32 (key : Word64) (c : Word32) : Word32 :=
  let x0 := c ^^^ key.setWidth 32
  let x1 := x0 ^^^ (x0 >>> 16)
  let x2 := x1 * 0x2C1B3C6D#32
  let x3 := x2 ^^^ (x2 >>> 13)
  let x4 := x3 * 0x297A2D39#32
  x4 ^^^ (x4 >>> 16) ^^^ (key >>> 32).setWidth 32

/-- VRAND (08 R210). -/
def opVrand (k a d : Nat) (t : Bool) (p : Spec) : Res :=
  .ok (p.setV t d fun l => rand32 (p.sreg k) (p.vreg a l))

/-- VRANDU (08 R211). -/
def opVrandu (k a d : Nat) (t : Bool) (p : Spec) : Res :=
  .ok (p.setV t d fun l =>
    BitVec.ofNat 32 (enc .f32 (.fin false ((rand32 (p.sreg k) (p.vreg a l)).toNat / 256) (-24))))

/-! ## Reservoirs (01 R14, 08 R212 to R217) -/

/-- The fields of a reservoir (01 R14). -/
structure Rsv where
  /-- Payload. -/
  y : Nat
  /-- Target value. -/
  phat : Nat
  /-- Weight sum. -/
  wsum : Nat
  /-- Candidates. -/
  m : Nat
  deriving DecidableEq, Repr

/-- Field `i` of 32 bits of a reservoir register. -/
def rfield (q : Word128) (i : Nat) : Nat := q.toNat / 2 ^ (32 * i) % 2 ^ 32

/-- A reservoir register's fields (01 R14). -/
def rsvOf (q : Word128) : Rsv := ⟨rfield q 0, rfield q 1, rfield q 2, rfield q 3⟩

/-- The register that holds some fields (01 R14). -/
def Rsv.bits (r : Rsv) : Word128 := BitVec.ofNat 128 (r.y + r.phat * 2 ^ 32 + r.wsum * 2 ^ 64 + r.m * 2 ^ 96)

/-- Exceptions of a reservoir's rounding: NV comes from signalling operands alone (08 R213). -/
def rsvFx (x : Fx) : Fx := x &&& ~~~ (fxNV ||| fxDZ)

/-- One candidate of weight `w`: the common tail of RSVUPD and RSVMRG (08 R215, R216). -/
def rsvOffer (r : Rsv) (w u y phat dm : Nat) : Rsv × Fx :=
  let vw := val .f32 w
  let ok := !vw.isNan && !vw.isInf && decide (0 < cmpNum vw Num.zero)
  let w' := if ok then w else 0
  let s := fAdd .f32 1 (val .f32 r.wsum) (val .f32 w')
  let t := fMul .f32 1 (val .f32 u) (val .f32 s.1)
  let m := min (r.m + dm) 0xFFFFFFFF
  let vt := val .f32 t.1
  let take := ok && !vt.isNan && decide (cmpNum vt vw < 0)
  (⟨if take then y else r.y, if take then phat else r.phat, s.1, m⟩,
    rsvFx (s.2 ||| t.2) ||| snanFx [vw, val .f32 u, val .f32 r.wsum])

/-- RSVINIT (08 R214). -/
def opRsvinit (q : Nat) (t : Bool) (p : Spec) : Res := .ok (p.setQ t q fun _ => 0)

/-- RSVUPD (08 R215). -/
def opRsvupd (b a q : Nat) (t : Bool) (p : Spec) : Res :=
  let r (l : Nat) : Rsv × Fx :=
    rsvOffer (rsvOf (p.qreg q l)) (p.vreg b l).toNat (p.vreg (b + 1) l).toNat (p.vreg a l).toNat (p.vreg (a + 1) l).toNat 1
  (p.setQ t q fun l => (r l).1.bits).raiseFx (p.act.map fun l => (l, (r l).2))

/-- The merged weight: two products rounded left to right (08 R216). -/
def mergeW (ph w m : Nat) : Nat × Fx :=
  let x := fMul .f32 1 (val .f32 ph) (val .f32 w)
  let k := roundNum .f32 1 (Num.ofInt m)
  let y := fMul .f32 1 (val .f32 x.1) (val .f32 k.1)
  (y.1, rsvFx (x.2 ||| k.2 ||| y.2) ||| snanFx [val .f32 ph, val .f32 w])

/-- RSVMRG (08 R216). -/
def opRsvmrg (b a q : Nat) (t : Bool) (p : Spec) : Res :=
  let r (l : Nat) : Rsv × Fx :=
    let w := mergeW (p.vreg b l).toNat (p.vreg (a + 2) l).toNat (p.vreg (a + 3) l).toNat
    let o := rsvOffer (rsvOf (p.qreg q l)) w.1 (p.vreg (b + 1) l).toNat (p.vreg a l).toNat (p.vreg b l).toNat (p.vreg (a + 3) l).toNat
    (o.1, o.2 ||| w.2)
  (p.setQ t q fun l => (r l).1.bits).raiseFx (p.act.map fun l => (l, (r l).2))

/-- The contribution weight of a reservoir: +0 for a finite sum over an infinite denominator (08 R217). -/
def rsvWeight (r : Rsv) : Nat × Fx :=
  let ph := val .f32 r.phat
  let ws := val .f32 r.wsum
  let sn := snanFx [ph, ws]
  if decide (r.m = 0) || ph.isNan || !decide (0 < cmpNum ph Num.zero) then (0, sn)
  else if ws.isInf && !ws.neg? then (infBits .f32 false, sn)
  else
    let k := roundNum .f32 1 (Num.ofInt r.m)
    let den := fMul .f32 1 (val .f32 k.1) ph
    if (val .f32 den.1).isInf && !ws.isNan && !ws.isInf then (0, rsvFx (k.2 ||| den.2) ||| sn)
    else
      let w := roundNum .f32 1 (divNum ws (val .f32 den.1))
      (w.1, rsvFx (k.2 ||| den.2 ||| w.2) ||| sn)

/-- RSVFIN (08 R217). -/
def opRsvfin (q d : Nat) (t : Bool) (p : Spec) : Res :=
  let r (l : Nat) : Rsv := rsvOf (p.qreg q l)
  (p.setVs t d fun l => [BitVec.ofNat 32 (r l).y, BitVec.ofNat 32 (rsvWeight (r l)).1]).raiseFx
    (p.act.map fun l => (l, (rsvWeight (r l)).2))

/-- RSVRD (08 R214). -/
def opRsvrd (q d : Nat) (t : Bool) (p : Spec) : Res :=
  .ok (p.setVs t d fun l => (List.range 4).map fun i => BitVec.ofNat 32 (rfield (p.qreg q l) i))

/-- RSVWR (08 R214). -/
def opRsvwr (a q : Nat) (t : Bool) (p : Spec) : Res := .ok (p.setQ t q fun l => BitVec.ofNat 128 (p.vwide a l 4))

/-! ## Ray tests (08 R218 to R222) -/

/-- A number rounded to F32 to nearest even, as a number. -/
def rne (x : Num) : Num := val .f32 (roundNum .f32 1 x).1

/-- An exact sum. -/
def plus (a b : Num) : Num := (addNum 1 a b).1

/-- An exact difference. -/
def minus (a b : Num) : Num := plus a b.negate

/-- −1, 0 or 1. -/
def sgn (a : Num) : Int := cmpNum a Num.zero

/-- Whether a ≤ b for numbers that are not NaN. -/
def leN (a b : Num) : Bool := decide (cmpNum a b ≤ 0)

/-- Component `i` of a list. -/
def comp (l : List Num) (i : Nat) : Num := l.getD i (.nan false)

/-- RAYTRI's result, t, u and v; none is a miss (08 R220). -/
def rayTri (o dr : List Num) (tmax : Num) (vs : List (List Num)) : Option (Num × Num × Num) :=
  let d0 := (comp dr 0).abs
  let d1 := (comp dr 1).abs
  let d2 := (comp dr 2).abs
  let kz := if leN d1 d0 && leN d2 d0 then 0 else if leN d2 d1 then 1 else 2
  let dz := comp dr kz
  if (o ++ dr ++ [tmax] ++ vs.flatten).any Num.isNan || dz.isZero then none
  else
    let k1 := (kz + 1) % 3
    let k2 := (kz + 2) % 3
    let kx := if dz.neg? then k2 else k1
    let ky := if dz.neg? then k1 else k2
    let sx := rne (divNum (comp dr kx) dz)
    let sy := rne (divNum (comp dr ky) dz)
    let sz := rne (divNum Num.one dz)
    let sh (v : List Num) : List Num :=
      let q := (List.range 3).map fun i => rne (minus (comp v i) (comp o i))
      [rne (minus (comp q kx) (mulX sx (comp q kz))), rne (minus (comp q ky) (mulX sy (comp q kz))), rne (mulX sz (comp q kz))]
    let a := sh (vs.getD 0 [])
    let b := sh (vs.getD 1 [])
    let c := sh (vs.getD 2 [])
    let edge (x y : List Num) : Num := minus (mulX (comp x 0) (comp y 1)) (mulX (comp x 1) (comp y 0))
    let eu := edge c b
    let ev := edge a c
    let ew := edge b a
    if ([sx, sy, sz, eu, ev, ew] ++ a ++ b ++ c).any Num.isNan then none
    else if [eu, ev, ew].any (fun x => decide (sgn x < 0)) && [eu, ev, ew].any (fun x => decide (0 < sgn x)) then none
    else
      let u := rne eu
      let v := rne ev
      let w := rne ew
      let det := rne (xsum 1 [u, v, w]).1
      let tt := rne (xsum 1 [mulX u (comp a 2), mulX v (comp b 2), mulX w (comp c 2)]).1
      if det.isNan || det.isZero || tt.isNan then none
      else
        let t := rne (divNum tt det)
        let ru := rne (divNum v det)
        let rv := rne (divNum w det)
        if [t, ru, rv].any Num.isNan then none
        else if decide (0 < sgn t) && leN t tmax then some (t, ru, rv) else none

/-- The number in a register. -/
def Spec.nums (p : Spec) (r n l : Nat) : List Num := (List.range n).map fun i => p.raw32 (r + i) l

/-- A number as an F32 word. -/
def w32 (x : Num) : Word32 := BitVec.ofNat 32 (enc .f32 x)

/-- RAYTRI (08 R218, R220). -/
def opRaytri (b a d : Nat) (t : Bool) (p : Spec) : Res :=
  .ok (p.setVs t d fun l =>
    match rayTri (p.nums a 3 l) (p.nums (a + 3) 3 l) (p.raw32 (a + 6) l)
        [p.nums b 3 l, p.nums (b + 3) 3 l, p.nums (b + 6) 3 l] with
    | some (x, u, v) => [w32 x, w32 u, w32 v]
    | none => [w32 (.inf false), 0, 0])

/-- The slab of one axis: its interval, or none for a miss (08 R222). -/
def slab (o r lo hi : Num) : Option (Num × Num) :=
  if !leN lo hi then none
  else if r.isInf then (if leN lo o && leN o hi then some (.inf true, .inf false) else none)
  else
    let a := mulX (minus lo o) r
    let b := mulX (minus hi o) r
    if a.isNan || b.isNan then none
    else
      let x := if leTotal a b then a else b
      let y := if leTotal a b then b else a
      some (val .f32 (roundNum .f32 4 x).1, val .f32 (roundNum .f32 3 y).1)

/-- The larger number, −0 below +0, the model's choice (02 R75; log entry 81). -/
def maxN (a b : Num) : Num := if leTotal a b then b else a

/-- The smaller number; of -0 and +0 it is -0, the model's choice (02 R75; log entry 81). -/
def minN (a b : Num) : Num := if leTotal a b then a else b

/-- RAYBOX's interval; none is a miss (08 R222). -/
def rayBox (o r : List Num) (tmax : Num) (bx : List Num) : Option (Num × Num) :=
  if (o ++ r ++ [tmax] ++ bx).any Num.isNan then none
  else
    match slab (comp o 0) (comp r 0) (comp bx 0) (comp bx 3), slab (comp o 1) (comp r 1) (comp bx 1) (comp bx 4),
        slab (comp o 2) (comp r 2) (comp bx 2) (comp bx 5) with
    | some x, some y, some z =>
      let near := maxN (maxN (maxN Num.zero x.1) y.1) z.1
      let far := minN (minN (minN tmax x.2) y.2) z.2
      if leN near far then some (near, far) else none
    | _, _, _ => none

/-- RAYBOX (08 R218, R222). -/
def opRaybox (b a d : Nat) (t : Bool) (p : Spec) : Res :=
  .ok (p.setVs t d fun l =>
    match rayBox (p.nums a 3 l) (p.nums (a + 3) 3 l) (p.raw32 (a + 6) l) (p.nums b 6 l) with
    | some (x, y) => [w32 x, w32 y]
    | none => [w32 (.inf false), w32 (.inf true)])

/-! ## Meanings -/

/-- VRAND (R210). -/
def execVrand (fk : BitVec 6) (fa : BitVec 7) (fd : BitVec 7) (ft : BitVec 1) (s : State) : Out :=
  issue (.vrand fk fa fd ft) s (opVrand fk.toNat fa.toNat fd.toNat (isT ft))

/-- VRANDU (R211). -/
def execVrandu (fk : BitVec 6) (fa : BitVec 7) (fd : BitVec 7) (ft : BitVec 1) (s : State) : Out :=
  issue (.vrandu fk fa fd ft) s (opVrandu fk.toNat fa.toNat fd.toNat (isT ft))

/-- RSVINIT (R214). -/
def execRsvinit (fq : BitVec 1) (ft : BitVec 1) (s : State) : Out :=
  issue (.rsvinit fq ft) s (opRsvinit fq.toNat (isT ft))

/-- RSVUPD (R215). -/
def execRsvupd (fb : BitVec 7) (fa : BitVec 7) (fq : BitVec 1) (ft : BitVec 1) (s : State) : Out :=
  issue (.rsvupd fb fa fq ft) s (opRsvupd fb.toNat fa.toNat fq.toNat (isT ft))

/-- RSVMRG (R216). -/
def execRsvmrg (fb : BitVec 7) (fa : BitVec 7) (fq : BitVec 1) (ft : BitVec 1) (s : State) : Out :=
  issue (.rsvmrg fb fa fq ft) s (opRsvmrg fb.toNat fa.toNat fq.toNat (isT ft))

/-- RSVFIN (R217). -/
def execRsvfin (fq : BitVec 1) (fd : BitVec 7) (ft : BitVec 1) (s : State) : Out :=
  issue (.rsvfin fq fd ft) s (opRsvfin fq.toNat fd.toNat (isT ft))

/-- RSVRD (R214). -/
def execRsvrd (fq : BitVec 1) (fd : BitVec 7) (ft : BitVec 1) (s : State) : Out :=
  issue (.rsvrd fq fd ft) s (opRsvrd fq.toNat fd.toNat (isT ft))

/-- RSVWR (R214). -/
def execRsvwr (fa : BitVec 7) (fq : BitVec 1) (ft : BitVec 1) (s : State) : Out :=
  issue (.rsvwr fa fq ft) s (opRsvwr fa.toNat fq.toNat (isT ft))

/-- RAYTRI (R220). -/
def execRaytri (fb : BitVec 7) (fa : BitVec 7) (fd : BitVec 7) (ft : BitVec 1) (s : State) : Out :=
  issue (.raytri fb fa fd ft) s (opRaytri fb.toNat fa.toNat fd.toNat (isT ft))

/-- RAYBOX (R222). -/
def execRaybox (fb : BitVec 7) (fa : BitVec 7) (fd : BitVec 7) (ft : BitVec 1) (s : State) : Out :=
  issue (.raybox fb fa fd ft) s (opRaybox fb.toNat fa.toNat fd.toNat (isT ft))

end Sys2Proof.Machine
end

