-- ==== Sys2Proof/Machine/VecInt.lean ====
section
/-! DEFINITION. Vector integer instructions: arithmetic, logic, shifts, immediates, moves, comparison, selection, bit fields and
byte packing (05 R134 to R140, R142). -/

namespace Sys2Proof.Machine

/-- A function of va, vb and the old vd in every active lane (05 R130, R134). -/
def opV3 (f : Word32 → Word32 → Word32 → Word32) (b a d : Nat) (t : Bool) (p : Spec) : Res :=
  .ok (p.setV t d fun l => f (p.vreg a l) (p.vreg b l) (p.vreg d l))

/-- A function of va in every active lane. -/
def opV1 (f : Word32 → Word32) (a d : Nat) (t : Bool) (p : Spec) : Res :=
  .ok (p.setV t d fun l => f (p.vreg a l))

/-- The shift amount b[4:0] (05 R134). -/
def amt (b : Word32) : Nat := b.toNat % 32

/-- Bits 63 to 32 of the signed product. -/
def mulHi32 (a b : Word32) : Word32 := BitVec.ofInt 32 (a.toInt * b.toInt / 4294967296)

/-- Bits 63 to 32 of the unsigned product. -/
def mulHiU32 (a b : Word32) : Word32 := BitVec.ofNat 32 (a.toNat * b.toNat / 4294967296)

/-- A sum clamped to a signed 32-bit word (05 R134). -/
def clamp32 (x : Int) : Word32 :=
  if x < -2147483648 then 0x80000000#32 else if 2147483647 < x then 0x7FFFFFFF#32 else BitVec.ofInt 32 x

/-- VABS (05 R134). -/
def abs32 (a : Word32) : Word32 := if bit a 31 then 0 - a else a

/-- VCMP's relation (05 R138). -/
def cmpI (cc : Nat) (a b : Word32) : Bool :=
  match cc with
  | 0 => a == b
  | 1 => a != b
  | 2 => decide (a.toInt < b.toInt)
  | 3 => decide (b.toInt ≤ a.toInt)
  | 4 => decide (a.toNat < b.toNat)
  | 5 => decide (b.toNat ≤ a.toNat)
  | 6 => a &&& b != 0
  | _ => a &&& b == 0

/-- VCMP (05 R138). -/
def opVcmp (cc b a d : Nat) (t : Bool) (p : Spec) : Res :=
  .ok (p.setS t d (laneBits p fun l => cmpI cc (p.vreg a l) (p.vreg b l)))

/-- VSEL with mask s56 + m (05 R139). -/
def opVsel (m b a d : Nat) (t : Bool) (p : Spec) : Res :=
  .ok (p.setV t d fun l => if bit (p.sreg (56 + m)) l then p.vreg a l else p.vreg b l)

/-- A field of width `w` at `off`, cut off at bit `n` − 1: its value and the width taken (04 R105). -/
def fieldOf (n w off x : Nat) : Nat × Nat :=
  let w' := min w (n - off)
  (x / 2 ^ off % 2 ^ w', w')

/-- A field read unsigned. -/
def bfxu (n w off x : Nat) : Nat := (fieldOf n w off x).1

/-- A field read signed (04 R105). -/
def bfx (n w off x : Nat) : Int :=
  let f := fieldOf n w off x
  if f.2 = 0 then 0 else sextNat f.2 f.1

/-- A field written into the destination (04 R105). -/
def bfi (n w off x dst : Nat) : Nat :=
  let w' := min w (n - off)
  dst - dst / 2 ^ off % 2 ^ w' * 2 ^ off + x % 2 ^ w' * 2 ^ off

/-- VMOVS, VMOVSH: bits of a scalar in every active lane (05 R137). -/
def opVmovs (high : Bool) (a d : Nat) (t : Bool) (p : Spec) : Res :=
  .ok (p.setV t d fun _ => BitVec.ofNat 32 ((p.sreg a).toNat / (if high then 2 ^ 32 else 1)))

/-- VGETL (05 R137). -/
def opVgetl (b a d : Nat) (t : Bool) (p : Spec) : Res :=
  let k := bits (p.sreg b) 5 0
  .ok (p.setS t d (if bit p.prt.quads (k / 4) then (p.vreg a k).setWidth 64 else 0))

/-- VSETL (05 R137). -/
def opVsetl (b a d : Nat) (t : Bool) (p : Spec) : Res :=
  let k := bits (p.sreg b) 5 0
  .ok (p.push t (if p.act.contains k then [(.v d k, (p.sreg a).setWidth 32 |>.setWidth 128)] else []))

/-! ## Meanings -/

/-- VADD (R134). -/
def execVadd (fb : BitVec 7) (fa : BitVec 7) (fd : BitVec 7) (ft : BitVec 1) (s : State) : Out :=
  issue (.vadd fb fa fd ft) s (opV3 (fun a b _ => a + b) fb.toNat fa.toNat fd.toNat (isT ft))

/-- VADD_16 (R86). -/
def execVadd16 (fs : BitVec 5) (fd : BitVec 6) (s : State) : Out :=
  issue (.vadd16 fs fd) s (opV3 (fun a b _ => a + b) fs.toNat fd.toNat fd.toNat false)

/-- VSUB (R134). -/
def execVsub (fb : BitVec 7) (fa : BitVec 7) (fd : BitVec 7) (ft : BitVec 1) (s : State) : Out :=
  issue (.vsub fb fa fd ft) s (opV3 (fun a b _ => a - b) fb.toNat fa.toNat fd.toNat (isT ft))

/-- VSUB_16 (R86). -/
def execVsub16 (fs : BitVec 5) (fd : BitVec 6) (s : State) : Out :=
  issue (.vsub16 fs fd) s (opV3 (fun a b _ => a - b) fs.toNat fd.toNat fd.toNat false)

/-- VMULLO (R134). -/
def execVmullo (fb : BitVec 7) (fa : BitVec 7) (fd : BitVec 7) (ft : BitVec 1) (s : State) : Out :=
  issue (.vmullo fb fa fd ft) s (opV3 (fun a b _ => a * b) fb.toNat fa.toNat fd.toNat (isT ft))

/-- VMULLO_16 (R86). -/
def execVmullo16 (fs : BitVec 5) (fd : BitVec 6) (s : State) : Out :=
  issue (.vmullo16 fs fd) s (opV3 (fun a b _ => a * b) fs.toNat fd.toNat fd.toNat false)

/-- VMULHI (R134). -/
def execVmulhi (fb : BitVec 7) (fa : BitVec 7) (fd : BitVec 7) (ft : BitVec 1) (s : State) : Out :=
  issue (.vmulhi fb fa fd ft) s (opV3 (fun a b _ => mulHi32 a b) fb.toNat fa.toNat fd.toNat (isT ft))

/-- VMULHU (R134). -/
def execVmulhu (fb : BitVec 7) (fa : BitVec 7) (fd : BitVec 7) (ft : BitVec 1) (s : State) : Out :=
  issue (.vmulhu fb fa fd ft) s (opV3 (fun a b _ => mulHiU32 a b) fb.toNat fa.toNat fd.toNat (isT ft))

/-- VMAD (R134). -/
def execVmad (fb : BitVec 7) (fa : BitVec 7) (fd : BitVec 7) (ft : BitVec 1) (s : State) : Out :=
  issue (.vmad fb fa fd ft) s (opV3 (fun a b c => a * b + c) fb.toNat fa.toNat fd.toNat (isT ft))

/-- VADDSAT (R134). -/
def execVaddsat (fb : BitVec 7) (fa : BitVec 7) (fd : BitVec 7) (ft : BitVec 1) (s : State) : Out :=
  issue (.vaddsat fb fa fd ft) s (opV3 (fun a b _ => clamp32 (a.toInt + b.toInt)) fb.toNat fa.toNat fd.toNat (isT ft))

/-- VSUBSAT (R134). -/
def execVsubsat (fb : BitVec 7) (fa : BitVec 7) (fd : BitVec 7) (ft : BitVec 1) (s : State) : Out :=
  issue (.vsubsat fb fa fd ft) s (opV3 (fun a b _ => clamp32 (a.toInt - b.toInt)) fb.toNat fa.toNat fd.toNat (isT ft))

/-- VMIN (R134). -/
def execVmin (fb : BitVec 7) (fa : BitVec 7) (fd : BitVec 7) (ft : BitVec 1) (s : State) : Out :=
  issue (.vmin fb fa fd ft) s (opV3 (fun a b _ => if b.toInt < a.toInt then b else a) fb.toNat fa.toNat fd.toNat (isT ft))

/-- VMAX (R134). -/
def execVmax (fb : BitVec 7) (fa : BitVec 7) (fd : BitVec 7) (ft : BitVec 1) (s : State) : Out :=
  issue (.vmax fb fa fd ft) s (opV3 (fun a b _ => if a.toInt < b.toInt then b else a) fb.toNat fa.toNat fd.toNat (isT ft))

/-- VMAX_16 (R86). -/
def execVmax16 (fs : BitVec 5) (fd : BitVec 6) (s : State) : Out :=
  issue (.vmax16 fs fd) s (opV3 (fun a b _ => if a.toInt < b.toInt then b else a) fs.toNat fd.toNat fd.toNat false)

/-- VMINU (R134). -/
def execVminu (fb : BitVec 7) (fa : BitVec 7) (fd : BitVec 7) (ft : BitVec 1) (s : State) : Out :=
  issue (.vminu fb fa fd ft) s (opV3 (fun a b _ => if b.toNat < a.toNat then b else a) fb.toNat fa.toNat fd.toNat (isT ft))

/-- VMAXU (R134). -/
def execVmaxu (fb : BitVec 7) (fa : BitVec 7) (fd : BitVec 7) (ft : BitVec 1) (s : State) : Out :=
  issue (.vmaxu fb fa fd ft) s (opV3 (fun a b _ => if a.toNat < b.toNat then b else a) fb.toNat fa.toNat fd.toNat (isT ft))

/-- VAND (R134). -/
def execVand (fb : BitVec 7) (fa : BitVec 7) (fd : BitVec 7) (ft : BitVec 1) (s : State) : Out :=
  issue (.vand fb fa fd ft) s (opV3 (fun a b _ => a &&& b) fb.toNat fa.toNat fd.toNat (isT ft))

/-- VAND_16 (R86). -/
def execVand16 (fs : BitVec 5) (fd : BitVec 6) (s : State) : Out :=
  issue (.vand16 fs fd) s (opV3 (fun a b _ => a &&& b) fs.toNat fd.toNat fd.toNat false)

/-- VOR (R134). -/
def execVor (fb : BitVec 7) (fa : BitVec 7) (fd : BitVec 7) (ft : BitVec 1) (s : State) : Out :=
  issue (.vor fb fa fd ft) s (opV3 (fun a b _ => a ||| b) fb.toNat fa.toNat fd.toNat (isT ft))

/-- VOR_16 (R86). -/
def execVor16 (fs : BitVec 5) (fd : BitVec 6) (s : State) : Out :=
  issue (.vor16 fs fd) s (opV3 (fun a b _ => a ||| b) fs.toNat fd.toNat fd.toNat false)

/-- VXOR (R134). -/
def execVxor (fb : BitVec 7) (fa : BitVec 7) (fd : BitVec 7) (ft : BitVec 1) (s : State) : Out :=
  issue (.vxor fb fa fd ft) s (opV3 (fun a b _ => a ^^^ b) fb.toNat fa.toNat fd.toNat (isT ft))

/-- VXOR_16 (R86). -/
def execVxor16 (fs : BitVec 5) (fd : BitVec 6) (s : State) : Out :=
  issue (.vxor16 fs fd) s (opV3 (fun a b _ => a ^^^ b) fs.toNat fd.toNat fd.toNat false)

/-- VANDN (R134). -/
def execVandn (fb : BitVec 7) (fa : BitVec 7) (fd : BitVec 7) (ft : BitVec 1) (s : State) : Out :=
  issue (.vandn fb fa fd ft) s (opV3 (fun a b _ => a &&& ~~~b) fb.toNat fa.toNat fd.toNat (isT ft))

/-- VSHL (R134). -/
def execVshl (fb : BitVec 7) (fa : BitVec 7) (fd : BitVec 7) (ft : BitVec 1) (s : State) : Out :=
  issue (.vshl fb fa fd ft) s (opV3 (fun a b _ => a <<< amt b) fb.toNat fa.toNat fd.toNat (isT ft))

/-- VSHL_16 (R86). -/
def execVshl16 (fs : BitVec 5) (fd : BitVec 6) (s : State) : Out :=
  issue (.vshl16 fs fd) s (opV3 (fun a b _ => a <<< amt b) fs.toNat fd.toNat fd.toNat false)

/-- VSHRL (R134). -/
def execVshrl (fb : BitVec 7) (fa : BitVec 7) (fd : BitVec 7) (ft : BitVec 1) (s : State) : Out :=
  issue (.vshrl fb fa fd ft) s (opV3 (fun a b _ => a >>> amt b) fb.toNat fa.toNat fd.toNat (isT ft))

/-- VSHRL_16 (R86). -/
def execVshrl16 (fs : BitVec 5) (fd : BitVec 6) (s : State) : Out :=
  issue (.vshrl16 fs fd) s (opV3 (fun a b _ => a >>> amt b) fs.toNat fd.toNat fd.toNat false)

/-- VSHRA (R134). -/
def execVshra (fb : BitVec 7) (fa : BitVec 7) (fd : BitVec 7) (ft : BitVec 1) (s : State) : Out :=
  issue (.vshra fb fa fd ft) s (opV3 (fun a b _ => a.sshiftRight (amt b)) fb.toNat fa.toNat fd.toNat (isT ft))

/-- VSHRA_16 (R86). -/
def execVshra16 (fs : BitVec 5) (fd : BitVec 6) (s : State) : Out :=
  issue (.vshra16 fs fd) s (opV3 (fun a b _ => a.sshiftRight (amt b)) fs.toNat fd.toNat fd.toNat false)

/-- VROTL (R134). -/
def execVrotl (fb : BitVec 7) (fa : BitVec 7) (fd : BitVec 7) (ft : BitVec 1) (s : State) : Out :=
  issue (.vrotl fb fa fd ft) s (opV3 (fun a b _ => a.rotateLeft (amt b)) fb.toNat fa.toNat fd.toNat (isT ft))

/-- VMOV_16 (R86). -/
def execVmov16 (fs : BitVec 5) (fd : BitVec 6) (s : State) : Out :=
  issue (.vmov16 fs fd) s (opV1 (fun a => a) fs.toNat fd.toNat false)

/-- VPOPC (R134). -/
def execVpopc (fa : BitVec 7) (fd : BitVec 7) (ft : BitVec 1) (s : State) : Out :=
  issue (.vpopc fa fd ft) s (opV1 (fun a => BitVec.ofNat 32 (popcount a)) fa.toNat fd.toNat (isT ft))

/-- VCLZ (R134). -/
def execVclz (fa : BitVec 7) (fd : BitVec 7) (ft : BitVec 1) (s : State) : Out :=
  issue (.vclz fa fd ft) s (opV1 (fun a => BitVec.ofNat 32 (clz a)) fa.toNat fd.toNat (isT ft))

/-- VBREV (R134). -/
def execVbrev (fa : BitVec 7) (fd : BitVec 7) (ft : BitVec 1) (s : State) : Out :=
  issue (.vbrev fa fd ft) s (opV1 (fun a => brev a) fa.toNat fd.toNat (isT ft))

/-- VABS (R134). -/
def execVabs (fa : BitVec 7) (fd : BitVec 7) (ft : BitVec 1) (s : State) : Out :=
  issue (.vabs fa fd ft) s (opV1 (fun a => abs32 a) fa.toNat fd.toNat (isT ft))

/-- VADDI (R135). -/
def execVaddi (fi : BitVec 7) (fa : BitVec 7) (fd : BitVec 7) (ft : BitVec 1) (s : State) : Out :=
  issue (.vaddi fi fa fd ft) s (opV1 (fun a => a + simm32 fi) fa.toNat fd.toNat (isT ft))

/-- VSHLI (R135). -/
def execVshli (fi : BitVec 5) (fa : BitVec 7) (fd : BitVec 7) (ft : BitVec 1) (s : State) : Out :=
  issue (.vshli fi fa fd ft) s (opV1 (fun a => a <<< fi.toNat) fa.toNat fd.toNat (isT ft))

/-- VSHRLI (R135). -/
def execVshrli (fi : BitVec 5) (fa : BitVec 7) (fd : BitVec 7) (ft : BitVec 1) (s : State) : Out :=
  issue (.vshrli fi fa fd ft) s (opV1 (fun a => a >>> fi.toNat) fa.toNat fd.toNat (isT ft))

/-- VSHRAI (R135). -/
def execVshrai (fi : BitVec 5) (fa : BitVec 7) (fd : BitVec 7) (ft : BitVec 1) (s : State) : Out :=
  issue (.vshrai fi fa fd ft) s (opV1 (fun a => a.sshiftRight fi.toNat) fa.toNat fd.toNat (isT ft))

/-- VANDI (R135). -/
def execVandi (fi : BitVec 7) (fa : BitVec 7) (fd : BitVec 7) (ft : BitVec 1) (s : State) : Out :=
  issue (.vandi fi fa fd ft) s (opV1 (fun a => a &&& simm32 fi) fa.toNat fd.toNat (isT ft))

/-- VORI (R135). -/
def execVori (fi : BitVec 7) (fa : BitVec 7) (fd : BitVec 7) (ft : BitVec 1) (s : State) : Out :=
  issue (.vori fi fa fd ft) s (opV1 (fun a => a ||| simm32 fi) fa.toNat fd.toNat (isT ft))

/-- VXORI (R135). -/
def execVxori (fi : BitVec 7) (fa : BitVec 7) (fd : BitVec 7) (ft : BitVec 1) (s : State) : Out :=
  issue (.vxori fi fa fd ft) s (opV1 (fun a => a ^^^ simm32 fi) fa.toNat fd.toNat (isT ft))

/-- VMULI (R135). -/
def execVmuli (fi : BitVec 7) (fa : BitVec 7) (fd : BitVec 7) (ft : BitVec 1) (s : State) : Out :=
  issue (.vmuli fi fa fd ft) s (opV1 (fun a => a * simm32 fi) fa.toNat fd.toNat (isT ft))

/-- VMOVI (R136). -/
def execVmovi (fi : BitVec 17) (fd : BitVec 7) (ft : BitVec 1) (s : State) : Out :=
  issue (.vmovi fi fd ft) s (fun p => .ok (p.setV (isT ft) fd.toNat fun _ => simm32 fi))

/-- VMOVS (R137). -/
def execVmovs (fa : BitVec 6) (fd : BitVec 7) (ft : BitVec 1) (s : State) : Out :=
  issue (.vmovs fa fd ft) s (opVmovs false fa.toNat fd.toNat (isT ft))

/-- VMOVSH (R137). -/
def execVmovsh (fa : BitVec 6) (fd : BitVec 7) (ft : BitVec 1) (s : State) : Out :=
  issue (.vmovsh fa fd ft) s (opVmovs true fa.toNat fd.toNat (isT ft))

/-- VLANE (R137). -/
def execVlane (fd : BitVec 7) (ft : BitVec 1) (s : State) : Out :=
  issue (.vlane fd ft) s (fun p => .ok (p.setV (isT ft) fd.toNat fun l => BitVec.ofNat 32 l))

/-- VGETL (R137). -/
def execVgetl (fb : BitVec 6) (fa : BitVec 7) (fd : BitVec 6) (ft : BitVec 1) (s : State) : Out :=
  issue (.vgetl fb fa fd ft) s (opVgetl fb.toNat fa.toNat fd.toNat (isT ft))

/-- VSETL (R137). -/
def execVsetl (fb : BitVec 6) (fa : BitVec 6) (fd : BitVec 7) (ft : BitVec 1) (s : State) : Out :=
  issue (.vsetl fb fa fd ft) s (opVsetl fb.toNat fa.toNat fd.toNat (isT ft))

/-- VCMP (R138). -/
def execVcmp (fc : BitVec 3) (fb : BitVec 7) (fa : BitVec 7) (fd : BitVec 6) (ft : BitVec 1) (s : State) : Out :=
  issue (.vcmp fc fb fa fd ft) s (opVcmp fc.toNat fb.toNat fa.toNat fd.toNat (isT ft))

/-- VSEL (R139). -/
def execVsel (fm : BitVec 3) (fb : BitVec 7) (fa : BitVec 7) (fd : BitVec 7) (ft : BitVec 1) (s : State) : Out :=
  issue (.vsel fm fb fa fd ft) s (opVsel fm.toNat fb.toNat fa.toNat fd.toNat (isT ft))

/-- VBFXU (R140). -/
def execVbfxu (fw : BitVec 5) (fo : BitVec 5) (fa : BitVec 7) (fd : BitVec 7) (ft : BitVec 1) (s : State) : Out :=
  issue (.vbfxu fw fo fa fd ft) s (opV1 (fun a => BitVec.ofNat 32 (bfxu 32 fw.toNat fo.toNat a.toNat)) fa.toNat fd.toNat (isT ft))

/-- VBFX (R140). -/
def execVbfx (fw : BitVec 5) (fo : BitVec 5) (fa : BitVec 7) (fd : BitVec 7) (ft : BitVec 1) (s : State) : Out :=
  issue (.vbfx fw fo fa fd ft) s (opV1 (fun a => BitVec.ofInt 32 (bfx 32 fw.toNat fo.toNat a.toNat)) fa.toNat fd.toNat (isT ft))

/-- VBFI (R140). -/
def execVbfi (fw : BitVec 5) (fo : BitVec 5) (fa : BitVec 7) (fd : BitVec 7) (ft : BitVec 1) (s : State) : Out :=
  issue (.vbfi fw fo fa fd ft) s (opV3 (fun a _ c => BitVec.ofNat 32 (bfi 32 fw.toNat fo.toNat a.toNat c.toNat)) fa.toNat fa.toNat fd.toNat (isT ft))

/-- VPKB (R142). -/
def execVpkb (fb : BitVec 7) (fa : BitVec 7) (fd : BitVec 7) (ft : BitVec 1) (s : State) : Out :=
  issue (.vpkb fb fa fd ft) s (opV3 (fun a b c => BitVec.ofNat 32 (c.toNat / 2 ^ 16 * 2 ^ 16 + b.toNat % 256 * 256 + a.toNat % 256)) fb.toNat fa.toNat fd.toNat (isT ft))

/-- VPKBH (R142). -/
def execVpkbh (fb : BitVec 7) (fa : BitVec 7) (fd : BitVec 7) (ft : BitVec 1) (s : State) : Out :=
  issue (.vpkbh fb fa fd ft) s (opV3 (fun a b c => BitVec.ofNat 32 (b.toNat % 256 * 2 ^ 24 + a.toNat % 256 * 2 ^ 16 + c.toNat % 2 ^ 16)) fb.toNat fa.toNat fd.toNat (isT ft))

end Sys2Proof.Machine
end

