-- ==== Sys2Proof/Machine/Scalar.lean ====
section
/-! DEFINITION. Scalar arithmetic: 64-bit operations once per part, whatever its activity mask (04 R101 to R105). -/

namespace Sys2Proof.Machine

/-- A function of sa and sb (04 R102). -/
def opS2 (f : Word64 → Word64 → Word64) (b a d : Nat) (p : Spec) : Res := .ok (p.setS false d (f (p.sreg a) (p.sreg b)))

/-- A function of sa (04 R102 to R104). -/
def opS1 (f : Word64 → Word64) (a d : Nat) (p : Spec) : Res := .ok (p.setS false d (f (p.sreg a)))

/-- The shift amount b[5:0]. -/
def amt64 (b : Word64) : Nat := b.toNat % 64

/-- 1 when a relation holds, else 0 (04 R102). -/
def bool64 (b : Bool) : Word64 := if b then 1 else 0

/-- Bits 127 to 64 of the signed product. -/
def mulHi64 (a b : Word64) : Word64 := BitVec.ofInt 64 (a.toInt * b.toInt / 18446744073709551616)

/-- Bits 127 to 64 of the unsigned product. -/
def mulHiU64 (a b : Word64) : Word64 := BitVec.ofNat 64 (a.toNat * b.toNat / 18446744073709551616)

/-- SBFI: writes the part of the field that fits (04 R105). -/
def opSbfi (w off a d : Nat) (p : Spec) : Res :=
  .ok (p.setS false d (BitVec.ofNat 64 (bfi 64 w off (p.sreg a).toNat (p.sreg d).toNat)))

/-! ## Meanings -/

/-- SADD (R102). -/
def execSadd (fb : BitVec 6) (fa : BitVec 6) (fd : BitVec 6) (s : State) : Out :=
  issue (.sadd fb fa fd) s (opS2 (fun a b => a + b) fb.toNat fa.toNat fd.toNat)

/-- SSUB (R102). -/
def execSsub (fb : BitVec 6) (fa : BitVec 6) (fd : BitVec 6) (s : State) : Out :=
  issue (.ssub fb fa fd) s (opS2 (fun a b => a - b) fb.toNat fa.toNat fd.toNat)

/-- SMUL (R102). -/
def execSmul (fb : BitVec 6) (fa : BitVec 6) (fd : BitVec 6) (s : State) : Out :=
  issue (.smul fb fa fd) s (opS2 (fun a b => a * b) fb.toNat fa.toNat fd.toNat)

/-- SMULH (R102). -/
def execSmulh (fb : BitVec 6) (fa : BitVec 6) (fd : BitVec 6) (s : State) : Out :=
  issue (.smulh fb fa fd) s (opS2 (fun a b => mulHi64 a b) fb.toNat fa.toNat fd.toNat)

/-- SMULHU (R102). -/
def execSmulhu (fb : BitVec 6) (fa : BitVec 6) (fd : BitVec 6) (s : State) : Out :=
  issue (.smulhu fb fa fd) s (opS2 (fun a b => mulHiU64 a b) fb.toNat fa.toNat fd.toNat)

/-- SAND (R102). -/
def execSand (fb : BitVec 6) (fa : BitVec 6) (fd : BitVec 6) (s : State) : Out :=
  issue (.sand fb fa fd) s (opS2 (fun a b => a &&& b) fb.toNat fa.toNat fd.toNat)

/-- SOR (R102). -/
def execSor (fb : BitVec 6) (fa : BitVec 6) (fd : BitVec 6) (s : State) : Out :=
  issue (.sor fb fa fd) s (opS2 (fun a b => a ||| b) fb.toNat fa.toNat fd.toNat)

/-- SXOR (R102). -/
def execSxor (fb : BitVec 6) (fa : BitVec 6) (fd : BitVec 6) (s : State) : Out :=
  issue (.sxor fb fa fd) s (opS2 (fun a b => a ^^^ b) fb.toNat fa.toNat fd.toNat)

/-- SANDN (R102). -/
def execSandn (fb : BitVec 6) (fa : BitVec 6) (fd : BitVec 6) (s : State) : Out :=
  issue (.sandn fb fa fd) s (opS2 (fun a b => a &&& ~~~b) fb.toNat fa.toNat fd.toNat)

/-- SSHL (R102). -/
def execSshl (fb : BitVec 6) (fa : BitVec 6) (fd : BitVec 6) (s : State) : Out :=
  issue (.sshl fb fa fd) s (opS2 (fun a b => a <<< amt64 b) fb.toNat fa.toNat fd.toNat)

/-- SSHRL (R102). -/
def execSshrl (fb : BitVec 6) (fa : BitVec 6) (fd : BitVec 6) (s : State) : Out :=
  issue (.sshrl fb fa fd) s (opS2 (fun a b => a >>> amt64 b) fb.toNat fa.toNat fd.toNat)

/-- SSHRA (R102). -/
def execSshra (fb : BitVec 6) (fa : BitVec 6) (fd : BitVec 6) (s : State) : Out :=
  issue (.sshra fb fa fd) s (opS2 (fun a b => a.sshiftRight (amt64 b)) fb.toNat fa.toNat fd.toNat)

/-- SMIN (R102). -/
def execSmin (fb : BitVec 6) (fa : BitVec 6) (fd : BitVec 6) (s : State) : Out :=
  issue (.smin fb fa fd) s (opS2 (fun a b => if b.toInt < a.toInt then b else a) fb.toNat fa.toNat fd.toNat)

/-- SMAX (R102). -/
def execSmax (fb : BitVec 6) (fa : BitVec 6) (fd : BitVec 6) (s : State) : Out :=
  issue (.smax fb fa fd) s (opS2 (fun a b => if a.toInt < b.toInt then b else a) fb.toNat fa.toNat fd.toNat)

/-- SMINU (R102). -/
def execSminu (fb : BitVec 6) (fa : BitVec 6) (fd : BitVec 6) (s : State) : Out :=
  issue (.sminu fb fa fd) s (opS2 (fun a b => if b.toNat < a.toNat then b else a) fb.toNat fa.toNat fd.toNat)

/-- SMAXU (R102). -/
def execSmaxu (fb : BitVec 6) (fa : BitVec 6) (fd : BitVec 6) (s : State) : Out :=
  issue (.smaxu fb fa fd) s (opS2 (fun a b => if a.toNat < b.toNat then b else a) fb.toNat fa.toNat fd.toNat)

/-- SSEQ (R102). -/
def execSseq (fb : BitVec 6) (fa : BitVec 6) (fd : BitVec 6) (s : State) : Out :=
  issue (.sseq fb fa fd) s (opS2 (fun a b => bool64 (a == b)) fb.toNat fa.toNat fd.toNat)

/-- SSNE (R102). -/
def execSsne (fb : BitVec 6) (fa : BitVec 6) (fd : BitVec 6) (s : State) : Out :=
  issue (.ssne fb fa fd) s (opS2 (fun a b => bool64 (a != b)) fb.toNat fa.toNat fd.toNat)

/-- SSLT (R102). -/
def execSslt (fb : BitVec 6) (fa : BitVec 6) (fd : BitVec 6) (s : State) : Out :=
  issue (.sslt fb fa fd) s (opS2 (fun a b => bool64 (decide (a.toInt < b.toInt))) fb.toNat fa.toNat fd.toNat)

/-- SSLTU (R102). -/
def execSsltu (fb : BitVec 6) (fa : BitVec 6) (fd : BitVec 6) (s : State) : Out :=
  issue (.ssltu fb fa fd) s (opS2 (fun a b => bool64 (decide (a.toNat < b.toNat))) fb.toNat fa.toNat fd.toNat)

/-- SSLE (R102). -/
def execSsle (fb : BitVec 6) (fa : BitVec 6) (fd : BitVec 6) (s : State) : Out :=
  issue (.ssle fb fa fd) s (opS2 (fun a b => bool64 (decide (a.toInt ≤ b.toInt))) fb.toNat fa.toNat fd.toNat)

/-- SSLEU (R102). -/
def execSsleu (fb : BitVec 6) (fa : BitVec 6) (fd : BitVec 6) (s : State) : Out :=
  issue (.ssleu fb fa fd) s (opS2 (fun a b => bool64 (decide (a.toNat ≤ b.toNat))) fb.toNat fa.toNat fd.toNat)

/-- SLEA2 (R102). -/
def execSlea2 (fb : BitVec 6) (fa : BitVec 6) (fd : BitVec 6) (s : State) : Out :=
  issue (.slea2 fb fa fd) s (opS2 (fun a b => a + b <<< 2) fb.toNat fa.toNat fd.toNat)

/-- SLEA3 (R102). -/
def execSlea3 (fb : BitVec 6) (fa : BitVec 6) (fd : BitVec 6) (s : State) : Out :=
  issue (.slea3 fb fa fd) s (opS2 (fun a b => a + b <<< 3) fb.toNat fa.toNat fd.toNat)

/-- SPOPC (R102). -/
def execSpopc (fa : BitVec 6) (fd : BitVec 6) (s : State) : Out :=
  issue (.spopc fa fd) s (opS1 (fun a => BitVec.ofNat 64 (popcount a)) fa.toNat fd.toNat)

/-- SCLZ (R102). -/
def execSclz (fa : BitVec 6) (fd : BitVec 6) (s : State) : Out :=
  issue (.sclz fa fd) s (opS1 (fun a => BitVec.ofNat 64 (clz a)) fa.toNat fd.toNat)

/-- SCTZ (R102). -/
def execSctz (fa : BitVec 6) (fd : BitVec 6) (s : State) : Out :=
  issue (.sctz fa fd) s (opS1 (fun a => BitVec.ofNat 64 (ctz a)) fa.toNat fd.toNat)

/-- SBREV (R102). -/
def execSbrev (fa : BitVec 6) (fd : BitVec 6) (s : State) : Out :=
  issue (.sbrev fa fd) s (opS1 (fun a => brev a) fa.toNat fd.toNat)

/-- SMOV (R102). -/
def execSmov (fa : BitVec 6) (fd : BitVec 6) (s : State) : Out :=
  issue (.smov fa fd) s (opS1 (fun a => a) fa.toNat fd.toNat)

/-- SADDI (R103). -/
def execSaddi (fi : BitVec 13) (fa : BitVec 6) (fd : BitVec 6) (s : State) : Out :=
  issue (.saddi fi fa fd) s (opS1 (fun a => a + simm64 fi) fa.toNat fd.toNat)

/-- SANDI (R103). -/
def execSandi (fi : BitVec 10) (fa : BitVec 6) (fd : BitVec 6) (s : State) : Out :=
  issue (.sandi fi fa fd) s (opS1 (fun a => a &&& simm64 fi) fa.toNat fd.toNat)

/-- SORI (R103). -/
def execSori (fi : BitVec 10) (fa : BitVec 6) (fd : BitVec 6) (s : State) : Out :=
  issue (.sori fi fa fd) s (opS1 (fun a => a ||| simm64 fi) fa.toNat fd.toNat)

/-- SXORI (R103). -/
def execSxori (fi : BitVec 10) (fa : BitVec 6) (fd : BitVec 6) (s : State) : Out :=
  issue (.sxori fi fa fd) s (opS1 (fun a => a ^^^ simm64 fi) fa.toNat fd.toNat)

/-- SSHLI (R103). -/
def execSshli (fi : BitVec 6) (fa : BitVec 6) (fd : BitVec 6) (s : State) : Out :=
  issue (.sshli fi fa fd) s (opS1 (fun a => a <<< fi.toNat) fa.toNat fd.toNat)

/-- SSHRLI (R103). -/
def execSshrli (fi : BitVec 6) (fa : BitVec 6) (fd : BitVec 6) (s : State) : Out :=
  issue (.sshrli fi fa fd) s (opS1 (fun a => a >>> fi.toNat) fa.toNat fd.toNat)

/-- SSHRAI (R103). -/
def execSshrai (fi : BitVec 6) (fa : BitVec 6) (fd : BitVec 6) (s : State) : Out :=
  issue (.sshrai fi fa fd) s (opS1 (fun a => a.sshiftRight fi.toNat) fa.toNat fd.toNat)

/-- SSLTI (R103). -/
def execSslti (fi : BitVec 10) (fa : BitVec 6) (fd : BitVec 6) (s : State) : Out :=
  issue (.sslti fi fa fd) s (opS1 (fun a => bool64 (decide (a.toInt < (simm64 fi).toInt))) fa.toNat fd.toNat)

/-- SMULI (R103). -/
def execSmuli (fi : BitVec 10) (fa : BitVec 6) (fd : BitVec 6) (s : State) : Out :=
  issue (.smuli fi fa fd) s (opS1 (fun a => a * simm64 fi) fa.toNat fd.toNat)

/-- SBFXU (R105). -/
def execSbfxu (fw : BitVec 7) (fo : BitVec 6) (fa : BitVec 6) (fd : BitVec 6) (s : State) : Out :=
  issue (.sbfxu fw fo fa fd) s (opS1 (fun a => BitVec.ofNat 64 (bfxu 64 fw.toNat fo.toNat a.toNat)) fa.toNat fd.toNat)

/-- SBFX (R105). -/
def execSbfx (fw : BitVec 7) (fo : BitVec 6) (fa : BitVec 6) (fd : BitVec 6) (s : State) : Out :=
  issue (.sbfx fw fo fa fd) s (opS1 (fun a => BitVec.ofInt 64 (bfx 64 fw.toNat fo.toNat a.toNat)) fa.toNat fd.toNat)

/-- SBFI (R105). -/
def execSbfi (fw : BitVec 7) (fo : BitVec 6) (fa : BitVec 6) (fd : BitVec 6) (s : State) : Out :=
  issue (.sbfi fw fo fa fd) s (opSbfi fw.toNat fo.toNat fa.toNat fd.toNat)

/-- SINSH (R104). -/
def execSinsh (fi : BitVec 16) (fp : BitVec 2) (fd : BitVec 6) (s : State) : Out :=
  issue (.sinsh fi fp fd) s (opS1 (fun a => putBits a (16 * fp.toNat + 15) (16 * fp.toNat) fi.toNat) fd.toNat fd.toNat)

/-- SMOVH (R104). -/
def execSmovh (fi : BitVec 16) (fp : BitVec 2) (fd : BitVec 6) (s : State) : Out :=
  issue (.smovh fi fp fd) s (opS1 (fun _ => simm64 fi <<< (16 * fp.toNat)) fd.toNat fd.toNat)

end Sys2Proof.Machine
end

