-- ==== Sys2Proof/Machine/Stall.lean ====
section
/-! DEFINITION. Stall classes, stall samples, and what one cycle of the arithmetic clock changes by itself (04 R112, R120, R128;
09 R226 to R228, R245, R249; 13 R331; 14 R336, R340, R342). -/

namespace Sys2Proof.Machine

/-! ## Stall classes (14 R340) -/

/-- The counter of a reason to be held at commit (log entry 27 for the reasons the table does not list). -/
def HoldReason.stall (r : HoldReason) : Nat :=
  match r with
  | .flag _ => 0
  | .taskQueue => 3
  | .launchFull => 3
  | .copyFull => 3
  | .fence _ => 4
  | .waitb _ => 4
  | .bfence => 4
  | .barwait _ _ _ => 4
  | .gbar _ => 4
  | .board _ _ => 4
  | .line => 4
  | .child => 4
  | .walk => 4
  | .matrixFull => 5
  | .chartLimit => 5
  | .record _ => 5
  | .tile _ => 5
  | .bmvLimit => 5
  | .partner => 5

/-- The counter of a part that stands at its header (log entry 27 where the clause is not there yet). -/
def Header.stall (h : Header) : Nat :=
  match h with
  | .flags => 0
  | .fuse => 1
  | .join => 2
  | .allot => 3
  | .tension => 7
  | .write => 4
  | .asleep => 9
  | .ready => 6
  | .walk => 6
  | .trap _ => 6

/-- Whether a part is halted: its wave stops or is stopped and it stands at a header, or a pre-emption has stopped it (09 R223). -/
def Device.haltedPart (d : Device) (w : Wave) (q : Part) : Bool := d.stoppedAt w q && q.stands

/-- The counter that a part adds to; none for a halted one. -/
def Device.stallClass (d : Device) (wid : Nat) (w : Wave) (q : Part) : Option Nat :=
  if d.haltedPart w q then none
  else
    match q.phase with
    | .held r => some r.stall
    | .issuing _ => some (if d.clk.cycle < q.issueEnd then 8 else 6)
    | .header => some (headerOf d wid w q).1.stall

/-! ## Stall samples (14 R342) -/

/-- State code of a part (09 R223): one that is halted keeps the state that its trap record gives it (09 R231). -/
def Device.stateNow (d : Device) (wid : Nat) (w : Wave) (q : Part) : Nat :=
  if d.haltedPart w q then d.stateCode wid w q (match w.halt with | some h => h.raiser == some (lowQuad q.quads) | none => false)
  else
    match q.phase with
    | .header => (match (headerOf d wid w q).1 with | .flags => 3 | .join => 1 | .fuse => 2 | _ => 0)
    | _ => 0

/-- The clause a part has started, or stands at. -/
def Device.clauseAt (d : Device) (w : Wave) (q : Part) : Option Clause :=
  match q.clause with
  | some c => some c
  | none => match (fetchClause d .unit w.core (d.spaceOf w.launch) q.pc).1 with | .ok c => some c | .error _ => none

/-- Position and slot of the instruction blamed for a wait on flags. -/
def Device.blameOf (d : Device) (w : Wave) (q : Part) : Option (Word64 × Nat) :=
  (d.clauseAt w q).bind fun c =>
    let set (k : Nat) : List Nat := c.waits.filter fun f => decide (0 < w.flag k f)
    ((quadsOf q.quads).find? fun k => !(set k).isEmpty).bind fun k => w.blame.get? (fkey k ((set k).headD 0))

/-- The 48 bytes of a sample of a part. -/
def sampleRecord (d : Device) (wid : Nat) (w : Wave) (q : Part) : List Byte :=
  let sp := d.spaceOf w.launch
  let cls := (d.stallClass wid w q).getD 10
  let blame := if cls = 0 then d.blameOf w q else none
  wordBytes [BitVec.ofNat 64 d.clk.ns, BitVec.ofNat 64 (w.core * 2 ^ 54 + w.index * 2 ^ 48 + w.launch % 2 ^ 48),
    BitVec.ofNat 64 ((blame.map (·.2)).getD 0 % 8 * 2 ^ 56 + b2n blame.isSome * 2 ^ 55 + d.stateNow wid w q * 2 ^ 52 + cls * 2 ^ 48 +
      q.quads.toNat * 2 ^ 32 + d.groupIndex w),
    position d sp q.pc, (blame.map fun b => position d sp b.1).getD 0, objIdent d sp q.pc]

/-- Resident parts of a function's launches on a core, with their ages. -/
def Device.sampleable (d : Device) (core fn : Nat) : List (Nat × Nat × Wave × Part) :=
  d.waves.flatMap fun w =>
    if decide (w.2.core = core) && w.2.occupies && decide ((d.spaceOf w.2.launch).1 = fn) then
      w.2.live.map fun q => (d.ageOf w.2 q, w.1, w.2, q) else []

/-- The entry of least age. -/
def youngestAge (l : List (Nat × Nat × Wave × Part)) : Option (Nat × Nat × Wave × Part) :=
  l.foldl (fun r x => match r with
    | none => some x
    | some y => if x.1 < y.1 then some x else some y) none

/-- The part whose turn it is after the one of an age. -/
def nextSample (l : List (Nat × Nat × Wave × Part)) (last : Nat) : Option (Nat × Nat × Wave × Part) :=
  (youngestAge (l.filter fun x => decide (last ≤ x.1))).orElse fun _ => youngestAge l

/-- Writes a sample into a function's ring, or counts it as dropped. -/
def Device.putSample (d : Device) (fn core : Nat) (b : List Byte) : Device :=
  let f := d.fn fn
  let n := 2 ^ bits (f.regs.get 0x2408) 4 0
  let wr := f.regs.get 0x2410
  let lose : Device := d.setFn fn (f.put 0x2420 (f.regs.get 0x2420 + 1))
  if n ≤ (wr - f.regs.get 0x2418).toNat then lose
  else
    match d.storeVa core (fn, 0) (f.regs.get 0x2400 + BitVec.ofNat 64 (48 * (wr.toNat % n))) b d.floor with
    | (none, d1) => let f1 := d1.fn fn; d1.setFn fn (f1.put 0x2410 (wr + 1))
    | (some _, _) => lose

/-- Whether a function samples a core in this cycle and has not done so. -/
def Device.sampleDue (d : Device) (fn core : Nat) : Bool :=
  let f := d.fn fn
  let c := f.regs.get 0x2408
  bit c 31 && decide (d.clk.cycle % 2 ^ bits c 20 16 = 0) && decide (f.sampleCycle.getD core 0 ≠ d.clk.cycle + 1)

/-- A sample of a core for one function. -/
def Device.sampleFn (d : Device) (core fn : Nat) : Device :=
  if !d.sampleDue fn core || (d.core core).stopped || d.clk.stopped then d
  else
    let f := d.fn fn
    match nextSample (d.sampleable core fn) (f.sampled.getD core 0) with
    | none => d
    | some x =>
      let d1 := d.setFn fn { f with sampled := f.sampled.set core (x.1 + 1), sampleCycle := f.sampleCycle.set core (d.clk.cycle + 1) }
      d1.putSample fn core (sampleRecord d x.2.1 x.2.2.1 x.2.2.2)

/-- STALL_SAMPLE: every function that samples takes its sample of a core. -/
def Device.stallSample (d : Device) (core : Nat) : Device := d.fns.foldl (fun d f => d.sampleFn core f.1) d

/-! ## One cycle (13 R331) -/

/-- One cycle less of a count that ends at 1. -/
def countDownOne (n : Nat) : Nat := if 1 < n then n - 1 else n

/-- Limit of a join wait (04 R112). -/
def joinLimit (c : Clause) (joint : Nat) : Option Nat :=
  let k := if c.joinCode = 0 then joint else c.joinCode
  if k = 31 then none else some (2 ^ k)

/-- The ready set's wait after a cycle (09 R226). -/
def splitStep (old : Option (BitVec 16 × Nat × Nat)) (now : Option (BitVec 16)) (limit : Nat) : Option (BitVec 16 × Nat × Nat) :=
  match now with
  | none => none
  | some r =>
    match old with
    | some (r', n, l) => if r = r' then some (r, n + 1, l) else some (r, 1, limit)
    | none => some (r, 1, limit)

/-- A part at its header after a cycle in which a condition stood in its way. One that a write of the clause before keeps has not arrived. The timeout of a join runs once the part waits there, its flags clear:
the manual lets it run from the arrival, which the model takes to be that (04 R112; log entry 87). -/
def waitPart (w : Wave) (q : Part) (h : Header) (c : Clause) : Part :=
  let early := { q with splitWait := none, allotWait := 0 }
  let q := { q with arrived := true }
  match h with
  | .write => early
  | .join => { q with joinWait := some (match q.joinWait with | some (n, l) => (n + 1, l) | none => (1, joinLimit c q.limJoin)), splitWait := none, allotWait := 0 }
  | .fuse => { q with fuseWait := some (match q.fuseWait with | some (n, l) => (n + 1, l) | none => (1, q.limFuse)), splitWait := none, allotWait := 0 }
  | .flags => { q with splitWait := splitStep q.splitWait (missReady w q c) q.limSplit, allotWait := 0 }
  | .allot =>
    { q with splitWait := none, allotWait := q.allotWait + 1 }
  | _ => { q with splitWait := none, allotWait := 0 }

/-- A part after a cycle. The counts of sleep, YIELD, demotion and the scalar copy run on while the wave is halted, the counts of waits do
not (09 R231; log entry 73). -/
def Device.cyclePart (d : Device) (wid : Nat) (w : Wave) (g : Group) (q : Part) : Part :=
  if liveLanes w q.quads = 0 then q
  else
    let q0 := if q.phase = .header then d.meetHeader w g q else q
    let q1 := { q0 with sleep := countDownOne q.sleep, yieldLeft := countDownOne q.yieldLeft, demoted := countDownOne q.demoted,
                        copyWait := countDownOne q.copyWait }
    if decide (q.phase ≠ .header) || d.stoppedAt w q || g.preempt.isSome then q1
    else
      match headerOf d wid w q with
      | (h, some c, _) => waitPart w q1 h c
      | _ => q1

/-- Whether a part waits for ACQUIRE to be granted. -/
def Device.waitsAcquire (d : Device) (wid : Nat) (w : Wave) (q : Part) : Bool :=
  !w.acqGrant && (match d.asking wid w q with | some c => c.hasAcquire && decide (w.cur ≠ w.full) | none => false)

/-- A wave's counters after a cycle (14 R340). -/
def Device.cycleCounters (d : Device) (wid : Nat) (w : Wave) : SMap 64 :=
  let add (m : SMap 64) (k : Nat) : SMap 64 := m.set k (m.get k + 1)
  w.live.foldl (fun m q => match d.stallClass wid w q with | some k => add m k | none => m) (add w.counters 10)

/-- A wave after a cycle of its core. -/
def Device.cycleWave (d : Device) (wid : Nat) (w : Wave) : Wave :=
  match d.groups.get? w.group with
  | none => w
  | some g =>
    if !d.runs w then w
    else
      { w with
        counters := d.cycleCounters wid w
        parts := w.parts.map (d.cyclePart wid w g)
        acqReq := if w.live.any (d.waitsAcquire wid w) then some (w.acqReq.getD 0 + 1) else none
        stepping := w.stepping.map (· - 1) }

/-- A group after a cycle: the age of a pending pre-emption. -/
def Device.cycleGroup (d : Device) (g : Group) : Group :=
  match g.core with
  | some c => if (d.core c).stopped then g else { g with preempt := g.preempt.map (· + 1), preemptHost := g.preemptHost.map (· + 1) }
  | none => g

/-- The clocks after a cycle: 1,000 / MHz nanoseconds later, or one nanosecond where every core is stopped. -/
def Clocks.after (c : Clocks) : Clocks :=
  if c.stopped || decide (c.mhz = 0) then { c with ns := c.ns + 1 }
  else { c with cycle := c.cycle + 1, ns := c.ns + (c.frac + 1000) / c.mhz, frac := (c.frac + 1000) % c.mhz }

/-- What the arithmetic clock changes in one cycle. -/
def Device.cycleWork (d : Device) : Device :=
  if d.clk.stopped then d
  else { d with waves := d.waves.map fun w => (w.1, d.cycleWave w.1 w.2), groups := d.groups.map fun g => (g.1, d.cycleGroup g.2) }

/-- Boot begins after reset (13 R320). -/
def Device.bootBegin (d : Device) : Device := if d.mgmt.devstate = 0 then { d with mgmt := { d.mgmt with devstate := 1 } } else d

/-- One cycle passes: waits are counted, groups that are done leave, and the records of a nanosecond that ends are written. -/
def Device.cycle (d : Device) : Device :=
  let d1 := (d.cycleWork.leaveGroups).tableSettle.bootBegin
  let c := d1.clk.after
  let d2 := if c.ns = d1.clk.ns then d1 else d1.flushTrace
  { d2 with clk := c }

/-! ## Meanings -/

/-- STALL_SAMPLE (R342): operand core. -/
def execStallSample (s : State) : Out := onOne Device.stallSample s

end Sys2Proof.Machine
end

