-- ==== Sys2Proof/Machine/VecCross.lean ====
section
/-! DEFINITION. Cross-lane instructions: shuffles, scans, conflicts, combination, reductions and intersection (02 R69 to R72;
05 R145 to R149). -/

namespace Sys2Proof.Machine

/-- A word taken from another lane in every active lane (05 R146). -/
def opLane (f : Spec → Nat → Nat) (a d : Nat) (t : Bool) (p : Spec) : Res :=
  .ok (p.setV t d fun l => p.xlane a (f p l))

/-- VSWZ's lane index (05 R146). -/
def swz (ctl : Nat) (p : Spec) (l : Nat) : Nat :=
  if ctl / 64 % 2 = 0 then l ^^^ (ctl % 64) else (l + ctl % 64) % p.lanesW

/-- VSCAN.I32 (05 R146). -/
def opScanI (a d : Nat) (t : Bool) (p : Spec) : Res :=
  .ok (p.setV t d fun l => (p.act.filter (· ≤ l)).foldl (fun x j => x + p.vreg a j) 0)

/-- A node of a tree over lanes: its F32 pattern and what was raised, by lane. -/
abbrev NodeV := Nat × List (Nat × Fx)

/-- The active lanes among `n` lanes from `lo`, each with the exceptions given. -/
def blameLanes (p : Spec) (lo n : Nat) (x : Fx) : List (Nat × Fx) :=
  if x = 0 then [] else (p.act.filter fun l => decide (lo ≤ l) && decide (l < lo + n)).map fun l => (l, x)

/-- Node `i` of level `j` of the tree of 02 R69; `term` gives the leaves and `f` combines two children. -/
def treeNode (p : Spec) (f : Nat → Nat → Nat × Fx) (term : Nat → Nat) : Nat → Nat → NodeV
  | 0, i => (term i, [])
  | j + 1, i =>
    let x := treeNode p f term j (2 * i)
    let y := treeNode p f term j (2 * i + 1)
    let r := f x.1 y.1
    (r.1, x.2 ++ y.2 ++ blameLanes p (i * 2 ^ (j + 1)) (2 ^ (j + 1)) r.2)

/-- One addition of a tree or a scan, under a rounding mode and FTZ (02 R69, R70). -/
def addF32 (mode : Nat) (ftz : Bool) (x y : Nat) : Nat × Fx :=
  flushRes ftz (fAdd .f32 mode (val .f32 x) (val .f32 y))

/-- A level-0 term: the lane's value through `ftz`, or the identity of an inactive lane (02 R69). -/
def leafF32 (p : Spec) (a ident l : Nat) : Nat :=
  if p.act.contains l then ftzBits p.ftz (p.vreg a l).toNat else ident

/-- A NaN made canonical (02 R48). -/
def canon32 (b : Nat) : Nat := if (val .f32 b).isNan then Fmt.nan .f32 else b

/-- The sum over `i + 1` lanes from the blocks of its binary decomposition, largest first (02 R70). `k` counts levels down,
`off` is the first lane not yet taken. -/
def scanGo (p : Spec) (a lane n : Nat) : Nat → Nat → Option NodeV → Option NodeV
  | 0, _, acc => acc
  | k + 1, off, acc =>
    if n.testBit k then
      let node := treeNode p (addF32 (p.dyn 0) p.ftz) (leafF32 p a 0) k (off / 2 ^ k)
      let acc' := match acc with
        | none => node
        | some x =>
          let r := addF32 (p.dyn 0) p.ftz x.1 node.1
          (r.1, x.2 ++ node.2 ++ [(lane, r.2)])
      scanGo p a lane n k (off + 2 ^ k) (some acc')
    else scanGo p a lane n k off acc

/-- The scan's sum at a lane. -/
def scanSum (p : Spec) (a l : Nat) : NodeV := (scanGo p a l (l + 1) 7 0 none).getD (0, [])

/-- What an operand that is a signalling NaN raises, also where it is the only term of a sum (02 R48). -/
def termFx (p : Spec) (a l : Nat) : Fx := snanFx [val .f32 (ftzBits p.ftz (p.vreg a l).toNat)]

/-- VSCAN.F32; the prefix of lane 0 has one term and no addition (05 R146; log entry 38). -/
def opScanF (a d : Nat) (t : Bool) (p : Spec) : Res :=
  (p.setV t d fun l => BitVec.ofNat 32 (canon32 (scanSum p a l).1)).raiseFx
    ((p.act.map fun l => (if l = 0 then [(0, termFx p a 0)] else []) ++ (scanSum p a l).2).flatten)

/-- The active lanes that hold a key, ascending (05 R147). -/
def holders (p : Spec) (r : Nat) (key : Word32) : List Nat := p.act.filter fun j => p.vreg r j == key

/-- VCONFLICT (05 R147). -/
def opConflict (a d : Nat) (t : Bool) (p : Spec) : Res :=
  .ok (p.setV t d fun l =>
    let h := holders p a (p.vreg a l)
    BitVec.ofNat 32 (h.length * 2 ^ 16 + (h.filter (· < l)).length * 2 ^ 8 + (h.head?).getD 0))

/-- VCOMBINE.F32's value in a lane and what its additions raise, or its only term (02 R48, R72; 05 R147; log entry 38). -/
def combineF (p : Spec) (a b l : Nat) : Nat × Fx :=
  match holders p b (p.vreg b l) with
  | [] => (0, 0)
  | h :: rest =>
    if h = l then
      rest.foldl (fun x j =>
        let r := addF32 1 p.ftz x.1 (ftzBits p.ftz (p.vreg a j).toNat)
        (r.1, x.2 ||| r.2)) (ftzBits p.ftz (p.vreg a l).toNat, termFx p a l)
    else (0, 0)

/-- VCOMBINE.F32 (05 R146). -/
def opCombineF (b a d : Nat) (t : Bool) (p : Spec) : Res :=
  p.lanesFx t d fun l => (canon32 (combineF p a b l).1, (combineF p a b l).2)

/-- VCOMBINE.I32 (05 R146). -/
def opCombineI (b a d : Nat) (t : Bool) (p : Spec) : Res :=
  .ok (p.setV t d fun l =>
    let h := holders p b (p.vreg b l)
    if h.head? == some l then h.foldl (fun x j => x + p.vreg a j) 0 else 0)

/-- The top node of the tree over the launch width (02 R69). -/
def treeTop (p : Spec) (f : Nat → Nat → Nat × Fx) (term : Nat → Nat) : NodeV := treeNode p f term (p.wav.width + 2) 0

/-- VREDADD.F32 (05 R148). -/
def opRedAddF (a d : Nat) (t : Bool) (p : Spec) : Res :=
  let r := treeTop p (addF32 (p.dyn 0) p.ftz) (leafF32 p a 0)
  (p.setS t d (BitVec.ofNat 64 r.1)).raiseFx r.2

/-- VREDMAX.F32 and VREDMIN.F32 (05 R148). Which lanes a trap of a node reports the manual says for sums alone; the model's choice is the active
lanes under the node, as there (02 R62; log entry 81). -/
def opRedMinMaxF (isMax : Bool) (a d : Nat) (t : Bool) (p : Spec) : Res :=
  let r := treeTop p (minMax .f32 isMax) (leafF32 p a (infBits .f32 isMax))
  (p.setS t d (BitVec.ofNat 64 r.1)).raiseFx r.2

/-- The integer reductions over the active lanes, extended to 64 bits (05 R148). -/
def opRedI (signed : Bool) (f : Word32 → Word32 → Word32) (ident : Word32) (a d : Nat) (t : Bool) (p : Spec) : Res :=
  let r := p.act.foldl (fun x l => f x (p.vreg a l)) ident
  .ok (p.setS t d (if signed then r.signExtend 64 else r.setWidth 64))

/-- Signed maximum. -/
def smax32 (a b : Word32) : Word32 := if a.toInt < b.toInt then b else a

/-- Signed minimum. -/
def smin32 (a b : Word32) : Word32 := if b.toInt < a.toInt then b else a

/-- VISECT (05 R149). -/
def opVisect (b a d : Nat) (t : Bool) (p : Spec) : Res :=
  .ok (p.setV t d fun l =>
    match (holders p b (p.vreg a l)).head? with
    | some k => BitVec.ofNat 32 k
    | none => 0xFFFFFFFF#32)

/-! ## Meanings -/

/-- VSHUF (R146). -/
def execVshuf (fb : BitVec 7) (fa : BitVec 7) (fd : BitVec 7) (ft : BitVec 1) (s : State) : Out :=
  issue (.vshuf fb fa fd ft) s (opLane (fun p l => bits (p.vreg fb.toNat l) 5 0) fa.toNat fd.toNat (isT ft))

/-- VSWZ (R146). -/
def execVswz (fc : BitVec 7) (fa : BitVec 7) (fd : BitVec 7) (ft : BitVec 1) (s : State) : Out :=
  issue (.vswz fc fa fd ft) s (opLane (swz fc.toNat) fa.toNat fd.toNat (isT ft))

/-- VBCAST (R146). -/
def execVbcast (fk : BitVec 6) (fa : BitVec 7) (fd : BitVec 7) (ft : BitVec 1) (s : State) : Out :=
  issue (.vbcast fk fa fd ft) s (opLane (fun _ _ => fk.toNat) fa.toNat fd.toNat (isT ft))

/-- VSCAN_I32 (R146). -/
def execVscanI32 (fa : BitVec 7) (fd : BitVec 7) (ft : BitVec 1) (s : State) : Out :=
  issue (.vscanI32 fa fd ft) s (opScanI fa.toNat fd.toNat (isT ft))

/-- VSCAN_F32 (R70). -/
def execVscanF32 (fa : BitVec 7) (fd : BitVec 7) (ft : BitVec 1) (s : State) : Out :=
  issue (.vscanF32 fa fd ft) s (opScanF fa.toNat fd.toNat (isT ft))

/-- VCONFLICT (R147). -/
def execVconflict (fa : BitVec 7) (fd : BitVec 7) (ft : BitVec 1) (s : State) : Out :=
  issue (.vconflict fa fd ft) s (opConflict fa.toNat fd.toNat (isT ft))

/-- VCOMBINE_F32 (R72). -/
def execVcombineF32 (fb : BitVec 7) (fa : BitVec 7) (fd : BitVec 7) (ft : BitVec 1) (s : State) : Out :=
  issue (.vcombineF32 fb fa fd ft) s (opCombineF fb.toNat fa.toNat fd.toNat (isT ft))

/-- VCOMBINE_I32 (R72). -/
def execVcombineI32 (fb : BitVec 7) (fa : BitVec 7) (fd : BitVec 7) (ft : BitVec 1) (s : State) : Out :=
  issue (.vcombineI32 fb fa fd ft) s (opCombineI fb.toNat fa.toNat fd.toNat (isT ft))

/-- VREDADD_I32 (R148). -/
def execVredaddI32 (fa : BitVec 7) (fd : BitVec 6) (ft : BitVec 1) (s : State) : Out :=
  issue (.vredaddI32 fa fd ft) s (opRedI true (fun a b => a + b) 0 fa.toNat fd.toNat (isT ft))

/-- VREDADD_F32 (R69). -/
def execVredaddF32 (fa : BitVec 7) (fd : BitVec 6) (ft : BitVec 1) (s : State) : Out :=
  issue (.vredaddF32 fa fd ft) s (opRedAddF fa.toNat fd.toNat (isT ft))

/-- VREDMAX_F32 (R148). -/
def execVredmaxF32 (fa : BitVec 7) (fd : BitVec 6) (ft : BitVec 1) (s : State) : Out :=
  issue (.vredmaxF32 fa fd ft) s (opRedMinMaxF true fa.toNat fd.toNat (isT ft))

/-- VREDMIN_F32 (R148). -/
def execVredminF32 (fa : BitVec 7) (fd : BitVec 6) (ft : BitVec 1) (s : State) : Out :=
  issue (.vredminF32 fa fd ft) s (opRedMinMaxF false fa.toNat fd.toNat (isT ft))

/-- VREDMAX_I32 (R148). -/
def execVredmaxI32 (fa : BitVec 7) (fd : BitVec 6) (ft : BitVec 1) (s : State) : Out :=
  issue (.vredmaxI32 fa fd ft) s (opRedI true smax32 0x80000000#32 fa.toNat fd.toNat (isT ft))

/-- VREDMIN_I32 (R148). -/
def execVredminI32 (fa : BitVec 7) (fd : BitVec 6) (ft : BitVec 1) (s : State) : Out :=
  issue (.vredminI32 fa fd ft) s (opRedI true smin32 0x7FFFFFFF#32 fa.toNat fd.toNat (isT ft))

/-- VREDAND (R148). -/
def execVredand (fa : BitVec 7) (fd : BitVec 6) (ft : BitVec 1) (s : State) : Out :=
  issue (.vredand fa fd ft) s (opRedI false (fun a b => a &&& b) 0xFFFFFFFF#32 fa.toNat fd.toNat (isT ft))

/-- VREDOR (R148). -/
def execVredor (fa : BitVec 7) (fd : BitVec 6) (ft : BitVec 1) (s : State) : Out :=
  issue (.vredor fa fd ft) s (opRedI false (fun a b => a ||| b) 0 fa.toNat fd.toNat (isT ft))

/-- VISECT (R149). -/
def execVisect (fb : BitVec 7) (fa : BitVec 7) (fd : BitVec 7) (ft : BitVec 1) (s : State) : Out :=
  issue (.visect fb fa fd ft) s (opVisect fb.toNat fa.toNat fd.toNat (isT ft))

end Sys2Proof.Machine
end

