-- ==== Sys2Proof/Machine/VecFloat.lean ====
section
/-! DEFINITION. Vector floating point: arithmetic, conversion, packing, special functions, minimum and maximum, dot products
and the online softmax (05 R133, R138, R141 to R144, R150 to R152). -/

namespace Sys2Proof.Machine

/-- F32 arithmetic: operands and result pass through `ftz` (05 R133). -/
def opF32 (op r b a d : Nat) (t : Bool) (p : Spec) : Res :=
  p.lanesFx t d fun l => flushRes p.ftz (fpOp op .f32 (p.dyn r) (p.f32v a l) (p.f32v b l) (p.f32v d l))

/-- Two elements of 16 bits, each computed and rounded on its own (05 R133). -/
def opX2 (f : Fmt) (op r b a d : Nat) (t : Bool) (p : Spec) : Res :=
  p.lanesFx t d fun l =>
    let e (i : Nat) : Nat × Fx :=
      fpOp op f (p.dyn r) (val f (elem 16 i (p.vreg a l))) (val f (elem 16 i (p.vreg b l))) (val f (elem 16 i (p.vreg d l)))
    ((pack16 (e 0).1 (e 1).1).toNat, (e 0).2 ||| (e 1).2)

/-- F64 arithmetic on pairs (05 R133). -/
def opF64 (op r b a d : Nat) (t : Bool) (p : Spec) : Res :=
  p.pairsFx t d fun l =>
    fpOp op .f64 (p.dyn r) (val .f64 (p.vpair a l).toNat) (val .f64 (p.vpair b l).toNat) (val .f64 (p.vpair d l).toNat)

/-- VCMPF's relation: whether it holds, and NV (05 R138). -/
def cmpF (cc : Nat) (a b : Num) : Bool × Fx :=
  let u := a.isNan || b.isNan
  let q := snanFx [a, b]
  let c := cmpNum a b
  match cc with
  | 0 => (!u && decide (c = 0), q)
  | 1 => (u || decide (c ≠ 0), q)
  | 2 => (!u && decide (c < 0), fxIf u fxNV)
  | 3 => (!u && decide (c ≤ 0), fxIf u fxNV)
  | 4 => (!u && decide (0 < c), fxIf u fxNV)
  | 5 => (!u && decide (0 ≤ c), fxIf u fxNV)
  | 6 => (u, q)
  | _ => (!u, q)

/-- VCMPF (05 R138). -/
def opVcmpf (cc b a d : Nat) (t : Bool) (p : Spec) : Res :=
  let r (l : Nat) : Bool × Fx := cmpF cc (p.f32v a l) (p.f32v b l)
  (p.setS t d (laneBits p fun l => (r l).1)).raiseFx (p.act.map fun l => (l, (r l).2))

/-- VCVT (05 R141). -/
def opVcvt (sat : Bool) (y x r a d : Nat) (t : Bool) (p : Spec) : Res :=
  let src (l : Nat) : Nat := if x = 7 then (p.vpair a l).toNat else (p.vreg a l).toNat
  let f (l : Nat) : Nat × Fx := convert (cvtTy x) (cvtTy y) (p.dyn r) sat p.ftz (src l)
  if y = 7 then p.pairsFx t d f else p.lanesFx t d f

/-- VPK.F16 and VPK.BF16: no FTZ (05 R142). -/
def opVpk (f : Fmt) (b a d : Nat) (t : Bool) (p : Spec) : Res :=
  p.lanesFx t d fun l =>
    let x := cvtToFloat f (p.dyn 0) false (p.raw32 a l)
    let y := cvtToFloat f (p.dyn 0) false (p.raw32 b l)
    ((pack16 x.1 y.1).toNat, x.2 ||| y.2)

/-- The four unpacking forms: exact, NV for a signalling NaN (05 R142). -/
def opVupk (f : Fmt) (i a d : Nat) (t : Bool) (p : Spec) : Res :=
  p.lanesFx t d fun l => cvtToFloat .f32 1 false (val f (elem 16 i (p.vreg a l)))

/-- VSFU (05 R143). -/
def opVsfu (fn a d : Nat) (t : Bool) (p : Spec) : Res := p.lanesFx t d fun l => sfu fn (p.vreg a l).toNat

/-- VMIN.F32 and VMAX.F32, operands through `ftz` (05 R144). -/
def opMinMaxF32 (isMax : Bool) (b a d : Nat) (t : Bool) (p : Spec) : Res :=
  p.lanesFx t d fun l => minMax .f32 isMax (ftzBits p.ftz (p.vreg a l).toNat) (ftzBits p.ftz (p.vreg b l).toNat)

/-- The packed minimum and maximum forms (05 R144). -/
def opMinMaxX2 (f : Fmt) (isMax : Bool) (b a d : Nat) (t : Bool) (p : Spec) : Res :=
  p.lanesFx t d fun l =>
    let e (i : Nat) : Nat × Fx := minMax f isMax (elem 16 i (p.vreg a l)) (elem 16 i (p.vreg b l))
    ((pack16 (e 0).1 (e 1).1).toNat, (e 0).2 ||| (e 1).2)

/-- VCOPYSIGN.F32 (05 R144). -/
def opCopysign (b a d : Nat) (t : Bool) (p : Spec) : Res :=
  p.lanesFx t d fun l =>
    (ftzBits p.ftz (p.vreg a l).toNat % 2 ^ 31 + (p.vreg b l).toNat / 2 ^ 31 * 2 ^ 31, 0)

/-- The class of an F32 pattern, as a bit number (05 R144). -/
def class32 (b : Nat) : Nat :=
  match val .f32 b with
  | .nan s => if s then 8 else 9
  | .inf s => if s then 0 else 7
  | .fin s m _ =>
    if m = 0 then (if s then 3 else 4)
    else if isSub .f32 b then (if s then 2 else 5)
    else (if s then 1 else 6)

/-- VCLASS.F32 (05 R144). -/
def opClass (a d : Nat) (t : Bool) (p : Spec) : Res :=
  p.lanesFx t d fun l => (2 ^ class32 (ftzBits p.ftz (p.vreg a l).toNat), 0)

/-! ## Dot products (02 R68, 05 R152) -/

/-- The exact sum of products rounded once, then added to the accumulator with a second rounding (02 R68). -/
def dotF (mode : Nat) (ftz : Bool) (as bs : List Num) (c : Num) : Nat × Fx :=
  let ps := List.zipWith mulNum as bs
  let s := xsum mode (ps.map Prod.fst)
  let r := flushRes ftz (roundNum .f32 mode s.1)
  let q := flushRes ftz (fAdd .f32 mode (val .f32 r.1) c)
  (q.1, r.2 ||| q.2 ||| s.2 ||| ps.foldl (fun x y => x ||| y.2) 0 ||| snanFx (as ++ bs))

/-- A floating-point dot product over `n` elements of a format (05 R152). -/
def opDotF (f : Fmt) (n b a d : Nat) (t : Bool) (p : Spec) : Res :=
  p.lanesFx t d fun l =>
    let e (r : Nat) : List Num := (List.range n).map fun i => val f (elem (32 / n) i (p.vreg r l))
    dotF (p.dyn 0) p.ftz (e a) (e b) (p.f32v d l)

/-- VDOT8.Q4X: two quads of each operand, both scales 1 (05 R152). -/
def opDotQ4x (b a d : Nat) (t : Bool) (p : Spec) : Res :=
  p.lanesFx t d fun l =>
    let q (r i : Nat) : List Num × Bool := q4xAt (p.vreg r l).toNat i
    let r := dotF (p.dyn 0) p.ftz ((q a 0).1 ++ (q a 4).1) ((q b 0).1 ++ (q b 4).1) (p.f32v d l)
    (r.1, r.2 ||| fxIf ((q a 0).2 || (q a 4).2 || (q b 0).2 || (q b 4).2) fxFE)

/-- The integer dot products: `n` elements, signed or not, added modulo 2^32 (05 R152). -/
def opDotI (n : Nat) (signed : Bool) (b a d : Nat) (t : Bool) (p : Spec) : Res :=
  .ok (p.setV t d fun l =>
    let e (r i : Nat) : Int :=
      if signed then sextNat (32 / n) (elem (32 / n) i (p.vreg r l)) else (elem (32 / n) i (p.vreg r l) : Nat)
    p.vreg d l + BitVec.ofInt 32 ((List.range n).foldl (fun x i => x + e a i * e b i) 0))

/-! ## Online softmax (05 R150, R151) -/

/-- 2 to the power of a number. -/
def exp2Of : Num → Num
  | .nan s => .nan s
  | .inf s => if s then Num.zero else .inf false
  | .fin s m e => exp2Num s m e

/-- One update of a softmax state: m, s, and the exceptions (05 R150). Of -0 and +0 the larger is +0 here, the model's choice (02 R75; log entry 81). -/
def smxUpd (m s x c : Nat) : Nat × Nat × Fx :=
  let vm := val .f32 m
  let vs := val .f32 s
  let vx := val .f32 x
  let vc := val .f32 c
  let pinf (n : Num) : Bool := n.isInf && !n.neg?
  let ninf (n : Num) : Bool := n.isInf && n.neg?
  if vm.isNan || vs.isNan || vx.isNan || vc.isNan || pinf vm || pinf vx then
    (Fmt.nan .f32, Fmt.nan .f32, snanFx [vm, vs, vx, vc] ||| fxIf (pinf vm || pinf vx) fxNV)
  else if ninf vx || vc.isZero then (m, s, 0)
  else
    let m' := (minMax .f32 true m x).1
    let vm' := val .f32 m'
    let e1 := if ninf vm then (zeroBits .f32 false, (0 : Fx)) else roundNum .f32 1 (exp2Of (addNum 1 vm vm'.negate).1)
    let e2 := roundNum .f32 1 (exp2Of (addNum 1 vx vm'.negate).1)
    let p1 := fMul .f32 1 vs (val .f32 e1.1)
    let p2 := fMul .f32 1 vc (val .f32 e2.1)
    let r := fAdd .f32 1 (val .f32 p1.1) (val .f32 p2.1)
    (m', r.1, e1.2 ||| e2.2 ||| p1.2 ||| p2.2 ||| r.2)

/-- SMXUPD (05 R150). -/
def opSmxupd (b a d : Nat) (t : Bool) (p : Spec) : Res :=
  let r (l : Nat) : Nat × Nat × Fx :=
    smxUpd (p.vreg d l).toNat (p.vreg (d + 1) l).toNat (p.vreg a l).toNat (p.vreg b l).toNat
  (p.setVs t d fun l => [BitVec.ofNat 32 (r l).1, BitVec.ofNat 32 (r l).2.1]).raiseFx (p.act.map fun l => (l, (r l).2.2))

/-- The weight of a logit under a softmax state (05 R151). -/
def smxFin (x m s : Nat) : Nat × Fx :=
  let vx := val .f32 x
  let vm := val .f32 m
  let vs := val .f32 s
  if vx.isNan || vm.isNan || vs.isNan then (Fmt.nan .f32, snanFx [vx, vm, vs])
  else if (vm.isInf && vm.neg?) || vs.isZero then (0, 0)
  else
    let df := addNum 1 vx vm.negate
    let e := roundNum .f32 1 (exp2Of df.1)
    let r := roundNum .f32 1 (divNum (val .f32 e.1) vs)
    (r.1, df.2 ||| e.2 ||| r.2)

/-- SMXFIN (05 R151). -/
def opSmxfin (b a d : Nat) (t : Bool) (p : Spec) : Res :=
  p.lanesFx t d fun l => smxFin (p.vreg a l).toNat (p.vreg b l).toNat (p.vreg (b + 1) l).toNat

/-! ## Meanings -/

/-- VADD_F32 (R133). -/
def execVaddF32 (fr : BitVec 3) (fb : BitVec 7) (fa : BitVec 7) (fd : BitVec 7) (ft : BitVec 1) (s : State) : Out :=
  issue (.vaddF32 fr fb fa fd ft) s (opF32 0 fr.toNat fb.toNat fa.toNat fd.toNat (isT ft))

/-- VADD_F16X2 (R133). -/
def execVaddF16x2 (fr : BitVec 3) (fb : BitVec 7) (fa : BitVec 7) (fd : BitVec 7) (ft : BitVec 1) (s : State) : Out :=
  issue (.vaddF16x2 fr fb fa fd ft) s (opX2 .f16 0 fr.toNat fb.toNat fa.toNat fd.toNat (isT ft))

/-- VADD_BF16X2 (R133). -/
def execVaddBf16x2 (fr : BitVec 3) (fb : BitVec 7) (fa : BitVec 7) (fd : BitVec 7) (ft : BitVec 1) (s : State) : Out :=
  issue (.vaddBf16x2 fr fb fa fd ft) s (opX2 .bf16 0 fr.toNat fb.toNat fa.toNat fd.toNat (isT ft))

/-- VADD_F64 (R133). -/
def execVaddF64 (fr : BitVec 3) (fb : BitVec 7) (fa : BitVec 7) (fd : BitVec 7) (ft : BitVec 1) (s : State) : Out :=
  issue (.vaddF64 fr fb fa fd ft) s (opF64 0 fr.toNat fb.toNat fa.toNat fd.toNat (isT ft))

/-- VSUB_F32 (R133). -/
def execVsubF32 (fr : BitVec 3) (fb : BitVec 7) (fa : BitVec 7) (fd : BitVec 7) (ft : BitVec 1) (s : State) : Out :=
  issue (.vsubF32 fr fb fa fd ft) s (opF32 1 fr.toNat fb.toNat fa.toNat fd.toNat (isT ft))

/-- VSUB_F16X2 (R133). -/
def execVsubF16x2 (fr : BitVec 3) (fb : BitVec 7) (fa : BitVec 7) (fd : BitVec 7) (ft : BitVec 1) (s : State) : Out :=
  issue (.vsubF16x2 fr fb fa fd ft) s (opX2 .f16 1 fr.toNat fb.toNat fa.toNat fd.toNat (isT ft))

/-- VSUB_BF16X2 (R133). -/
def execVsubBf16x2 (fr : BitVec 3) (fb : BitVec 7) (fa : BitVec 7) (fd : BitVec 7) (ft : BitVec 1) (s : State) : Out :=
  issue (.vsubBf16x2 fr fb fa fd ft) s (opX2 .bf16 1 fr.toNat fb.toNat fa.toNat fd.toNat (isT ft))

/-- VSUB_F64 (R133). -/
def execVsubF64 (fr : BitVec 3) (fb : BitVec 7) (fa : BitVec 7) (fd : BitVec 7) (ft : BitVec 1) (s : State) : Out :=
  issue (.vsubF64 fr fb fa fd ft) s (opF64 1 fr.toNat fb.toNat fa.toNat fd.toNat (isT ft))

/-- VMUL_F32 (R133). -/
def execVmulF32 (fr : BitVec 3) (fb : BitVec 7) (fa : BitVec 7) (fd : BitVec 7) (ft : BitVec 1) (s : State) : Out :=
  issue (.vmulF32 fr fb fa fd ft) s (opF32 2 fr.toNat fb.toNat fa.toNat fd.toNat (isT ft))

/-- VMUL_F16X2 (R133). -/
def execVmulF16x2 (fr : BitVec 3) (fb : BitVec 7) (fa : BitVec 7) (fd : BitVec 7) (ft : BitVec 1) (s : State) : Out :=
  issue (.vmulF16x2 fr fb fa fd ft) s (opX2 .f16 2 fr.toNat fb.toNat fa.toNat fd.toNat (isT ft))

/-- VMUL_BF16X2 (R133). -/
def execVmulBf16x2 (fr : BitVec 3) (fb : BitVec 7) (fa : BitVec 7) (fd : BitVec 7) (ft : BitVec 1) (s : State) : Out :=
  issue (.vmulBf16x2 fr fb fa fd ft) s (opX2 .bf16 2 fr.toNat fb.toNat fa.toNat fd.toNat (isT ft))

/-- VMUL_F64 (R133). -/
def execVmulF64 (fr : BitVec 3) (fb : BitVec 7) (fa : BitVec 7) (fd : BitVec 7) (ft : BitVec 1) (s : State) : Out :=
  issue (.vmulF64 fr fb fa fd ft) s (opF64 2 fr.toNat fb.toNat fa.toNat fd.toNat (isT ft))

/-- VFMA_F32 (R133). -/
def execVfmaF32 (fr : BitVec 3) (fb : BitVec 7) (fa : BitVec 7) (fd : BitVec 7) (ft : BitVec 1) (s : State) : Out :=
  issue (.vfmaF32 fr fb fa fd ft) s (opF32 3 fr.toNat fb.toNat fa.toNat fd.toNat (isT ft))

/-- VFMA_F16X2 (R133). -/
def execVfmaF16x2 (fr : BitVec 3) (fb : BitVec 7) (fa : BitVec 7) (fd : BitVec 7) (ft : BitVec 1) (s : State) : Out :=
  issue (.vfmaF16x2 fr fb fa fd ft) s (opX2 .f16 3 fr.toNat fb.toNat fa.toNat fd.toNat (isT ft))

/-- VFMA_BF16X2 (R133). -/
def execVfmaBf16x2 (fr : BitVec 3) (fb : BitVec 7) (fa : BitVec 7) (fd : BitVec 7) (ft : BitVec 1) (s : State) : Out :=
  issue (.vfmaBf16x2 fr fb fa fd ft) s (opX2 .bf16 3 fr.toNat fb.toNat fa.toNat fd.toNat (isT ft))

/-- VFMA_F64 (R133). -/
def execVfmaF64 (fr : BitVec 3) (fb : BitVec 7) (fa : BitVec 7) (fd : BitVec 7) (ft : BitVec 1) (s : State) : Out :=
  issue (.vfmaF64 fr fb fa fd ft) s (opF64 3 fr.toNat fb.toNat fa.toNat fd.toNat (isT ft))

/-- VADD_F32_16 (R86). -/
def execVaddF3216 (fs : BitVec 5) (fd : BitVec 6) (s : State) : Out :=
  issue (.vaddF3216 fs fd) s (opF32 0 0 fs.toNat fd.toNat fd.toNat false)

/-- VSUB_F32_16 (R86). -/
def execVsubF3216 (fs : BitVec 5) (fd : BitVec 6) (s : State) : Out :=
  issue (.vsubF3216 fs fd) s (opF32 1 0 fs.toNat fd.toNat fd.toNat false)

/-- VMUL_F32_16 (R86). -/
def execVmulF3216 (fs : BitVec 5) (fd : BitVec 6) (s : State) : Out :=
  issue (.vmulF3216 fs fd) s (opF32 2 0 fs.toNat fd.toNat fd.toNat false)

/-- VMAX_F32_16 (R86). -/
def execVmaxF3216 (fs : BitVec 5) (fd : BitVec 6) (s : State) : Out :=
  issue (.vmaxF3216 fs fd) s (opMinMaxF32 true fs.toNat fd.toNat fd.toNat false)

/-- VMIN_F32_16 (R86). -/
def execVminF3216 (fs : BitVec 5) (fd : BitVec 6) (s : State) : Out :=
  issue (.vminF3216 fs fd) s (opMinMaxF32 false fs.toNat fd.toNat fd.toNat false)

/-- VCMPF (R138). -/
def execVcmpf (fc : BitVec 3) (fb : BitVec 7) (fa : BitVec 7) (fd : BitVec 6) (ft : BitVec 1) (s : State) : Out :=
  issue (.vcmpf fc fb fa fd ft) s (opVcmpf fc.toNat fb.toNat fa.toNat fd.toNat (isT ft))

/-- VCVT (R141). -/
def execVcvt (fs : BitVec 1) (fy : BitVec 3) (fx : BitVec 3) (fr : BitVec 3) (fa : BitVec 7) (fd : BitVec 7) (ft : BitVec 1) (s : State) : Out :=
  issue (.vcvt fs fy fx fr fa fd ft) s (opVcvt (decide (fs = 1)) fy.toNat fx.toNat fr.toNat fa.toNat fd.toNat (isT ft))

/-- VPK_F16 (R142). -/
def execVpkF16 (fb : BitVec 7) (fa : BitVec 7) (fd : BitVec 7) (ft : BitVec 1) (s : State) : Out :=
  issue (.vpkF16 fb fa fd ft) s (opVpk .f16 fb.toNat fa.toNat fd.toNat (isT ft))

/-- VPK_BF16 (R142). -/
def execVpkBf16 (fb : BitVec 7) (fa : BitVec 7) (fd : BitVec 7) (ft : BitVec 1) (s : State) : Out :=
  issue (.vpkBf16 fb fa fd ft) s (opVpk .bf16 fb.toNat fa.toNat fd.toNat (isT ft))

/-- VUPK_F16L (R142). -/
def execVupkF16l (fa : BitVec 7) (fd : BitVec 7) (ft : BitVec 1) (s : State) : Out :=
  issue (.vupkF16l fa fd ft) s (opVupk .f16 0 fa.toNat fd.toNat (isT ft))

/-- VUPK_F16H (R142). -/
def execVupkF16h (fa : BitVec 7) (fd : BitVec 7) (ft : BitVec 1) (s : State) : Out :=
  issue (.vupkF16h fa fd ft) s (opVupk .f16 1 fa.toNat fd.toNat (isT ft))

/-- VUPK_BF16L (R142). -/
def execVupkBf16l (fa : BitVec 7) (fd : BitVec 7) (ft : BitVec 1) (s : State) : Out :=
  issue (.vupkBf16l fa fd ft) s (opVupk .bf16 0 fa.toNat fd.toNat (isT ft))

/-- VUPK_BF16H (R142). -/
def execVupkBf16h (fa : BitVec 7) (fd : BitVec 7) (ft : BitVec 1) (s : State) : Out :=
  issue (.vupkBf16h fa fd ft) s (opVupk .bf16 1 fa.toNat fd.toNat (isT ft))

/-- VRCP (R143). -/
def execVrcp (fa : BitVec 7) (fd : BitVec 7) (ft : BitVec 1) (s : State) : Out :=
  issue (.vrcp fa fd ft) s (opVsfu 0 fa.toNat fd.toNat (isT ft))

/-- VRSQ (R143). -/
def execVrsq (fa : BitVec 7) (fd : BitVec 7) (ft : BitVec 1) (s : State) : Out :=
  issue (.vrsq fa fd ft) s (opVsfu 1 fa.toNat fd.toNat (isT ft))

/-- VSQRT (R143). -/
def execVsqrt (fa : BitVec 7) (fd : BitVec 7) (ft : BitVec 1) (s : State) : Out :=
  issue (.vsqrt fa fd ft) s (opVsfu 2 fa.toNat fd.toNat (isT ft))

/-- VEXP2 (R143). -/
def execVexp2 (fa : BitVec 7) (fd : BitVec 7) (ft : BitVec 1) (s : State) : Out :=
  issue (.vexp2 fa fd ft) s (opVsfu 3 fa.toNat fd.toNat (isT ft))

/-- VLOG2 (R143). -/
def execVlog2 (fa : BitVec 7) (fd : BitVec 7) (ft : BitVec 1) (s : State) : Out :=
  issue (.vlog2 fa fd ft) s (opVsfu 4 fa.toNat fd.toNat (isT ft))

/-- VSIN (R143). -/
def execVsin (fa : BitVec 7) (fd : BitVec 7) (ft : BitVec 1) (s : State) : Out :=
  issue (.vsin fa fd ft) s (opVsfu 5 fa.toNat fd.toNat (isT ft))

/-- VCOS (R143). -/
def execVcos (fa : BitVec 7) (fd : BitVec 7) (ft : BitVec 1) (s : State) : Out :=
  issue (.vcos fa fd ft) s (opVsfu 6 fa.toNat fd.toNat (isT ft))

/-- VTANH (R143). -/
def execVtanh (fa : BitVec 7) (fd : BitVec 7) (ft : BitVec 1) (s : State) : Out :=
  issue (.vtanh fa fd ft) s (opVsfu 7 fa.toNat fd.toNat (isT ft))

/-- VMIN_F32 (R144). -/
def execVminF32 (fb : BitVec 7) (fa : BitVec 7) (fd : BitVec 7) (ft : BitVec 1) (s : State) : Out :=
  issue (.vminF32 fb fa fd ft) s (opMinMaxF32 false fb.toNat fa.toNat fd.toNat (isT ft))

/-- VMAX_F32 (R144). -/
def execVmaxF32 (fb : BitVec 7) (fa : BitVec 7) (fd : BitVec 7) (ft : BitVec 1) (s : State) : Out :=
  issue (.vmaxF32 fb fa fd ft) s (opMinMaxF32 true fb.toNat fa.toNat fd.toNat (isT ft))

/-- VMIN_F16X2 (R144). -/
def execVminF16x2 (fb : BitVec 7) (fa : BitVec 7) (fd : BitVec 7) (ft : BitVec 1) (s : State) : Out :=
  issue (.vminF16x2 fb fa fd ft) s (opMinMaxX2 .f16 false fb.toNat fa.toNat fd.toNat (isT ft))

/-- VMAX_F16X2 (R144). -/
def execVmaxF16x2 (fb : BitVec 7) (fa : BitVec 7) (fd : BitVec 7) (ft : BitVec 1) (s : State) : Out :=
  issue (.vmaxF16x2 fb fa fd ft) s (opMinMaxX2 .f16 true fb.toNat fa.toNat fd.toNat (isT ft))

/-- VMIN_BF16X2 (R144). -/
def execVminBf16x2 (fb : BitVec 7) (fa : BitVec 7) (fd : BitVec 7) (ft : BitVec 1) (s : State) : Out :=
  issue (.vminBf16x2 fb fa fd ft) s (opMinMaxX2 .bf16 false fb.toNat fa.toNat fd.toNat (isT ft))

/-- VMAX_BF16X2 (R144). -/
def execVmaxBf16x2 (fb : BitVec 7) (fa : BitVec 7) (fd : BitVec 7) (ft : BitVec 1) (s : State) : Out :=
  issue (.vmaxBf16x2 fb fa fd ft) s (opMinMaxX2 .bf16 true fb.toNat fa.toNat fd.toNat (isT ft))

/-- VCOPYSIGN_F32 (R144). -/
def execVcopysignF32 (fb : BitVec 7) (fa : BitVec 7) (fd : BitVec 7) (ft : BitVec 1) (s : State) : Out :=
  issue (.vcopysignF32 fb fa fd ft) s (opCopysign fb.toNat fa.toNat fd.toNat (isT ft))

/-- VCLASS_F32 (R144). -/
def execVclassF32 (fa : BitVec 7) (fd : BitVec 7) (ft : BitVec 1) (s : State) : Out :=
  issue (.vclassF32 fa fd ft) s (opClass fa.toNat fd.toNat (isT ft))

/-- VDOT2_F16 (R152). -/
def execVdot2F16 (fb : BitVec 7) (fa : BitVec 7) (fd : BitVec 7) (ft : BitVec 1) (s : State) : Out :=
  issue (.vdot2F16 fb fa fd ft) s (opDotF .f16 2 fb.toNat fa.toNat fd.toNat (isT ft))

/-- VDOT2_BF16 (R152). -/
def execVdot2Bf16 (fb : BitVec 7) (fa : BitVec 7) (fd : BitVec 7) (ft : BitVec 1) (s : State) : Out :=
  issue (.vdot2Bf16 fb fa fd ft) s (opDotF .bf16 2 fb.toNat fa.toNat fd.toNat (isT ft))

/-- VDOT4_I8 (R152). -/
def execVdot4I8 (fb : BitVec 7) (fa : BitVec 7) (fd : BitVec 7) (ft : BitVec 1) (s : State) : Out :=
  issue (.vdot4I8 fb fa fd ft) s (opDotI 4 true fb.toNat fa.toNat fd.toNat (isT ft))

/-- VDOT4_UI8 (R152). -/
def execVdot4Ui8 (fb : BitVec 7) (fa : BitVec 7) (fd : BitVec 7) (ft : BitVec 1) (s : State) : Out :=
  issue (.vdot4Ui8 fb fa fd ft) s (opDotI 4 false fb.toNat fa.toNat fd.toNat (isT ft))

/-- VDOT4_E4M3 (R152). -/
def execVdot4E4m3 (fb : BitVec 7) (fa : BitVec 7) (fd : BitVec 7) (ft : BitVec 1) (s : State) : Out :=
  issue (.vdot4E4m3 fb fa fd ft) s (opDotF .e4m3 4 fb.toNat fa.toNat fd.toNat (isT ft))

/-- VDOT4_E5M2 (R152). -/
def execVdot4E5m2 (fb : BitVec 7) (fa : BitVec 7) (fd : BitVec 7) (ft : BitVec 1) (s : State) : Out :=
  issue (.vdot4E5m2 fb fa fd ft) s (opDotF .e5m2 4 fb.toNat fa.toNat fd.toNat (isT ft))

/-- VDOT8_Q4X (R152). -/
def execVdot8Q4x (fb : BitVec 7) (fa : BitVec 7) (fd : BitVec 7) (ft : BitVec 1) (s : State) : Out :=
  issue (.vdot8Q4x fb fa fd ft) s (opDotQ4x fb.toNat fa.toNat fd.toNat (isT ft))

/-- VDOT8_I4 (R152). -/
def execVdot8I4 (fb : BitVec 7) (fa : BitVec 7) (fd : BitVec 7) (ft : BitVec 1) (s : State) : Out :=
  issue (.vdot8I4 fb fa fd ft) s (opDotI 8 true fb.toNat fa.toNat fd.toNat (isT ft))

/-- SMXUPD (R150). -/
def execSmxupd (fb : BitVec 7) (fa : BitVec 7) (fd : BitVec 7) (ft : BitVec 1) (s : State) : Out :=
  issue (.smxupd fb fa fd ft) s (opSmxupd fb.toNat fa.toNat fd.toNat (isT ft))

/-- SMXFIN (R151). -/
def execSmxfin (fb : BitVec 7) (fa : BitVec 7) (fd : BitVec 7) (ft : BitVec 1) (s : State) : Out :=
  issue (.smxfin fb fa fd ft) s (opSmxfin fb.toNat fa.toNat fd.toNat (isT ft))

end Sys2Proof.Machine
end

