-- ==== Sys2Proof/Machine/Dispatch.lean ====
section
/-! DEFINITION. One arm per constructor: each instruction's meaning, by one direct call (spec/opcode_table.json). -/

namespace Sys2Proof.Machine

/-- What one instruction does. -/
def exec (i : Instr) (s : State) : Host.Outcome State Fault Refusal :=
  match i with
  | .vmov16 fs fd => Sys2Proof.Machine.execVmov16 fs fd s
  | .vadd16 fs fd => Sys2Proof.Machine.execVadd16 fs fd s
  | .vsub16 fs fd => Sys2Proof.Machine.execVsub16 fs fd s
  | .vmullo16 fs fd => Sys2Proof.Machine.execVmullo16 fs fd s
  | .vand16 fs fd => Sys2Proof.Machine.execVand16 fs fd s
  | .vor16 fs fd => Sys2Proof.Machine.execVor16 fs fd s
  | .vxor16 fs fd => Sys2Proof.Machine.execVxor16 fs fd s
  | .vshl16 fs fd => Sys2Proof.Machine.execVshl16 fs fd s
  | .vshrl16 fs fd => Sys2Proof.Machine.execVshrl16 fs fd s
  | .vshra16 fs fd => Sys2Proof.Machine.execVshra16 fs fd s
  | .vaddF3216 fs fd => Sys2Proof.Machine.execVaddF3216 fs fd s
  | .vsubF3216 fs fd => Sys2Proof.Machine.execVsubF3216 fs fd s
  | .vmulF3216 fs fd => Sys2Proof.Machine.execVmulF3216 fs fd s
  | .vmaxF3216 fs fd => Sys2Proof.Machine.execVmaxF3216 fs fd s
  | .vminF3216 fs fd => Sys2Proof.Machine.execVminF3216 fs fd s
  | .vmax16 fs fd => Sys2Proof.Machine.execVmax16 fs fd s
  | .vaddF32 fr fb fa fd ft => Sys2Proof.Machine.execVaddF32 fr fb fa fd ft s
  | .vsubF32 fr fb fa fd ft => Sys2Proof.Machine.execVsubF32 fr fb fa fd ft s
  | .vmulF32 fr fb fa fd ft => Sys2Proof.Machine.execVmulF32 fr fb fa fd ft s
  | .vfmaF32 fr fb fa fd ft => Sys2Proof.Machine.execVfmaF32 fr fb fa fd ft s
  | .vaddF16x2 fr fb fa fd ft => Sys2Proof.Machine.execVaddF16x2 fr fb fa fd ft s
  | .vsubF16x2 fr fb fa fd ft => Sys2Proof.Machine.execVsubF16x2 fr fb fa fd ft s
  | .vmulF16x2 fr fb fa fd ft => Sys2Proof.Machine.execVmulF16x2 fr fb fa fd ft s
  | .vfmaF16x2 fr fb fa fd ft => Sys2Proof.Machine.execVfmaF16x2 fr fb fa fd ft s
  | .vaddBf16x2 fr fb fa fd ft => Sys2Proof.Machine.execVaddBf16x2 fr fb fa fd ft s
  | .vsubBf16x2 fr fb fa fd ft => Sys2Proof.Machine.execVsubBf16x2 fr fb fa fd ft s
  | .vmulBf16x2 fr fb fa fd ft => Sys2Proof.Machine.execVmulBf16x2 fr fb fa fd ft s
  | .vfmaBf16x2 fr fb fa fd ft => Sys2Proof.Machine.execVfmaBf16x2 fr fb fa fd ft s
  | .vaddF64 fr fb fa fd ft => Sys2Proof.Machine.execVaddF64 fr fb fa fd ft s
  | .vsubF64 fr fb fa fd ft => Sys2Proof.Machine.execVsubF64 fr fb fa fd ft s
  | .vmulF64 fr fb fa fd ft => Sys2Proof.Machine.execVmulF64 fr fb fa fd ft s
  | .vfmaF64 fr fb fa fd ft => Sys2Proof.Machine.execVfmaF64 fr fb fa fd ft s
  | .vadd fb fa fd ft => Sys2Proof.Machine.execVadd fb fa fd ft s
  | .vsub fb fa fd ft => Sys2Proof.Machine.execVsub fb fa fd ft s
  | .vmullo fb fa fd ft => Sys2Proof.Machine.execVmullo fb fa fd ft s
  | .vmulhi fb fa fd ft => Sys2Proof.Machine.execVmulhi fb fa fd ft s
  | .vmulhu fb fa fd ft => Sys2Proof.Machine.execVmulhu fb fa fd ft s
  | .vmad fb fa fd ft => Sys2Proof.Machine.execVmad fb fa fd ft s
  | .vaddsat fb fa fd ft => Sys2Proof.Machine.execVaddsat fb fa fd ft s
  | .vsubsat fb fa fd ft => Sys2Proof.Machine.execVsubsat fb fa fd ft s
  | .vmin fb fa fd ft => Sys2Proof.Machine.execVmin fb fa fd ft s
  | .vmax fb fa fd ft => Sys2Proof.Machine.execVmax fb fa fd ft s
  | .vminu fb fa fd ft => Sys2Proof.Machine.execVminu fb fa fd ft s
  | .vmaxu fb fa fd ft => Sys2Proof.Machine.execVmaxu fb fa fd ft s
  | .vand fb fa fd ft => Sys2Proof.Machine.execVand fb fa fd ft s
  | .vor fb fa fd ft => Sys2Proof.Machine.execVor fb fa fd ft s
  | .vxor fb fa fd ft => Sys2Proof.Machine.execVxor fb fa fd ft s
  | .vandn fb fa fd ft => Sys2Proof.Machine.execVandn fb fa fd ft s
  | .vshl fb fa fd ft => Sys2Proof.Machine.execVshl fb fa fd ft s
  | .vshrl fb fa fd ft => Sys2Proof.Machine.execVshrl fb fa fd ft s
  | .vshra fb fa fd ft => Sys2Proof.Machine.execVshra fb fa fd ft s
  | .vrotl fb fa fd ft => Sys2Proof.Machine.execVrotl fb fa fd ft s
  | .vpopc fa fd ft => Sys2Proof.Machine.execVpopc fa fd ft s
  | .vclz fa fd ft => Sys2Proof.Machine.execVclz fa fd ft s
  | .vbrev fa fd ft => Sys2Proof.Machine.execVbrev fa fd ft s
  | .vabs fa fd ft => Sys2Proof.Machine.execVabs fa fd ft s
  | .vaddi fi fa fd ft => Sys2Proof.Machine.execVaddi fi fa fd ft s
  | .vshli fi fa fd ft => Sys2Proof.Machine.execVshli fi fa fd ft s
  | .vshrli fi fa fd ft => Sys2Proof.Machine.execVshrli fi fa fd ft s
  | .vshrai fi fa fd ft => Sys2Proof.Machine.execVshrai fi fa fd ft s
  | .vandi fi fa fd ft => Sys2Proof.Machine.execVandi fi fa fd ft s
  | .vori fi fa fd ft => Sys2Proof.Machine.execVori fi fa fd ft s
  | .vxori fi fa fd ft => Sys2Proof.Machine.execVxori fi fa fd ft s
  | .vmuli fi fa fd ft => Sys2Proof.Machine.execVmuli fi fa fd ft s
  | .vmovi fi fd ft => Sys2Proof.Machine.execVmovi fi fd ft s
  | .vmovs fa fd ft => Sys2Proof.Machine.execVmovs fa fd ft s
  | .vmovsh fa fd ft => Sys2Proof.Machine.execVmovsh fa fd ft s
  | .vlane fd ft => Sys2Proof.Machine.execVlane fd ft s
  | .vgetl fb fa fd ft => Sys2Proof.Machine.execVgetl fb fa fd ft s
  | .vsetl fb fa fd ft => Sys2Proof.Machine.execVsetl fb fa fd ft s
  | .vcmp fc fb fa fd ft => Sys2Proof.Machine.execVcmp fc fb fa fd ft s
  | .vcmpf fc fb fa fd ft => Sys2Proof.Machine.execVcmpf fc fb fa fd ft s
  | .vsel fm fb fa fd ft => Sys2Proof.Machine.execVsel fm fb fa fd ft s
  | .vbfxu fw fo fa fd ft => Sys2Proof.Machine.execVbfxu fw fo fa fd ft s
  | .vbfx fw fo fa fd ft => Sys2Proof.Machine.execVbfx fw fo fa fd ft s
  | .vbfi fw fo fa fd ft => Sys2Proof.Machine.execVbfi fw fo fa fd ft s
  | .vcvt fs fy fx fr fa fd ft => Sys2Proof.Machine.execVcvt fs fy fx fr fa fd ft s
  | .vpkF16 fb fa fd ft => Sys2Proof.Machine.execVpkF16 fb fa fd ft s
  | .vpkBf16 fb fa fd ft => Sys2Proof.Machine.execVpkBf16 fb fa fd ft s
  | .vpkb fb fa fd ft => Sys2Proof.Machine.execVpkb fb fa fd ft s
  | .vpkbh fb fa fd ft => Sys2Proof.Machine.execVpkbh fb fa fd ft s
  | .vupkF16l fa fd ft => Sys2Proof.Machine.execVupkF16l fa fd ft s
  | .vupkF16h fa fd ft => Sys2Proof.Machine.execVupkF16h fa fd ft s
  | .vupkBf16l fa fd ft => Sys2Proof.Machine.execVupkBf16l fa fd ft s
  | .vupkBf16h fa fd ft => Sys2Proof.Machine.execVupkBf16h fa fd ft s
  | .vrcp fa fd ft => Sys2Proof.Machine.execVrcp fa fd ft s
  | .vrsq fa fd ft => Sys2Proof.Machine.execVrsq fa fd ft s
  | .vsqrt fa fd ft => Sys2Proof.Machine.execVsqrt fa fd ft s
  | .vexp2 fa fd ft => Sys2Proof.Machine.execVexp2 fa fd ft s
  | .vlog2 fa fd ft => Sys2Proof.Machine.execVlog2 fa fd ft s
  | .vsin fa fd ft => Sys2Proof.Machine.execVsin fa fd ft s
  | .vcos fa fd ft => Sys2Proof.Machine.execVcos fa fd ft s
  | .vtanh fa fd ft => Sys2Proof.Machine.execVtanh fa fd ft s
  | .vminF32 fb fa fd ft => Sys2Proof.Machine.execVminF32 fb fa fd ft s
  | .vmaxF32 fb fa fd ft => Sys2Proof.Machine.execVmaxF32 fb fa fd ft s
  | .vminF16x2 fb fa fd ft => Sys2Proof.Machine.execVminF16x2 fb fa fd ft s
  | .vmaxF16x2 fb fa fd ft => Sys2Proof.Machine.execVmaxF16x2 fb fa fd ft s
  | .vminBf16x2 fb fa fd ft => Sys2Proof.Machine.execVminBf16x2 fb fa fd ft s
  | .vmaxBf16x2 fb fa fd ft => Sys2Proof.Machine.execVmaxBf16x2 fb fa fd ft s
  | .vcopysignF32 fb fa fd ft => Sys2Proof.Machine.execVcopysignF32 fb fa fd ft s
  | .vclassF32 fa fd ft => Sys2Proof.Machine.execVclassF32 fa fd ft s
  | .vshuf fb fa fd ft => Sys2Proof.Machine.execVshuf fb fa fd ft s
  | .vswz fc fa fd ft => Sys2Proof.Machine.execVswz fc fa fd ft s
  | .vbcast fk fa fd ft => Sys2Proof.Machine.execVbcast fk fa fd ft s
  | .vscanI32 fa fd ft => Sys2Proof.Machine.execVscanI32 fa fd ft s
  | .vscanF32 fa fd ft => Sys2Proof.Machine.execVscanF32 fa fd ft s
  | .vconflict fa fd ft => Sys2Proof.Machine.execVconflict fa fd ft s
  | .vcombineF32 fb fa fd ft => Sys2Proof.Machine.execVcombineF32 fb fa fd ft s
  | .vcombineI32 fb fa fd ft => Sys2Proof.Machine.execVcombineI32 fb fa fd ft s
  | .vredaddI32 fa fd ft => Sys2Proof.Machine.execVredaddI32 fa fd ft s
  | .vredaddF32 fa fd ft => Sys2Proof.Machine.execVredaddF32 fa fd ft s
  | .vredmaxF32 fa fd ft => Sys2Proof.Machine.execVredmaxF32 fa fd ft s
  | .vredminF32 fa fd ft => Sys2Proof.Machine.execVredminF32 fa fd ft s
  | .vredmaxI32 fa fd ft => Sys2Proof.Machine.execVredmaxI32 fa fd ft s
  | .vredminI32 fa fd ft => Sys2Proof.Machine.execVredminI32 fa fd ft s
  | .vredand fa fd ft => Sys2Proof.Machine.execVredand fa fd ft s
  | .vredor fa fd ft => Sys2Proof.Machine.execVredor fa fd ft s
  | .visect fb fa fd ft => Sys2Proof.Machine.execVisect fb fa fd ft s
  | .smxupd fb fa fd ft => Sys2Proof.Machine.execSmxupd fb fa fd ft s
  | .smxfin fb fa fd ft => Sys2Proof.Machine.execSmxfin fb fa fd ft s
  | .vrand fk fa fd ft => Sys2Proof.Machine.execVrand fk fa fd ft s
  | .vrandu fk fa fd ft => Sys2Proof.Machine.execVrandu fk fa fd ft s
  | .vdot2F16 fb fa fd ft => Sys2Proof.Machine.execVdot2F16 fb fa fd ft s
  | .vdot2Bf16 fb fa fd ft => Sys2Proof.Machine.execVdot2Bf16 fb fa fd ft s
  | .vdot4I8 fb fa fd ft => Sys2Proof.Machine.execVdot4I8 fb fa fd ft s
  | .vdot4Ui8 fb fa fd ft => Sys2Proof.Machine.execVdot4Ui8 fb fa fd ft s
  | .vdot4E4m3 fb fa fd ft => Sys2Proof.Machine.execVdot4E4m3 fb fa fd ft s
  | .vdot4E5m2 fb fa fd ft => Sys2Proof.Machine.execVdot4E5m2 fb fa fd ft s
  | .vdot8Q4x fb fa fd ft => Sys2Proof.Machine.execVdot8Q4x fb fa fd ft s
  | .vdot8I4 fb fa fd ft => Sys2Proof.Machine.execVdot8I4 fb fa fd ft s
  | .rsvinit fq ft => Sys2Proof.Machine.execRsvinit fq ft s
  | .rsvupd fb fa fq ft => Sys2Proof.Machine.execRsvupd fb fa fq ft s
  | .rsvmrg fb fa fq ft => Sys2Proof.Machine.execRsvmrg fb fa fq ft s
  | .rsvfin fq fd ft => Sys2Proof.Machine.execRsvfin fq fd ft s
  | .rsvrd fq fd ft => Sys2Proof.Machine.execRsvrd fq fd ft s
  | .rsvwr fa fq ft => Sys2Proof.Machine.execRsvwr fa fq ft s
  | .raytri fb fa fd ft => Sys2Proof.Machine.execRaytri fb fa fd ft s
  | .raybox fb fa fd ft => Sys2Proof.Machine.execRaybox fb fa fd ft s
  | .mma fz ff fc fs ft fo fa fy fp => Sys2Proof.Machine.execMma fz ff fc fs ft fo fa fy fp s
  | .obres fs fo => Sys2Proof.Machine.execObres fs fo s
  | .obfree fo => Sys2Proof.Machine.execObfree fo s
  | .acczero ft => Sys2Proof.Machine.execAcczero ft s
  | .accrd ff ft fd fs => Sys2Proof.Machine.execAccrd ff ft fd fs s
  | .accwr ft fv fs => Sys2Proof.Machine.execAccwr ft fv fs s
  | .sptile fs fo => Sys2Proof.Machine.execSptile fs fo s
  | .chartpf fp fo => Sys2Proof.Machine.execChartpf fp fo s
  | .chartinv fo => Sys2Proof.Machine.execChartinv fo s
  | .chartq ff fd fp fo => Sys2Proof.Machine.execChartq ff fd fp fo s
  | .talloc fi fu ft => Sys2Proof.Machine.execTalloc fi fu ft s
  | .tfree ft => Sys2Proof.Machine.execTfree ft s
  | .sadd fb fa fd => Sys2Proof.Machine.execSadd fb fa fd s
  | .ssub fb fa fd => Sys2Proof.Machine.execSsub fb fa fd s
  | .smul fb fa fd => Sys2Proof.Machine.execSmul fb fa fd s
  | .smulh fb fa fd => Sys2Proof.Machine.execSmulh fb fa fd s
  | .smulhu fb fa fd => Sys2Proof.Machine.execSmulhu fb fa fd s
  | .sand fb fa fd => Sys2Proof.Machine.execSand fb fa fd s
  | .sor fb fa fd => Sys2Proof.Machine.execSor fb fa fd s
  | .sxor fb fa fd => Sys2Proof.Machine.execSxor fb fa fd s
  | .sandn fb fa fd => Sys2Proof.Machine.execSandn fb fa fd s
  | .sshl fb fa fd => Sys2Proof.Machine.execSshl fb fa fd s
  | .sshrl fb fa fd => Sys2Proof.Machine.execSshrl fb fa fd s
  | .sshra fb fa fd => Sys2Proof.Machine.execSshra fb fa fd s
  | .smin fb fa fd => Sys2Proof.Machine.execSmin fb fa fd s
  | .smax fb fa fd => Sys2Proof.Machine.execSmax fb fa fd s
  | .sminu fb fa fd => Sys2Proof.Machine.execSminu fb fa fd s
  | .smaxu fb fa fd => Sys2Proof.Machine.execSmaxu fb fa fd s
  | .sseq fb fa fd => Sys2Proof.Machine.execSseq fb fa fd s
  | .ssne fb fa fd => Sys2Proof.Machine.execSsne fb fa fd s
  | .sslt fb fa fd => Sys2Proof.Machine.execSslt fb fa fd s
  | .ssltu fb fa fd => Sys2Proof.Machine.execSsltu fb fa fd s
  | .ssle fb fa fd => Sys2Proof.Machine.execSsle fb fa fd s
  | .ssleu fb fa fd => Sys2Proof.Machine.execSsleu fb fa fd s
  | .spopc fa fd => Sys2Proof.Machine.execSpopc fa fd s
  | .sclz fa fd => Sys2Proof.Machine.execSclz fa fd s
  | .sctz fa fd => Sys2Proof.Machine.execSctz fa fd s
  | .sbrev fa fd => Sys2Proof.Machine.execSbrev fa fd s
  | .smov fa fd => Sys2Proof.Machine.execSmov fa fd s
  | .slea2 fb fa fd => Sys2Proof.Machine.execSlea2 fb fa fd s
  | .slea3 fb fa fd => Sys2Proof.Machine.execSlea3 fb fa fd s
  | .saddi fi fa fd => Sys2Proof.Machine.execSaddi fi fa fd s
  | .sandi fi fa fd => Sys2Proof.Machine.execSandi fi fa fd s
  | .sori fi fa fd => Sys2Proof.Machine.execSori fi fa fd s
  | .sxori fi fa fd => Sys2Proof.Machine.execSxori fi fa fd s
  | .sshli fi fa fd => Sys2Proof.Machine.execSshli fi fa fd s
  | .sshrli fi fa fd => Sys2Proof.Machine.execSshrli fi fa fd s
  | .sshrai fi fa fd => Sys2Proof.Machine.execSshrai fi fa fd s
  | .sslti fi fa fd => Sys2Proof.Machine.execSslti fi fa fd s
  | .smuli fi fa fd => Sys2Proof.Machine.execSmuli fi fa fd s
  | .sinsh fi fp fd => Sys2Proof.Machine.execSinsh fi fp fd s
  | .smovh fi fp fd => Sys2Proof.Machine.execSmovh fi fp fd s
  | .sbfxu fw fo fa fd => Sys2Proof.Machine.execSbfxu fw fo fa fd s
  | .sbfx fw fo fa fd => Sys2Proof.Machine.execSbfx fw fo fa fd s
  | .sbfi fw fo fa fd => Sys2Proof.Machine.execSbfi fw fo fa fd s
  | .bra fi => Sys2Proof.Machine.execBra fi s
  | .brnz fi fa => Sys2Proof.Machine.execBrnz fi fa s
  | .brz fi fa => Sys2Proof.Machine.execBrz fi fa s
  | .brm fi fa => Sys2Proof.Machine.execBrm fi fa s
  | .join fc => Sys2Proof.Machine.execJoin fc s
  | .call fi => Sys2Proof.Machine.execCall fi s
  | .callr fa => Sys2Proof.Machine.execCallr fa s
  | .ret fa => Sys2Proof.Machine.execRet fa s
  | .loop fe fa => Sys2Proof.Machine.execLoop fe fa s
  | .loopi fe fn => Sys2Proof.Machine.execLoopi fe fn s
  | .exit => Sys2Proof.Machine.execExit s
  | .trap fi => Sys2Proof.Machine.execTrap fi s
  | .bkpt fi => Sys2Proof.Machine.execBkpt fi s
  | .yield fi => Sys2Proof.Machine.execYield fi s
  | .fuse fw => Sys2Proof.Machine.execFuse fw s
  | .nop => Sys2Proof.Machine.execNop s
  | .sread fd fs => Sys2Proof.Machine.execSread fd fs s
  | .swrite fa fs => Sys2Proof.Machine.execSwrite fa fs s
  | .acquire => Sys2Proof.Machine.execAcquire s
  | .release => Sys2Proof.Machine.execRelease s
  | .tqinit fb fa => Sys2Proof.Machine.execTqinit fb fa s
  | .tqtake fa fd => Sys2Proof.Machine.execTqtake fa fd s
  | .launch fd fa => Sys2Proof.Machine.execLaunch fd fa s
  | .sleep fi => Sys2Proof.Machine.execSleep fi s
  | .gettime fd => Sys2Proof.Machine.execGettime fd s
  | .vld fn fk fz fb fd ff => Sys2Proof.Machine.execVld fn fk fz fb fd ff s
  | .vst fn fk fz fb fs => Sys2Proof.Machine.execVst fn fk fz fb fs s
  | .sld fi fz fa fd => Sys2Proof.Machine.execSld fi fz fa fd s
  | .sst fi fz fa fd => Sys2Proof.Machine.execSst fi fz fa fd s
  | .ldl fi fz fa fd ff => Sys2Proof.Machine.execLdl fi fz fa fd ff s
  | .stl fi fz fa fs => Sys2Proof.Machine.execStl fi fz fa fs s
  | .atoml fo fb fa fd ff => Sys2Proof.Machine.execAtoml fo fb fa fd ff s
  | .atomg fc fz fo fb fa fd ff => Sys2Proof.Machine.execAtomg fc fz fo fb fa fd ff s
  | .atomgv fb fo fk fd ff => Sys2Proof.Machine.execAtomgv fb fo fk fd ff s
  | .fence fk fs => Sys2Proof.Machine.execFence fk fs s
  | .bfence => Sys2Proof.Machine.execBfence s
  | .tcopy fv fb fa => Sys2Proof.Machine.execTcopy fv fb fa s
  | .sealBatch fd => Sys2Proof.Machine.execSealBatch fd s
  | .waitb fa => Sys2Proof.Machine.execWaitb fa s
  | .gather fv fb fa => Sys2Proof.Machine.execGather fv fb fa s
  | .putsig fa => Sys2Proof.Machine.execPutsig fa s
  | .pref fl fn fa => Sys2Proof.Machine.execPref fl fn fa s
  | .barinit fb fa => Sys2Proof.Machine.execBarinit fb fa s
  | .bararr fd fa => Sys2Proof.Machine.execBararr fd fa s
  | .bartx fb fa => Sys2Proof.Machine.execBartx fb fa s
  | .barwait fb fa => Sys2Proof.Machine.execBarwait fb fa s
  | .bartry fd fb fa => Sys2Proof.Machine.execBartry fd fb fa s
  | .gbar fs => Sys2Proof.Machine.execGbar fs s
  | .bmv ff fa => Sys2Proof.Machine.execBmv ff fa s
  | .bmvacc ff fa => Sys2Proof.Machine.execBmvacc ff fa s
  | .bstat ff fa fd => Sys2Proof.Machine.execBstat ff fa fd s
  | .clauseStart => Sys2Proof.Machine.execClauseStart s
  | .commit => Sys2Proof.Machine.execCommit s
  | .heldAtCommitRelease => Sys2Proof.Machine.execHeldAtCommitRelease s
  | .pageWalk => Sys2Proof.Machine.execPageWalk s
  | .longLatencyReturn => Sys2Proof.Machine.execLongLatencyReturn s
  | .accessFailedAfterCommit => Sys2Proof.Machine.execAccessFailedAfterCommit s
  | .issuePick => Sys2Proof.Machine.execIssuePick s
  | .starvationPromote => Sys2Proof.Machine.execStarvationPromote s
  | .spinDemote => Sys2Proof.Machine.execSpinDemote s
  | .spinDemotionExpiry => Sys2Proof.Machine.execSpinDemotionExpiry s
  | .sleepExpiry => Sys2Proof.Machine.execSleepExpiry s
  | .yieldExpiry => Sys2Proof.Machine.execYieldExpiry s
  | .missSplit => Sys2Proof.Machine.execMissSplit s
  | .scalarCopyDone => Sys2Proof.Machine.execScalarCopyDone s
  | .joinFuse => Sys2Proof.Machine.execJoinFuse s
  | .joinTimeout => Sys2Proof.Machine.execJoinTimeout s
  | .joinRelease => Sys2Proof.Machine.execJoinRelease s
  | .widthFuse => Sys2Proof.Machine.execWidthFuse s
  | .fuseTimeout => Sys2Proof.Machine.execFuseTimeout s
  | .allotmentGrant => Sys2Proof.Machine.execAllotmentGrant s
  | .allotmentDeadlockPreempt => Sys2Proof.Machine.execAllotmentDeadlockPreempt s
  | .gbarRelease => Sys2Proof.Machine.execGbarRelease s
  | .trapStop => Sys2Proof.Machine.execTrapStop s
  | .trapRecordWrite => Sys2Proof.Machine.execTrapRecordWrite s
  | .breakpointMatch => Sys2Proof.Machine.execBreakpointMatch s
  | .stepTimeout => Sys2Proof.Machine.execStepTimeout s
  | .waveRetire => Sys2Proof.Machine.execWaveRetire s
  | .matrixQueueHeadStart => Sys2Proof.Machine.execMatrixQueueHeadStart s
  | .mmaArrayStart => Sys2Proof.Machine.execMmaArrayStart s
  | .matrixOpComplete => Sys2Proof.Machine.execMatrixOpComplete s
  | .matrixFlagClear => Sys2Proof.Machine.execMatrixFlagClear s
  | .courseMmaDispatch => Sys2Proof.Machine.execCourseMmaDispatch s
  | .chartCompileStart => Sys2Proof.Machine.execChartCompileStart s
  | .chartCompileEnd => Sys2Proof.Machine.execChartCompileEnd s
  | .copyGranule => Sys2Proof.Machine.execCopyGranule s
  | .copyFailure => Sys2Proof.Machine.execCopyFailure s
  | .gatherElement => Sys2Proof.Machine.execGatherElement s
  | .putsigSignal => Sys2Proof.Machine.execPutsigSignal s
  | .bankUnitGroup => Sys2Proof.Machine.execBankUnitGroup s
  | .bmvComplete => Sys2Proof.Machine.execBmvComplete s
  | .homeSliceStore => Sys2Proof.Machine.execHomeSliceStore s
  | .homeSliceLoad => Sys2Proof.Machine.execHomeSliceLoad s
  | .pulseTick => Sys2Proof.Machine.execPulseTick s
  | .spanLeave => Sys2Proof.Machine.execSpanLeave s
  | .packetAccept => Sys2Proof.Machine.execPacketAccept s
  | .groupAdmit => Sys2Proof.Machine.execGroupAdmit s
  | .launchComplete => Sys2Proof.Machine.execLaunchComplete s
  | .preemptRequest => Sys2Proof.Machine.execPreemptRequest s
  | .preemptSave => Sys2Proof.Machine.execPreemptSave s
  | .preemptFail => Sys2Proof.Machine.execPreemptFail s
  | .groupRestore => Sys2Proof.Machine.execGroupRestore s
  | .qctlWrite => Sys2Proof.Machine.execQctlWrite s
  | .qdoorbellWrite => Sys2Proof.Machine.execQdoorbellWrite s
  | .invcmdWrite => Sys2Proof.Machine.execInvcmdWrite s
  | .invalidationComplete => Sys2Proof.Machine.execInvalidationComplete s
  | .apfaultWrite => Sys2Proof.Machine.execApfaultWrite s
  | .bar2Read => Sys2Proof.Machine.execBar2Read s
  | .bar2Write => Sys2Proof.Machine.execBar2Write s
  | .pulsecfgWrite => Sys2Proof.Machine.execPulsecfgWrite s
  | .pwrcapWrite => Sys2Proof.Machine.execPwrcapWrite s
  | .spanctlWrite => Sys2Proof.Machine.execSpanctlWrite s
  | .cntdataWrite => Sys2Proof.Machine.execCntdataWrite s
  | .registerWrite => Sys2Proof.Machine.execRegisterWrite s
  | .fundamentalReset => Sys2Proof.Machine.execFundamentalReset s
  | .bootComplete => Sys2Proof.Machine.execBootComplete s
  | .functionLevelReset => Sys2Proof.Machine.execFunctionLevelReset s
  | .decodeTableUpdate => Sys2Proof.Machine.execDecodeTableUpdate s
  | .powerWindow => Sys2Proof.Machine.execPowerWindow s
  | .thermalStop => Sys2Proof.Machine.execThermalStop s
  | .wearUpdate => Sys2Proof.Machine.execWearUpdate s
  | .uncorrectableError => Sys2Proof.Machine.execUncorrectableError s
  | .correctedErrorRecord => Sys2Proof.Machine.execCorrectedErrorRecord s
  | .linkReplay => Sys2Proof.Machine.execLinkReplay s
  | .linkOperationFailure => Sys2Proof.Machine.execLinkOperationFailure s
  | .spanRequest => Sys2Proof.Machine.execSpanRequest s
  | .stallSample => Sys2Proof.Machine.execStallSample s
  | .dbgHaltWave => Sys2Proof.Machine.execDbgHaltWave s
  | .dbgHaltGroup => Sys2Proof.Machine.execDbgHaltGroup s
  | .dbgResume => Sys2Proof.Machine.execDbgResume s
  | .dbgStep => Sys2Proof.Machine.execDbgStep s
  | .dbgKillWave => Sys2Proof.Machine.execDbgKillWave s
  | .dbgKillGroup => Sys2Proof.Machine.execDbgKillGroup s
  | .dbgSave => Sys2Proof.Machine.execDbgSave s
  | .dbgInvalidCommand => Sys2Proof.Machine.execDbgInvalidCommand s
  | .getVersion => Sys2Proof.Machine.execGetVersion s
  | .getCapabilities => Sys2Proof.Machine.execGetCapabilities s
  | .negotiateAlgorithms => Sys2Proof.Machine.execNegotiateAlgorithms s
  | .getDigests => Sys2Proof.Machine.execGetDigests s
  | .getCertificate => Sys2Proof.Machine.execGetCertificate s
  | .challenge => Sys2Proof.Machine.execChallenge s
  | .getMeasurements => Sys2Proof.Machine.execGetMeasurements s
  | .storeTimeReturn => Sys2Proof.Machine.execStoreTimeReturn s
  | .tickCompletion => Sys2Proof.Machine.execTickCompletion s
  | .portRetrain => Sys2Proof.Machine.execPortRetrain s
  | .msixVectorUnmask => Sys2Proof.Machine.execMsixVectorUnmask s
  | .coreClockStop => Sys2Proof.Machine.execCoreClockStop s
  | .coreClockRestart => Sys2Proof.Machine.execCoreClockRestart s

end Sys2Proof.Machine
end

