-- ==== Sys2Proof/Machine/Sched.lean ====
section
/-! DEFINITION. Which step the machine takes next when no pass over a clause runs: the inputs that have arrived, then the first
step of the table that changes anything, in one fixed order, then the end of the cycle (09 R224, R233; 14 R338). -/

namespace Sys2Proof.Machine

/-- A step with its operands. -/
abbrev Ev := Instr × List Nat

/-- The state that a step leaves. -/
def ran (e : Ev) (s : State) : State :=
  match exec e.1 { s with arg := e.2 } with
  | .next t => { t with arg := s.arg }
  | _ => s

/-- The first step of a list that changes the state. -/
def firstOf (s : State) : List Ev → Option State
  | [] => none
  | e :: l => let t := ran e s; if t = s then firstOf s l else some t

/-! ## Steps that may be due, by kind -/

namespace Device

/-- A step for every part that has not retired. -/
def perPart (d : Device) (i : Instr) : List Ev :=
  d.waves.flatMap fun w => if w.2.retired then [] else w.2.live.map fun q => (i, [w.1, lowQuad q.quads])

/-- A step for every wave. -/
def perWave (d : Device) (i : Instr) : List Ev := d.waves.filterMap fun w => if w.2.retired then none else some (i, [w.1])

/-- A step for every group. -/
def perGroup (d : Device) (i : Instr) : List Ev := d.groups.map fun g => (i, [g.1])

/-- Cores that hold a group. -/
def busyCores (d : Device) : List Nat := (d.groups.filterMap fun g => g.2.core).eraseDups

/-- A step for every core that holds a group. -/
def perCore (d : Device) (i : Instr) : List Ev := d.busyCores.map fun c => (i, [c])

/-- Issued clauses. -/
def dueCommits (d : Device) : List Ev := if d.nextCommit.isSome then [(.commit, [])] else []

/-- Clauses held at commit. -/
def dueHeld (d : Device) : List Ev := d.perPart .heldAtCommitRelease

/-- Sets at whose GBAR a part is held. -/
def dueGbars (d : Device) : List Ev :=
  (d.waves.flatMap fun w => w.2.live.filterMap fun q =>
    match q.phase with
    | .held (.gbar k) => some (Instr.gbarRelease, [w.2.launch, k])
    | _ => none).eraseDups

/-- Failures of a request: accesses of lost data, which are retried once, of a device of the span to which no port leads, and of an owner that
refuses them. -/
def dueFailures (d : Device) (rid : Nat) (r : Req) : List Ev :=
  (r.accs.flatMap fun a =>
    let quad := if a.lane = 64 then lowQuad r.quads else a.lane / 4
    let f (sub retry : Nat) : Ev := (.accessFailedAfterCommit, [rid, quad, sub, retry])
    if a.reached then []
    else match d.lostTo r a with
      | some 3 => [f 1 1, f 1 0]
      | some 4 => [f 2 0]
      | some 2 => [f 3 0]
      | _ => []).eraseDups

/-- Steps of the requests in flight. -/
def dueReqs (d : Device) : List Ev :=
  d.reqs.flatMap fun r =>
    (if r.2.kind.isLoad then Instr.homeSliceLoad else .homeSliceStore, [r.1]) :: (.storeTimeReturn, [r.1]) ::
      ((quadsOf r.2.pending).map fun q => (Instr.longLatencyReturn, [r.1, q])) ++ d.dueFailures r.1 r.2

/-- Steps of an engine operation. -/
def dueOp (d : Device) (id : Nat) (o : EngOp) : List Ev :=
  match o.kind with
  | .gather x => [(.gatherElement, [id, match gatherRead d o x with | .fail _ _ _ => 0 | _ => 1])]
  | _ =>
    [(.copyGranule, [id]), (.putsigSignal, [id])] ++ (match opFailure d o with | some x => [(Instr.copyFailure, [id, x.1])] | none => [])

/-- Steps of the engines and the bank units. -/
def dueOps (d : Device) : List Ev :=
  (d.ops.flatMap fun o => d.dueOp o.1 o.2) ++ d.bmvs.flatMap fun b => [(.bankUnitGroup, [b.1]), (.bmvComplete, [b.1])]

/-- Steps of the matrix queues and the chart compilers. -/
def dueMatrix (d : Device) : List Ev :=
  (d.mdone.map fun m => (Instr.matrixFlagClear, [m.1])) ++ d.perGroup .matrixOpComplete ++ d.perGroup .matrixQueueHeadStart ++
    d.perGroup .courseMmaDispatch ++ d.perCore .mmaArrayStart ++ d.perCore .chartCompileEnd ++ d.perCore .chartCompileStart

/-- Page walks, invalidations and the pulse. -/
def dueWalks (d : Device) : List Ev :=
  ((d.walkQ.map (·.core)).eraseDups.map fun c => (Instr.pageWalk, [c])) ++
    (d.fns.filterMap fun f => if f.2.inv.isSome then some (Instr.invalidationComplete, [f.1]) else none) ++
    (if d.drivenOutside then [(.spanLeave, [])] else [(.pulseTick, [])])

/-- Counts of parts that have run out. -/
def dueExpiries (d : Device) : List Ev :=
  [.scalarCopyDone, .sleepExpiry, .yieldExpiry, .spinDemotionExpiry, .spinDemote, .starvationPromote].flatMap d.perPart

/-- Fuses and splits. -/
def dueFuses (d : Device) : List Ev := [.joinFuse, .joinTimeout, .joinRelease, .widthFuse, .missSplit].flatMap d.perPart

/-- Traps that parts raise at their headers. -/
def dueTraps (d : Device) : List Ev :=
  d.perPart .fuseTimeout ++ d.waves.flatMap fun w =>
    if w.2.retired then []
    else (w.2.live.filter fun q => decide (q.phase = .header) &&
      (match (headerOf d w.1 w.2 q).1 with | .trap _ => true | _ => false)).map fun q => (.clauseStart, [w.1, lowQuad q.quads])

/-- Breakpoints, as each part took them when it reached its header (14 R335). -/
def dueBreaks (d : Device) : List Ev :=
  d.waves.flatMap fun w => w.2.live.filterMap fun q =>
    if q.phase = .header then (breakpointOf d w.2 q).map fun b => (.breakpointMatch, [w.1, lowQuad q.quads, b]) else none

/-- The command of a number. -/
def dbgInstr (c : Nat) : Instr :=
  match c with
  | 1 => .dbgHaltWave
  | 2 => .dbgHaltGroup
  | 3 => .dbgResume
  | 4 => .dbgStep
  | 5 => .dbgKillWave
  | 6 => .dbgKillGroup
  | 7 => .dbgSave
  | _ => .dbgInvalidCommand

/-- Debugger commands, steps that time out, stops and their records. -/
def dueStops (d : Device) : List Ev :=
  d.perWave .stepTimeout ++ (d.fns.filterMap fun f => f.2.dbgBusy.map fun c => (dbgInstr (c % 16), [f.1])) ++ d.perWave .trapStop ++
    d.perWave .trapRecordWrite

/-- Lists of the allotment arbiters. -/
def perList (d : Device) (i : Instr) : List Ev := d.busyCores.flatMap fun c => (List.range 5).map fun l => (i, [c, l])

/-- The arbiters and pre-emption. -/
def dueAllots (d : Device) : List Ev :=
  d.perList .allotmentGrant ++ d.perList .allotmentDeadlockPreempt ++ d.perGroup .preemptSave ++ d.perGroup .preemptFail

/-- Packets, admission, restores, and ends of waves and launches. -/
def dueLaunches (d : Device) : List Ev :=
  d.perWave .waveRetire ++ (d.launches.map fun l => (Instr.launchComplete, [l.1])) ++
    (d.fns.flatMap fun f => f.2.queues.map fun q => (Instr.packetAccept, [f.1, q.1])) ++
    (d.devQ.map fun q => (Instr.packetAccept, [0, 8 + q.1])) ++ d.perGroup .groupRestore ++
    d.launches.map fun l => (Instr.groupAdmit, [l.1])

/-- Clauses that start. -/
def dueStarts (d : Device) : List Ev := d.perPart .clauseStart

/-- Picks of the issue slots. -/
def duePicks (d : Device) : List Ev := d.busyCores.flatMap fun c => (List.range 4).map fun l => (.issuePick, [c, l])

/-- Stall samples. -/
def dueSamples (d : Device) : List Ev :=
  if d.fns.any fun f => bit (f.2.regs.get 0x2408) 31 then d.perCore .stallSample else []

end Device

/-- The kinds in the order in which they are tried within a cycle: traps before breakpoints before debugger stops (14 R338). -/
def kinds : List (Device → List Ev) :=
  [Device.dueCommits, Device.dueHeld, Device.dueGbars, Device.dueReqs, Device.dueOps, Device.dueMatrix, Device.dueWalks,
    Device.dueExpiries, Device.dueFuses, Device.dueTraps, Device.dueBreaks, Device.dueStops, Device.dueAllots, Device.dueLaunches,
    Device.dueStarts, Device.duePicks, Device.dueSamples]

/-- The first step of the first kind that changes the state. -/
def firstKind (s : State) : List (Device → List Ev) → Option State
  | [] => none
  | k :: l =>
    match firstOf s (k s.dev) with
    | some t => some t
    | none => firstKind s l

/-! ## Inputs (13 R314 to R334) -/

/-- The step that a write to a BAR0 offset is. -/
def barStep (fn off : Nat) (v : Word64) : Ev :=
  let x := v.toNat
  if decide (0x1000 ≤ off) && decide (off < 0x1800) && decide (off % 256 = 8) then (.qctlWrite, [fn, (off - 0x1000) / 256, x])
  else if decide (0x1000 ≤ off) && decide (off < 0x1800) && decide (off % 256 = 0x18) then (.qdoorbellWrite, [fn, (off - 0x1000) / 256, x])
  else
    match off with
    | 0x0028 => (.apfaultWrite, [fn, x])
    | 0x0810 => (.invcmdWrite, [fn, x])
    | 0x2488 => (.cntdataWrite, [fn, x])
    | 0x8000 => (.pulsecfgWrite, [fn, x])
    | 0x8008 => (.pwrcapWrite, [fn, x])
    | 0x8100 => (.spanctlWrite, [fn, x])
    | _ => (.registerWrite, [fn, off, x])

/-- Whether a step arrives from outside the device. -/
def external (i : Instr) : Bool :=
  match i with
  | .fundamentalReset => true
  | .bootComplete => true
  | .functionLevelReset => true
  | .decodeTableUpdate => true
  | .powerWindow => true
  | .thermalStop => true
  | .wearUpdate => true
  | .uncorrectableError => true
  | .correctedErrorRecord => true
  | .linkReplay => true
  | .linkOperationFailure => true
  | .portRetrain => true
  | .spanRequest => true
  | .msixVectorUnmask => true
  | .coreClockStop => true
  | .coreClockRestart => true
  | .getVersion => true
  | .getCapabilities => true
  | .negotiateAlgorithms => true
  | .getDigests => true
  | .getCertificate => true
  | .challenge => true
  | .getMeasurements => true
  | .pulseTick => true
  | .tickCompletion => true
  | _ => false

/-- Bytes of system memory, or of another device of the span, that another agent writes (10 R251). Copies of them here stay as they are until their
lease or an acquire ends them (10 R259). -/
def Device.extWrite (d : Device) (key : Nat) (b : List Byte) : Device :=
  if isDev key || d.ownKey key then d else d.putBytes ((List.range b.length).map (key + ·)) b

/-- The owner of a line of system or span memory begins or ceases to refuse accesses of it (13 R319, R323). -/
def Device.refuseLine (d : Device) (line : Nat) (on : Bool) : Device :=
  let l := d.refused.filter fun x => decide (x ≠ line)
  { d with refused := if on && !devLine line then line :: l else l }

/-- The pulse of the span reaches a device that is not a member (13 R325). -/
def Device.spanTick (d : Device) : Device := if d.member then d else { d with clk := { d.clk with lastSpanTick := d.clk.ns } }

/-- A state after an input. -/
def takeInput (i : Input) (s : State) : State :=
  match i with
  | .barWrite fn off v => ran (barStep fn off v) s
  | .barRead fn off => { s with dev := s.dev.bar0Read fn off }
  | .bar2Read fn off n => ran (.bar2Read, [fn, off, n]) s
  | .bar2Write fn off n v => ran (.bar2Write, [fn, off, n, v.toNat]) s
  | .event e a => if external e then ran (e, a) s else s
  | .ext key b => { s with dev := s.dev.extWrite key b }
  | .refuse l on => { s with dev := s.dev.refuseLine l on }
  | .mask fn v => { s with dev := s.dev.mask fn v }
  | .spanTick => { s with dev := s.dev.spanTick }
  | .preempt g => ran (.preemptRequest, [g]) s
  | .load o => { s with dev := { s.dev with objs := o :: s.dev.objs.filter fun x => decide (x.space ≠ o.space) || decide (x.base ≠ o.base) } }

/-- Whether an input is an access that a walk or a held line keeps waiting. -/
def Input.waits (i : Input) (s : State) : Bool :=
  match i with
  | .bar2Read fn off n => s.dev.barWaits fn .barRead off n
  | .bar2Write fn off n _ => s.dev.barWaits fn .barWrite off n
  | .event .spanRequest a => s.dev.spanWaits (a.getD 0 0) (spanOp (a.getD 1 0) 0 0) (a.getD 2 0) (a.getD 3 0)
  | _ => false

/-- The state after the first input, if it has arrived and need not wait. -/
def inputStep (s : State) : Option State :=
  match s.inputs with
  | [] => none
  | (t, i) :: l => if decide (s.dev.clk.ns < t) || i.waits s then none else some (takeInput i { s with inputs := l })

/-- What happens when no pass runs. -/
def turn (s : State) : State :=
  match inputStep s with
  | some t => t
  | none =>
    match firstKind s kinds with
    | some t => t
    | none => { s with dev := s.dev.cycle }

/-! ## A place for an instruction to run (log entry 28) -/

/-- The bytes of a clause with four bytes put at an offset. -/
def spliceBytes (b : List Byte) (off : Nat) (x : List Byte) : List Byte :=
  (b ++ List.replicate off 0).take off ++ x ++ b.drop (off + x.length)

/-- A clause of one instruction: no waits, flag A = f0, flag B = f1. -/
def loneClause (b : List Byte) : Clause := ⟨0x1000007F#32, b, 0⟩

/-- A launch of one wave of four lanes with every register at hand. -/
def loneLaunch : Launch :=
  { fn := 0, as := 0, queue := 0, packet := [1#64, 0, 0, 1#64, 1#64], args := [], sets := [], start := 0, fetched := 0, time := 0, depsMet := true, admitted := 1,
    failed := false, refused := none, complete := false }

/-- A wave that has issued a clause of one instruction. -/
def loneWave (b : List Byte) : Wave :=
  let w := newWave 0 0 loneLaunch 0 0 (0, 0, 0) 0 0
  { w with cur := 128, full := 128, prologue := 128,
           parts := w.parts.map fun q => { q with phase := .issuing 1, clause := some (loneClause b) } }

/-- The device with that wave, its group and its launch on it. -/
def withLone (d : Device) (b : List Byte) : Device :=
  { (d.setWave 0 (loneWave b)).setGroup 0 (newGroup 0 0 0 0 loneLaunch.packet) with launches := d.launches.set 0 loneLaunch }

/-- A pass over that clause. -/
def lonePass (d : Device) (b : List Byte) : Option Spec :=
  (loneWave b).parts.head?.map fun q => passOf d 0 (newGroup 0 0 0 0 loneLaunch.packet) 0 (loneWave b) q 128

/-- A pass with the bytes of an instruction where it fetches next. -/
def Spec.withBytes (p : Spec) (b : List Byte) : Spec :=
  let p := if 8 ≤ p.slot then { p with slot := 0, off := 0 } else p
  let c := p.prt.clause.getD (loneClause [])
  let n := max (bits c.hdr 9 7) p.slot
  { p with hold := none, cut := false,
           prt := { p.prt with clause := some { c with hdr := putBits c.hdr 9 7 n, bytes := spliceBytes c.bytes p.off b } } }

end Sys2Proof.Machine
end

