-- ==== Sys2Proof/Machine/Step.lean ====
section
/-! DEFINITION. One step of the machine: the next instruction of the pass that runs, or else what comes next (01 R28). -/

namespace Sys2Proof.Machine

/-- One step. -/
def step (s : State) : Host.Outcome State Fault Refusal :=
  match s.spec with
  | none => .next (turn s)
  | some p =>
    if p.over then exec .commit s
    else match p.fetch with
      | .ok i => exec i s
      | .error _ => .next (p.undecoded s)

/-- The state with an instruction's word where step fetches next: in the clause of the pass that runs, or in a clause of one
instruction that a wave of four lanes has issued (log entry 28). -/
def State.withFetchWord (s : State) (nbits w : Nat) : State :=
  let b := leBytes 4 (w % 2 ^ nbits)
  match s.spec with
  | some p => { s with spec := some (p.withBytes b) }
  | none => { s with dev := withLone s.dev b, spec := lonePass (withLone s.dev b) b }

end Sys2Proof.Machine
end

