-- ==== Sys2Proof/Safety.lean ====
section
/-! DEFINITION. The terms in which statements speak: what a register of a pass holds, which registers a result leaves alone,
the outcome of an instruction that runs to its end, of one that traps and of one that is held, and a well-formed pass. -/

namespace Sys2Proof.Machine

/-- The instructions that have an encoding; the others are steps of the machine (95_what_each_step_holds). -/
def Encoded (i : Instr) : Prop := word i ≠ 0 ∨ ∃ fs fd, i = .vmov16 fs fd

/-- The bank and the place in it that a register name stands for. -/
def place : RegLoc → Nat × Nat
  | .v r l => (0, vkey r l)
  | .s r => (1, r)
  | .q r l => (2, l * 2 + r)

/-- A register that exists: v0 to v127, s0 to s63, q0 and q1 (01 R12, R14). -/
def RegLoc.exists? : RegLoc → Bool
  | .v r l => decide (r < 128) && decide (l < 64)
  | .s r => decide (r < 64)
  | .q r l => decide (r < 2) && decide (l < 64)

/-- A wave without its registers. -/
def Wave.bare (w : Wave) : Wave := { w with vregs := [], qregs := [] }

/-- A part without its registers and its window. -/
def Part.bare (q : Part) : Part := { q with window := [], sregs := [] }

namespace Spec

/-- What a register holds for the next instruction, in as many bits as the register has (01 R12, R14, R32). -/
def value (p : Spec) : RegLoc → Word128
  | .v r l => (p.vreg r l).setWidth 128
  | .s r => ((p.read (.s r)).setWidth 64).setWidth 128
  | .q r l => p.qreg r l

/-- Whether a register may change when one more result enters the window, because the entry that leaves is a transient one that
names it (01 R33, R35), or names another register at the same place, which no register that exists does. -/
def loses (p : Spec) (loc : RegLoc) : Bool :=
  (p.prt.window.drop 7).any fun e => e.w.any fun x =>
    if e.t then decide (x.1 = loc) else decide (x.1 ≠ loc) && decide (place x.1 = place loc)

/-- Everything of a pass but its registers and its position in the clause: the device with all of memory, the group, flags, FPX,
stack, loops, time and the rest. -/
def rest (p : Spec) : Spec :=
  { p with slot := 0, off := 0, wav := p.wav.bare, prt := p.prt.bare }

/-- A pass that has gone on past an instruction of this one: the next slot of the same clause. -/
def Past (p p' : Spec) (i : Instr) : Prop := p'.slot = p.slot + 1 ∧ p'.off = p.off + width i / 8

/-- Registers other than the named ones hold what they held. -/
def Keeps (p p' : Spec) (ws : List RegLoc) : Prop := ∀ loc, loc ∉ ws → p.loses loc = false → p'.value loc = p.value loc

end Spec

/-- `exec` of the instruction at a state with the pass `p` goes on with a pass `p'`, and nothing outside the pass changes: no
memory and no other part sees the instruction before commit (01 R28). -/
def Runs (i : Instr) (s : State) (p p' : Spec) : Prop := exec i s = .next { s with spec := some p' } ∧ p.Past p' i

/-- The instruction runs to its end, writes some registers and changes nothing else but what `q` says. -/
def Gives (i : Instr) (s : State) (p q : Spec) (ws : List (RegLoc × Word128)) : Prop :=
  ∃ p', Runs i s p p' ∧ p'.rest = q.rest ∧ (∀ x ∈ ws, p'.value x.1 = x.2) ∧ p.Keeps p' (ws.map Prod.fst)

/-- The instruction traps: the pass is dropped with all its effects and the trap is taken at the clause, naming the slot and the
bits of the instruction (01 R28, R29; 12 R305). What its lookups have left in the TLBs stays (12 R298). Where an earlier slot
already holds the clause nothing is taken now: the pass ends there, and the clause runs again (01 R28, R37). -/
def Traps (i : Instr) (s : State) (p : Spec) (t : TrapInfo) : Prop :=
  exec i s = .next (if p.hold.isSome then { s with spec := some { p with cut := true } } else { s with
    spec := none
    dev := takeTrap (s.dev.lookups p.dev p.wav.core) p.wid p.prt.quads { t with slot := some p.slot, bits := BitVec.ofNat 32 (word i) } })

/-- The instruction holds its clause at commit, for a reason of its own or for the one of an earlier slot: nothing of the clause will have happened
(01 R28, R37). -/
def Holds (i : Instr) (s : State) (p : Spec) (r : HoldReason) : Prop := ∃ p', Runs i s p p' ∧ p'.hold = some (p.hold.getD r)

/-- The instruction stands at the next slot of a pass and passes the decode checks there (03 R81 to R83, R90; 01 R11). -/
def Ready (i : Instr) (s : State) (p : Spec) : Prop := s.spec = some p ∧ legalAt p i = true

/-- A well-formed pass: it runs a clause of at most eight instructions and stands at one of its slots or at its end (01 R28, 03 R76). -/
def Spec.ok (p : Spec) : Bool :=
  match p.prt.clause with
  | some c => decide (p.slot ≤ c.count) && decide (c.count ≤ 8)
  | none => false

/-- The invariant of a state: a pass that runs is well-formed. -/
def State.passOk (s : State) : Prop := ∀ p, s.spec = some p → p.ok = true

end Sys2Proof.Machine
end

