-- ==== Sys2Proof/Certificates/Slice0/Obligations.lean ====
section
/-! DEFINITION. The statements for the provers: what the numbered rules of the spec say of instructions, of the steps of the machine and
of reset. The tables that stand before the statements say what a group of instructions computes, row by row, as the rules' own tables do. -/

namespace Sys2Proof.Machine

/-! ## What the rules say of results -/

/-- Bits of a word that are 1, as the rules count them. -/
def ones {w : Nat} (x : BitVec w) : Nat := (List.range w).countP fun i => x.getLsbD i

/-- How many bits from the top, or from the bottom, are 0 before the first 1. -/
def zerosTop {w : Nat} (x : BitVec w) : Nat := ((List.range w).takeWhile fun i => !x.getLsbD (w - 1 - i)).length

/-- Zeros below the lowest 1. -/
def zerosLow {w : Nat} (x : BitVec w) : Nat := ((List.range w).takeWhile fun i => !x.getLsbD i).length

/-- A field of `n` bits at an offset of a word of `w` bits, cut off at the top of the word: as a number, and sign-extended from its
highest bit (04 R105). -/
def fieldU (w n off x : Nat) : Nat := x >>> off % 2 ^ min n (w - off)

/-- The field, sign-extended. -/
def fieldS (w n off x : Nat) : Int := if min n (w - off) = 0 then 0 else (BitVec.ofNat (min n (w - off)) (x >>> off)).toInt

/-- SALU of two operands: sb, sa, sd and the function of sa and sb (04 R102). -/
def salu2 : Instr → Option (SReg × SReg × SReg × (Word64 → Word64 → Word64))
  | .sadd b a d => some (b, a, d, fun x y => BitVec.ofNat 64 (x.toNat + y.toNat))
  | .ssub b a d => some (b, a, d, fun x y => BitVec.ofInt 64 (x.toInt - y.toInt))
  | .smul b a d => some (b, a, d, fun x y => BitVec.ofNat 64 (x.toNat * y.toNat))
  | .smulh b a d => some (b, a, d, fun x y => BitVec.ofInt 64 (x.toInt * y.toInt / 2 ^ 64))
  | .smulhu b a d => some (b, a, d, fun x y => BitVec.ofNat 64 (x.toNat * y.toNat / 2 ^ 64))
  | .sand b a d => some (b, a, d, fun x y => x &&& y)
  | .sor b a d => some (b, a, d, fun x y => x ||| y)
  | .sxor b a d => some (b, a, d, fun x y => x ^^^ y)
  | .sandn b a d => some (b, a, d, fun x y => x &&& ~~~y)
  | .sshl b a d => some (b, a, d, fun x y => BitVec.ofNat 64 (x.toNat * 2 ^ (y.toNat % 64)))
  | .sshrl b a d => some (b, a, d, fun x y => BitVec.ofNat 64 (x.toNat / 2 ^ (y.toNat % 64)))
  | .sshra b a d => some (b, a, d, fun x y => BitVec.ofInt 64 (x.toInt / 2 ^ (y.toNat % 64)))
  | .smin b a d => some (b, a, d, fun x y => BitVec.ofInt 64 (min x.toInt y.toInt))
  | .smax b a d => some (b, a, d, fun x y => BitVec.ofInt 64 (max x.toInt y.toInt))
  | .sminu b a d => some (b, a, d, fun x y => BitVec.ofNat 64 (min x.toNat y.toNat))
  | .smaxu b a d => some (b, a, d, fun x y => BitVec.ofNat 64 (max x.toNat y.toNat))
  | .sseq b a d => some (b, a, d, fun x y => if x = y then 1 else 0)
  | .ssne b a d => some (b, a, d, fun x y => if x = y then 0 else 1)
  | .sslt b a d => some (b, a, d, fun x y => if x.toInt < y.toInt then 1 else 0)
  | .ssltu b a d => some (b, a, d, fun x y => if x.toNat < y.toNat then 1 else 0)
  | .ssle b a d => some (b, a, d, fun x y => if x.toInt ≤ y.toInt then 1 else 0)
  | .ssleu b a d => some (b, a, d, fun x y => if x.toNat ≤ y.toNat then 1 else 0)
  | .slea2 b a d => some (b, a, d, fun x y => BitVec.ofNat 64 (x.toNat + 4 * y.toNat))
  | .slea3 b a d => some (b, a, d, fun x y => BitVec.ofNat 64 (x.toNat + 8 * y.toNat))
  | _ => none

/-- The unary and immediate scalar forms: sa, sd and the function of sa (04 R102, R103). -/
def salu1 : Instr → Option (SReg × SReg × (Word64 → Word64))
  | .spopc a d => some (a, d, fun x => BitVec.ofNat 64 (ones x))
  | .sclz a d => some (a, d, fun x => BitVec.ofNat 64 (zerosTop x))
  | .sctz a d => some (a, d, fun x => BitVec.ofNat 64 (zerosLow x))
  | .sbrev a d => some (a, d, fun x => x.reverse)
  | .smov a d => some (a, d, fun x => x)
  | .saddi i a d => some (a, d, fun x => BitVec.ofInt 64 (x.toInt + i.toInt))
  | .sandi i a d => some (a, d, fun x => x &&& BitVec.ofInt 64 i.toInt)
  | .sori i a d => some (a, d, fun x => x ||| BitVec.ofInt 64 i.toInt)
  | .sxori i a d => some (a, d, fun x => x ^^^ BitVec.ofInt 64 i.toInt)
  | .sshli i a d => some (a, d, fun x => BitVec.ofNat 64 (x.toNat * 2 ^ i.toNat))
  | .sshrli i a d => some (a, d, fun x => BitVec.ofNat 64 (x.toNat / 2 ^ i.toNat))
  | .sshrai i a d => some (a, d, fun x => BitVec.ofInt 64 (x.toInt / 2 ^ i.toNat))
  | .sslti i a d => some (a, d, fun x => if x.toInt < i.toInt then 1 else 0)
  | .smuli i a d => some (a, d, fun x => BitVec.ofInt 64 (x.toInt * i.toInt))
  | _ => none

/-- The constant and bit-field scalar forms: sa, sd and the function of sa and the old sd (04 R104, R105). -/
def saluField : Instr → Option (SReg × SReg × (Word64 → Word64 → Word64))
  | .sinsh i k d => some (d, d, fun _ y => BitVec.ofNat 64
      (y.toNat / 2 ^ (16 * k.toNat + 16) * 2 ^ (16 * k.toNat + 16) + i.toNat * 2 ^ (16 * k.toNat) + y.toNat % 2 ^ (16 * k.toNat)))
  | .smovh i k d => some (d, d, fun _ _ => BitVec.ofInt 64 (i.toInt * 2 ^ (16 * k.toNat)))
  | .sbfxu w o a d => some (a, d, fun x _ => BitVec.ofNat 64 (fieldU 64 w.toNat o.toNat x.toNat))
  | .sbfx w o a d => some (a, d, fun x _ => BitVec.ofInt 64 (fieldS 64 w.toNat o.toNat x.toNat))
  | .sbfi w o a d => some (a, d, fun x y =>
      let mask : Word64 := BitVec.ofNat 64 (2 ^ min w.toNat (64 - o.toNat) - 1)
      (y &&& ~~~(mask <<< o.toNat)) ||| ((x &&& mask) <<< o.toNat))
  | _ => none

/-- Integer vector forms of two sources: vb, va, vd, T and the function of va, vb and the old vd in a lane (05 R134, R142). -/
def lane3 : Instr → Option (VReg × VReg × VReg × (Word32 → Word32 → Word32 → Word32))
  | .vadd b a d _ => some (b, a, d, fun x y _ => BitVec.ofNat 32 (x.toNat + y.toNat))
  | .vsub b a d _ => some (b, a, d, fun x y _ => BitVec.ofInt 32 (x.toInt - y.toInt))
  | .vmullo b a d _ => some (b, a, d, fun x y _ => BitVec.ofNat 32 (x.toNat * y.toNat))
  | .vmulhi b a d _ => some (b, a, d, fun x y _ => BitVec.ofInt 32 (x.toInt * y.toInt / 2 ^ 32))
  | .vmulhu b a d _ => some (b, a, d, fun x y _ => BitVec.ofNat 32 (x.toNat * y.toNat / 2 ^ 32))
  | .vmad b a d _ => some (b, a, d, fun x y z => BitVec.ofNat 32 (x.toNat * y.toNat + z.toNat))
  | .vaddsat b a d _ => some (b, a, d, fun x y _ => BitVec.ofInt 32 (max (-2 ^ 31) (min (2 ^ 31 - 1) (x.toInt + y.toInt))))
  | .vsubsat b a d _ => some (b, a, d, fun x y _ => BitVec.ofInt 32 (max (-2 ^ 31) (min (2 ^ 31 - 1) (x.toInt - y.toInt))))
  | .vmin b a d _ => some (b, a, d, fun x y _ => BitVec.ofInt 32 (min x.toInt y.toInt))
  | .vmax b a d _ => some (b, a, d, fun x y _ => BitVec.ofInt 32 (max x.toInt y.toInt))
  | .vminu b a d _ => some (b, a, d, fun x y _ => BitVec.ofNat 32 (min x.toNat y.toNat))
  | .vmaxu b a d _ => some (b, a, d, fun x y _ => BitVec.ofNat 32 (max x.toNat y.toNat))
  | .vand b a d _ => some (b, a, d, fun x y _ => x &&& y)
  | .vor b a d _ => some (b, a, d, fun x y _ => x ||| y)
  | .vxor b a d _ => some (b, a, d, fun x y _ => x ^^^ y)
  | .vandn b a d _ => some (b, a, d, fun x y _ => x &&& ~~~y)
  | .vshl b a d _ => some (b, a, d, fun x y _ => BitVec.ofNat 32 (x.toNat * 2 ^ (y.toNat % 32)))
  | .vshrl b a d _ => some (b, a, d, fun x y _ => BitVec.ofNat 32 (x.toNat / 2 ^ (y.toNat % 32)))
  | .vshra b a d _ => some (b, a, d, fun x y _ => BitVec.ofInt 32 (x.toInt / 2 ^ (y.toNat % 32)))
  | .vrotl b a d _ => some (b, a, d, fun x y _ =>
      BitVec.ofNat 32 (x.toNat * 2 ^ (y.toNat % 32) + x.toNat / 2 ^ (32 - y.toNat % 32)))
  | _ => none

/-- Unary and immediate integer vector forms: va, vd and the function of va (05 R134, R135). -/
def lane1 : Instr → Option (VReg × VReg × (Word32 → Word32))
  | .vpopc a d _ => some (a, d, fun x => BitVec.ofNat 32 (ones x))
  | .vclz a d _ => some (a, d, fun x => BitVec.ofNat 32 (zerosTop x))
  | .vbrev a d _ => some (a, d, fun x => x.reverse)
  | .vabs a d _ => some (a, d, fun x => BitVec.ofNat 32 x.toInt.natAbs)
  | .vaddi i a d _ => some (a, d, fun x => BitVec.ofInt 32 (x.toInt + i.toInt))
  | .vshli i a d _ => some (a, d, fun x => BitVec.ofNat 32 (x.toNat * 2 ^ i.toNat))
  | .vshrli i a d _ => some (a, d, fun x => BitVec.ofNat 32 (x.toNat / 2 ^ i.toNat))
  | .vshrai i a d _ => some (a, d, fun x => BitVec.ofInt 32 (x.toInt / 2 ^ i.toNat))
  | .vandi i a d _ => some (a, d, fun x => x &&& BitVec.ofInt 32 i.toInt)
  | .vori i a d _ => some (a, d, fun x => x ||| BitVec.ofInt 32 i.toInt)
  | .vxori i a d _ => some (a, d, fun x => x ^^^ BitVec.ofInt 32 i.toInt)
  | .vmuli i a d _ => some (a, d, fun x => BitVec.ofInt 32 (x.toInt * i.toInt))
  | _ => none

/-- Moves, selection, fields and byte packing: vd and the value in an active lane (05 R136, R137, R139, R140, R142). -/
def laneMove : Instr → Option (VReg × (Spec → Nat → Word32))
  | .vmovi i d _ => some (d, fun _ _ => BitVec.ofInt 32 i.toInt)
  | .vmovs a d _ => some (d, fun p _ => BitVec.ofNat 32 ((p.sreg a.toNat).toNat % 2 ^ 32))
  | .vmovsh a d _ => some (d, fun p _ => BitVec.ofNat 32 ((p.sreg a.toNat).toNat / 2 ^ 32))
  | .vlane d _ => some (d, fun _ l => BitVec.ofNat 32 l)
  | .vsel m b a d _ => some (d, fun p l => if (p.sreg (56 + m.toNat)).getLsbD l then p.vreg a.toNat l else p.vreg b.toNat l)
  | .vbfxu w o a d _ => some (d, fun p l => BitVec.ofNat 32 (fieldU 32 w.toNat o.toNat (p.vreg a.toNat l).toNat))
  | .vbfx w o a d _ => some (d, fun p l => BitVec.ofInt 32 (fieldS 32 w.toNat o.toNat (p.vreg a.toNat l).toNat))
  | .vbfi w o a d _ => some (d, fun p l =>
      let mask : Word32 := BitVec.ofNat 32 (2 ^ min w.toNat (32 - o.toNat) - 1)
      (p.vreg d.toNat l &&& ~~~(mask <<< o.toNat)) ||| ((p.vreg a.toNat l &&& mask) <<< o.toNat))
  | .vpkb b a d _ => some (d, fun p l =>
      (p.vreg d.toNat l &&& 0xFFFF0000#32) ||| ((p.vreg b.toNat l &&& 0xFF#32) <<< 8) ||| (p.vreg a.toNat l &&& 0xFF#32))
  | .vpkbh b a d _ => some (d, fun p l =>
      ((p.vreg b.toNat l &&& 0xFF#32) <<< 24) ||| ((p.vreg a.toNat l &&& 0xFF#32) <<< 16) ||| (p.vreg d.toNat l &&& 0xFFFF#32))
  | _ => none

/-- The 16-bit forms and the 32-bit instruction that each stands for: vs as vb, vd as vd and va, rnd 0 and T 0 (03 R86). -/
def shortOf : Instr → Option Instr
  | .vmov16 s d => some (.vor (s.setWidth 7) (s.setWidth 7) (d.setWidth 7) 0)
  | .vadd16 s d => some (.vadd (s.setWidth 7) (d.setWidth 7) (d.setWidth 7) 0)
  | .vsub16 s d => some (.vsub (s.setWidth 7) (d.setWidth 7) (d.setWidth 7) 0)
  | .vmullo16 s d => some (.vmullo (s.setWidth 7) (d.setWidth 7) (d.setWidth 7) 0)
  | .vand16 s d => some (.vand (s.setWidth 7) (d.setWidth 7) (d.setWidth 7) 0)
  | .vor16 s d => some (.vor (s.setWidth 7) (d.setWidth 7) (d.setWidth 7) 0)
  | .vxor16 s d => some (.vxor (s.setWidth 7) (d.setWidth 7) (d.setWidth 7) 0)
  | .vshl16 s d => some (.vshl (s.setWidth 7) (d.setWidth 7) (d.setWidth 7) 0)
  | .vshrl16 s d => some (.vshrl (s.setWidth 7) (d.setWidth 7) (d.setWidth 7) 0)
  | .vshra16 s d => some (.vshra (s.setWidth 7) (d.setWidth 7) (d.setWidth 7) 0)
  | .vmax16 s d => some (.vmax (s.setWidth 7) (d.setWidth 7) (d.setWidth 7) 0)
  | .vaddF3216 s d => some (.vaddF32 0 (s.setWidth 7) (d.setWidth 7) (d.setWidth 7) 0)
  | .vsubF3216 s d => some (.vsubF32 0 (s.setWidth 7) (d.setWidth 7) (d.setWidth 7) 0)
  | .vmulF3216 s d => some (.vmulF32 0 (s.setWidth 7) (d.setWidth 7) (d.setWidth 7) 0)
  | .vmaxF3216 s d => some (.vmaxF32 (s.setWidth 7) (d.setWidth 7) (d.setWidth 7) 0)
  | .vminF3216 s d => some (.vminF32 (s.setWidth 7) (d.setWidth 7) (d.setWidth 7) 0)
  | _ => none
/-- A 16-bit form stands for a 32-bit instruction; any other instruction for itself (03 R86). -/
def full (i : Instr) : Instr := (shortOf i).getD i

/-- Results by lane: a register in every active lane. -/
def inLanes (p : Spec) (d : Nat) (f : Nat → Word32) : List (RegLoc × Word128) := p.act.map fun l => (.v d l, (f l).setWidth 128)

/-- Results by lane: consecutive registers in every active lane. -/
def inLanes2 (p : Spec) (d : Nat) (f : Nat → List Word32) : List (RegLoc × Word128) :=
  p.act.flatMap fun l => (f l).mapIdx fun i v => (.v (d + i) l, v.setWidth 128)

/-- A scalar result (01 R16, 05 R132). -/
def inScalar (p : Spec) (d : Nat) (v : Word64) : List (RegLoc × Word128) := [(.s d, p.sval d v)]

/-- What the active lanes raise. -/
def raised (p : Spec) (f : Nat → Fx) : List (Nat × Fx) := p.act.map fun l => (l, f l)

/-- The exact result of one of the four operations, NaN and zero signs settled, with the invalid operations (02 R48, R58; 05 R133). -/
def exactOp (op mode : Nat) (a b c : Num) : Num × Fx :=
  match op with
  | 0 => addNum mode a b
  | 1 => addNum mode a b.negate
  | 2 => mulNum a b
  | _ => ((addNum mode (mulNum a b).1 c).1, (mulNum a b).2 ||| (addNum mode (mulNum a b).1 c).2)

/-- The exact result rounded once, with all it raises (05 R133, 02 R61). -/
def onceRounded (f : Fmt) (op mode : Nat) (a b c : Num) : Nat × Fx :=
  ((roundNum f mode (exactOp op mode a b c).1).1,
    (roundNum f mode (exactOp op mode a b c).1).2 ||| (exactOp op mode a b c).2 ||| snanFx (if op = 3 then [a, b, c] else [a, b]))

/-- Floating-point arithmetic: format, operation, rnd, vb, va, vd (05 R133). -/
def fpArith : Instr → Option (Fmt × Nat × BitVec 3 × VReg × VReg × VReg)
  | .vaddF32 r b a d _ => some (.f32, 0, r, b, a, d)
  | .vsubF32 r b a d _ => some (.f32, 1, r, b, a, d)
  | .vmulF32 r b a d _ => some (.f32, 2, r, b, a, d)
  | .vfmaF32 r b a d _ => some (.f32, 3, r, b, a, d)
  | .vaddF16x2 r b a d _ => some (.f16, 0, r, b, a, d)
  | .vsubF16x2 r b a d _ => some (.f16, 1, r, b, a, d)
  | .vmulF16x2 r b a d _ => some (.f16, 2, r, b, a, d)
  | .vfmaF16x2 r b a d _ => some (.f16, 3, r, b, a, d)
  | .vaddBf16x2 r b a d _ => some (.bf16, 0, r, b, a, d)
  | .vsubBf16x2 r b a d _ => some (.bf16, 1, r, b, a, d)
  | .vmulBf16x2 r b a d _ => some (.bf16, 2, r, b, a, d)
  | .vfmaBf16x2 r b a d _ => some (.bf16, 3, r, b, a, d)
  | .vaddF64 r b a d _ => some (.f64, 0, r, b, a, d)
  | .vsubF64 r b a d _ => some (.f64, 1, r, b, a, d)
  | .vmulF64 r b a d _ => some (.f64, 2, r, b, a, d)
  | .vfmaF64 r b a d _ => some (.f64, 3, r, b, a, d)
  | _ => none

/-- The rounding mode that a rnd field names: MODE.rnd when it is 0 (02 R55). -/
def modeOf (p : Spec) (r : BitVec 3) : Nat := if r = 0 then bits p.prt.mode 2 0 else r.toNat

/-- The words that floating-point arithmetic writes in a lane, and what it raises there: one F32 with FTZ, two packed elements of 16
bits, or an F64 pair (05 R133, 02 R50, R59). -/
def fpLane (p : Spec) (f : Fmt) (op : Nat) (r : BitVec 3) (b a d l : Nat) : List Word32 × Fx :=
  match f with
  | .f32 =>
    let x := flushRes p.ftz (onceRounded .f32 op (modeOf p r) (p.f32v a l) (p.f32v b l) (p.f32v d l))
    ([BitVec.ofNat 32 x.1], x.2)
  | .f64 =>
    let x := onceRounded .f64 op (modeOf p r) (val .f64 (p.vpair a l).toNat) (val .f64 (p.vpair b l).toNat) (val .f64 (p.vpair d l).toNat)
    ([BitVec.ofNat 32 x.1, BitVec.ofNat 32 (x.1 / 2 ^ 32)], x.2)
  | f =>
    let lo := onceRounded f op (modeOf p r) (val f (elem 16 0 (p.vreg a l))) (val f (elem 16 0 (p.vreg b l))) (val f (elem 16 0 (p.vreg d l)))
    let hi := onceRounded f op (modeOf p r) (val f (elem 16 1 (p.vreg a l))) (val f (elem 16 1 (p.vreg b l))) (val f (elem 16 1 (p.vreg d l)))
    ([pack16 lo.1 hi.1], lo.2 ||| hi.2)

/-- The floating-point instructions with one vector destination: vd, and the word and what is raised in a lane (05 R142 to R144, R146,
R151, R152). -/
def fpWord : Instr → Option (VReg × (Spec → Nat → Nat × Fx))
  | .vpkF16 b a d _ => some (d, fun p l =>
      let x := cvtToFloat .f16 (modeOf p 0) false (p.raw32 a.toNat l)
      let y := cvtToFloat .f16 (modeOf p 0) false (p.raw32 b.toNat l)
      ((pack16 x.1 y.1).toNat, x.2 ||| y.2))
  | .vpkBf16 b a d _ => some (d, fun p l =>
      let x := cvtToFloat .bf16 (modeOf p 0) false (p.raw32 a.toNat l)
      let y := cvtToFloat .bf16 (modeOf p 0) false (p.raw32 b.toNat l)
      ((pack16 x.1 y.1).toNat, x.2 ||| y.2))
  | .vupkF16l a d _ => some (d, fun p l => cvtToFloat .f32 1 false (val .f16 (elem 16 0 (p.vreg a.toNat l))))
  | .vupkF16h a d _ => some (d, fun p l => cvtToFloat .f32 1 false (val .f16 (elem 16 1 (p.vreg a.toNat l))))
  | .vupkBf16l a d _ => some (d, fun p l => cvtToFloat .f32 1 false (val .bf16 (elem 16 0 (p.vreg a.toNat l))))
  | .vupkBf16h a d _ => some (d, fun p l => cvtToFloat .f32 1 false (val .bf16 (elem 16 1 (p.vreg a.toNat l))))
  | .vrcp a d _ => some (d, fun p l => sfu 0 (p.vreg a.toNat l).toNat)
  | .vrsq a d _ => some (d, fun p l => sfu 1 (p.vreg a.toNat l).toNat)
  | .vsqrt a d _ => some (d, fun p l => sfu 2 (p.vreg a.toNat l).toNat)
  | .vexp2 a d _ => some (d, fun p l => sfu 3 (p.vreg a.toNat l).toNat)
  | .vlog2 a d _ => some (d, fun p l => sfu 4 (p.vreg a.toNat l).toNat)
  | .vsin a d _ => some (d, fun p l => sfu 5 (p.vreg a.toNat l).toNat)
  | .vcos a d _ => some (d, fun p l => sfu 6 (p.vreg a.toNat l).toNat)
  | .vtanh a d _ => some (d, fun p l => sfu 7 (p.vreg a.toNat l).toNat)
  | .vminF32 b a d _ => some (d, fun p l => minMax .f32 false (ftzBits p.ftz (p.vreg a.toNat l).toNat) (ftzBits p.ftz (p.vreg b.toNat l).toNat))
  | .vmaxF32 b a d _ => some (d, fun p l => minMax .f32 true (ftzBits p.ftz (p.vreg a.toNat l).toNat) (ftzBits p.ftz (p.vreg b.toNat l).toNat))
  | .vminF16x2 b a d _ => some (d, fun p l => pairWise (minMax .f16 false) (p.vreg a.toNat l) (p.vreg b.toNat l))
  | .vmaxF16x2 b a d _ => some (d, fun p l => pairWise (minMax .f16 true) (p.vreg a.toNat l) (p.vreg b.toNat l))
  | .vminBf16x2 b a d _ => some (d, fun p l => pairWise (minMax .bf16 false) (p.vreg a.toNat l) (p.vreg b.toNat l))
  | .vmaxBf16x2 b a d _ => some (d, fun p l => pairWise (minMax .bf16 true) (p.vreg a.toNat l) (p.vreg b.toNat l))
  | .vcopysignF32 b a d _ => some (d, fun p l =>
      (ftzBits p.ftz (p.vreg a.toNat l).toNat % 2 ^ 31 + (p.vreg b.toNat l).toNat / 2 ^ 31 * 2 ^ 31, 0))
  | .vclassF32 a d _ => some (d, fun p l => (2 ^ class32 (ftzBits p.ftz (p.vreg a.toNat l).toNat), 0))
  | .vdot2F16 b a d _ => some (d, fun p l => dotOf p .f16 2 a.toNat b.toNat d.toNat l)
  | .vdot2Bf16 b a d _ => some (d, fun p l => dotOf p .bf16 2 a.toNat b.toNat d.toNat l)
  | .vdot4E4m3 b a d _ => some (d, fun p l => dotOf p .e4m3 4 a.toNat b.toNat d.toNat l)
  | .vdot4E5m2 b a d _ => some (d, fun p l => dotOf p .e5m2 4 a.toNat b.toNat d.toNat l)
  | .vdot8Q4x b a d _ => some (d, fun p l =>
      let qa := [q4xAt (p.vreg a.toNat l).toNat 0, q4xAt (p.vreg a.toNat l).toNat 4]
      let qb := [q4xAt (p.vreg b.toNat l).toNat 0, q4xAt (p.vreg b.toNat l).toNat 4]
      let r := dotF (modeOf p 0) p.ftz (qa.flatMap (·.1)) (qb.flatMap (·.1)) (p.f32v d.toNat l)
      (r.1, r.2 ||| fxIf ((qa ++ qb).any (·.2)) fxFE))
  | .smxfin b a d _ => some (d, fun p l => smxFin (p.vreg a.toNat l).toNat (p.vreg b.toNat l).toNat (p.vreg (b.toNat + 1) l).toNat)
  | .vcombineF32 b a d _ => some (d, fun p l => (canon32 (combineF p a.toNat b.toNat l).1, (combineF p a.toNat b.toNat l).2))
  | _ => none
where
  /-- A function of each of two packed elements. -/
  pairWise (f : Nat → Nat → Nat × Fx) (x y : Word32) : Nat × Fx :=
    ((pack16 (f (elem 16 0 x) (elem 16 0 y)).1 (f (elem 16 1 x) (elem 16 1 y)).1).toNat,
      (f (elem 16 0 x) (elem 16 0 y)).2 ||| (f (elem 16 1 x) (elem 16 1 y)).2)
  /-- A dot product of `n` elements of a format. -/
  dotOf (p : Spec) (f : Fmt) (n a b d l : Nat) : Nat × Fx :=
    dotF (modeOf p 0) p.ftz ((List.range n).map fun i => val f (elem (32 / n) i (p.vreg a l)))
      ((List.range n).map fun i => val f (elem (32 / n) i (p.vreg b l))) (p.f32v d l)

/-- The floating-point instructions with other destinations: what they write and what is raised, by lane (05 R138, R141, R146, R148,
R150; 08 R215 to R217). -/
def fpOther : Instr → Option (Spec → List (RegLoc × Word128) × List (Nat × Fx))
  | .vcmpf c b a d _ => some fun p =>
      (inScalar p d.toNat (maskOf 64 (p.act.filter fun l => (cmpF c.toNat (p.f32v a.toNat l) (p.f32v b.toNat l)).1)),
        raised p fun l => (cmpF c.toNat (p.f32v a.toNat l) (p.f32v b.toNat l)).2)
  | .vcvt sat y x r a d _ => some fun p =>
      let src (l : Nat) : Nat := if x = 7 then (p.vpair a.toNat l).toNat else (p.vreg a.toNat l).toNat
      let f (l : Nat) : Nat × Fx := convert (cvtTy x.toNat) (cvtTy y.toNat) (modeOf p r) (decide (sat = 1)) p.ftz (src l)
      (inLanes2 p d.toNat fun l => if y = 7 then [BitVec.ofNat 32 (f l).1, BitVec.ofNat 32 ((f l).1 / 2 ^ 32)] else [BitVec.ofNat 32 (f l).1],
        raised p fun l => (f l).2)
  | .vscanF32 a d _ => some fun p =>
      (inLanes p d.toNat fun l => BitVec.ofNat 32 (canon32 (scanSum p a.toNat l).1),
        (p.act.map fun l => (if l = 0 then [(0, snanFx [val .f32 (ftzBits p.ftz (p.vreg a.toNat 0).toNat)])] else []) ++ (scanSum p a.toNat l).2).flatten)
  | .vredaddF32 a d _ => some fun p =>
      let r := treeTop p (addF32 (modeOf p 0) p.ftz) (leafF32 p a.toNat 0)
      (inScalar p d.toNat (BitVec.ofNat 64 r.1), r.2)
  | .vredmaxF32 a d _ => some fun p =>
      let r := treeTop p (minMax .f32 true) (leafF32 p a.toNat 0xFF800000)
      (inScalar p d.toNat (BitVec.ofNat 64 r.1), r.2)
  | .vredminF32 a d _ => some fun p =>
      let r := treeTop p (minMax .f32 false) (leafF32 p a.toNat 0x7F800000)
      (inScalar p d.toNat (BitVec.ofNat 64 r.1), r.2)
  | .smxupd b a d _ => some fun p =>
      let r (l : Nat) : Nat × Nat × Fx :=
        smxUpd (p.vreg d.toNat l).toNat (p.vreg (d.toNat + 1) l).toNat (p.vreg a.toNat l).toNat (p.vreg b.toNat l).toNat
      (inLanes2 p d.toNat fun l => [BitVec.ofNat 32 (r l).1, BitVec.ofNat 32 (r l).2.1], raised p fun l => (r l).2.2)
  | .rsvupd b a q _ => some fun p =>
      let r (l : Nat) : Rsv × Fx := rsvOffer (rsvOf (p.qreg q.toNat l)) (p.vreg b.toNat l).toNat (p.vreg (b.toNat + 1) l).toNat
        (p.vreg a.toNat l).toNat (p.vreg (a.toNat + 1) l).toNat 1
      (p.act.map fun l => (.q q.toNat l, (r l).1.bits), raised p fun l => (r l).2)
  | .rsvmrg b a q _ => some fun p =>
      let w (l : Nat) : Nat × Fx := mergeW (p.vreg b.toNat l).toNat (p.vreg (a.toNat + 2) l).toNat (p.vreg (a.toNat + 3) l).toNat
      let r (l : Nat) : Rsv × Fx := rsvOffer (rsvOf (p.qreg q.toNat l)) (w l).1 (p.vreg (b.toNat + 1) l).toNat
        (p.vreg a.toNat l).toNat (p.vreg b.toNat l).toNat (p.vreg (a.toNat + 3) l).toNat
      (p.act.map fun l => (.q q.toNat l, (r l).1.bits), raised p fun l => (r l).2 ||| (w l).2)
  | .rsvfin q d _ => some fun p =>
      let r (l : Nat) : Rsv := rsvOf (p.qreg q.toNat l)
      (inLanes2 p d.toNat fun l => [BitVec.ofNat 32 (r l).y, BitVec.ofNat 32 (rsvWeight (r l)).1], raised p fun l => (rsvWeight (r l)).2)
  | _ => none

/-- The instructions across lanes and without exceptions: what they write (05 R137, R138, R146 to R149, R152; 08 R210, R211, R214, R220,
R222). -/
def plainOut : Instr → Option (Spec → List (RegLoc × Word128))
  | .vgetl b a d _ => some fun p =>
      let k := (p.sreg b.toNat).toNat % 64
      inScalar p d.toNat (if p.prt.quads.getLsbD (k / 4) then (p.vreg a.toNat k).setWidth 64 else 0)
  | .vsetl b a d _ => some fun p =>
      let k := (p.sreg b.toNat).toNat % 64
      if k ∈ p.act then [(.v d.toNat k, ((p.sreg a.toNat).setWidth 32).setWidth 128)] else []
  | .vcmp c b a d _ => some fun p =>
      inScalar p d.toNat (maskOf 64 (p.act.filter fun l => cmpI c.toNat (p.vreg a.toNat l) (p.vreg b.toNat l)))
  | .vshuf b a d _ => some fun p => inLanes p d.toNat fun l => p.xlane a.toNat ((p.vreg b.toNat l).toNat % 64)
  | .vswz c a d _ => some fun p => inLanes p d.toNat fun l =>
      p.xlane a.toNat (if c.toNat < 64 then l ^^^ (c.toNat % 64) else (l + c.toNat % 64) % p.wav.lanes)
  | .vbcast k a d _ => some fun p => inLanes p d.toNat fun _ => p.xlane a.toNat k.toNat
  | .vscanI32 a d _ => some fun p => inLanes p d.toNat fun l =>
      BitVec.ofNat 32 (((p.act.filter (· ≤ l)).map fun j => (p.vreg a.toNat j).toNat).sum)
  | .vconflict a d _ => some fun p => inLanes p d.toNat fun l =>
      let same := p.act.filter fun j => p.vreg a.toNat j == p.vreg a.toNat l
      BitVec.ofNat 32 (same.length * 2 ^ 16 + (same.filter (· < l)).length * 2 ^ 8 + same.headD 0)
  | .vcombineI32 b a d _ => some fun p => inLanes p d.toNat fun l =>
      let same := p.act.filter fun j => p.vreg b.toNat j == p.vreg b.toNat l
      if same.head? = some l then BitVec.ofNat 32 ((same.map fun j => (p.vreg a.toNat j).toNat).sum) else 0
  | .visect b a d _ => some fun p => inLanes p d.toNat fun l =>
      ((p.act.filter fun j => p.vreg b.toNat j == p.vreg a.toNat l).head?).elim 0xFFFFFFFF#32 fun k => BitVec.ofNat 32 k
  | .vredaddI32 a d _ => some fun p => inScalar p d.toNat
      ((BitVec.ofNat 32 ((p.act.map fun l => (p.vreg a.toNat l).toNat).sum)).signExtend 64)
  | .vredmaxI32 a d _ => some fun p => inScalar p d.toNat
      (BitVec.ofInt 64 ((p.act.map fun l => (p.vreg a.toNat l).toInt).foldl max (-2 ^ 31)))
  | .vredminI32 a d _ => some fun p => inScalar p d.toNat
      (BitVec.ofInt 64 ((p.act.map fun l => (p.vreg a.toNat l).toInt).foldl min (2 ^ 31 - 1)))
  | .vredand a d _ => some fun p => inScalar p d.toNat ((p.act.foldl (fun x l => x &&& p.vreg a.toNat l) 0xFFFFFFFF#32).setWidth 64)
  | .vredor a d _ => some fun p => inScalar p d.toNat ((p.act.foldl (fun x l => x ||| p.vreg a.toNat l) 0#32).setWidth 64)
  | .vdot4I8 b a d _ => some fun p => inLanes p d.toNat fun l => p.vreg d.toNat l + BitVec.ofInt 32
      (((List.range 4).map fun i => sextNat 8 (elem 8 i (p.vreg a.toNat l)) * sextNat 8 (elem 8 i (p.vreg b.toNat l))).sum)
  | .vdot4Ui8 b a d _ => some fun p => inLanes p d.toNat fun l => p.vreg d.toNat l + BitVec.ofNat 32
      (((List.range 4).map fun i => elem 8 i (p.vreg a.toNat l) * elem 8 i (p.vreg b.toNat l)).sum)
  | .vdot8I4 b a d _ => some fun p => inLanes p d.toNat fun l => p.vreg d.toNat l + BitVec.ofInt 32
      (((List.range 8).map fun i => sextNat 4 (elem 4 i (p.vreg a.toNat l)) * sextNat 4 (elem 4 i (p.vreg b.toNat l))).sum)
  | .vrand k a d _ => some fun p => inLanes p d.toNat fun l => rand32 (p.sreg k.toNat) (p.vreg a.toNat l)
  | .vrandu k a d _ => some fun p => inLanes p d.toNat fun l =>
      BitVec.ofNat 32 (enc .f32 (.fin false ((rand32 (p.sreg k.toNat) (p.vreg a.toNat l)).toNat / 256) (-24)))
  | .rsvinit q _ => some fun p => p.act.map fun l => (.q q.toNat l, 0)
  | .rsvrd q d _ => some fun p => inLanes2 p d.toNat fun l =>
      (List.range 4).map fun i => BitVec.ofNat 32 ((p.qreg q.toNat l).toNat / 2 ^ (32 * i))
  | .rsvwr a q _ => some fun p => p.act.map fun l => (.q q.toNat l,
      p.vreg (a.toNat + 3) l ++ p.vreg (a.toNat + 2) l ++ p.vreg (a.toNat + 1) l ++ p.vreg a.toNat l)
  | .raytri b a d _ => some fun p => inLanes2 p d.toNat fun l =>
      match rayTri (p.nums a.toNat 3 l) (p.nums (a.toNat + 3) 3 l) (p.raw32 (a.toNat + 6) l)
          [p.nums b.toNat 3 l, p.nums (b.toNat + 3) 3 l, p.nums (b.toNat + 6) 3 l] with
      | some (t, u, v) => [w32 t, w32 u, w32 v]
      | none => [0x7F800000#32, 0, 0]
  | .raybox b a d _ => some fun p => inLanes2 p d.toNat fun l =>
      match rayBox (p.nums a.toNat 3 l) (p.nums (a.toNat + 3) 3 l) (p.raw32 (a.toNat + 6) l) (p.nums b.toNat 6 l) with
      | some (x, y) => [w32 x, w32 y]
      | none => [0x7F800000#32, 0xFF800000#32]
  | _ => none

/-- An enabled exception among those raised makes the instruction trap (02 R62). -/
def fpTrapLaw (i : Instr) (s : State) (p : Spec) (l : List (Nat × Fx)) : Prop :=
  fxUnion l &&& p.enabled ≠ 0 →
    Traps i s p (trapOf 5 0 (fxUnion l &&& p.enabled).toNat (maskOf 64 ((l.filter fun x => x.2 &&& p.enabled != 0).map Prod.fst)) 0)

/-! ## Terms of the statements -/

/-- Registers that no named register shares a place with hold what they held. -/
def Leaves (p p' : Spec) (f : RegLoc → Bool) : Prop :=
  ∀ loc, (∀ l, f l = true → place l ≠ place loc) → p'.value loc = p.value loc

/-- No register. -/
def noReg (_ : RegLoc) : Bool := false

/-- The instruction runs to its end, writes the registers named at most, and changes nothing else but what `q` says. -/
def Makes (i : Instr) (s : State) (p q : Spec) (f : RegLoc → Bool) : Prop :=
  ∃ p', Runs i s p p' ∧ p'.rest = q.rest ∧ Leaves q p' f

/-- The same where what the part committed earlier is served first: `q` is the pass after that, with the effect. -/
def Serves (i : Instr) (s : State) (p q : Spec) (f : RegLoc → Bool) : Prop :=
  ∃ p', Runs i s p p' ∧ p'.dev = q.dev ∧ p'.grp = q.grp ∧ p'.wav.bare = q.wav.bare ∧ p'.hold = q.hold ∧ p'.prt.pts = q.prt.pts ∧
    p'.prt.stack = q.prt.stack ∧ p'.prt.loops = q.prt.loops ∧ p'.prt.spin = q.prt.spin ∧ p'.prt.spinLine = q.prt.spinLine ∧
    p'.prt.demoted = q.prt.demoted ∧ p'.xfer = q.xfer ∧ Leaves q p' f

/-- A step with no encoding answers a next state in which only the device differs, as said. -/
def Event (i : Instr) (s : State) (f : Device → Prop) : Prop := ∃ d, exec i s = .next { s with dev := d } ∧ f d

/-- A transfer to an address at commit: the loop end action of the clause does not take place (04 R117). -/
def Spec.jump (p : Spec) (va : Word64) : Spec := { p with xfer := some va, taken := true }

/-- The address that a relative target names: base + 2 × sext(off), base being the header of the clause (04 R107). -/
def aim {n : Nat} (p : Spec) (off : BitVec n) : Word64 := p.prt.pc + BitVec.ofInt 64 (2 * off.toInt)

/-- The branches and calls: target, whether it is taken, and whether s62 takes the address after the clause (04 R108, R114). -/
def branchOf (p : Spec) : Instr → Option (Word64 × Bool × Bool)
  | .bra i => some (aim p i, true, false)
  | .brnz i a => some (aim p i, decide (p.sreg a.toNat ≠ 0), false)
  | .brz i a => some (aim p i, decide (p.sreg a.toNat = 0), false)
  | .call i => some (aim p i, true, true)
  | .callr a => some (p.sreg a.toNat, true, true)
  | .ret a => some (p.sreg a.toNat, true, false)
  | _ => none

/-- LOOP and LOOPI: the end clause and the count (04 R115). -/
def loopOf (p : Spec) : Instr → Option (Word64 × Word32)
  | .loop e a => some (p.prt.pc + BitVec.ofNat 64 (2 * e.toNat), (p.sreg a.toNat).setWidth 32)
  | .loopi e n => some (p.prt.pc + BitVec.ofNat 64 (2 * e.toNat), n.setWidth 32)
  | _ => none

/-- What SREAD reads of each special register (04 R122, R123). -/
def special (p : Spec) : Nat → Option Word64
  | 0x000 => some (BitVec.ofNat 64 (4 * 2 ^ p.wav.width))
  | 0x001 => some (p.prt.quads.setWidth 64)
  | 0x002 => some (BitVec.ofNat 64 p.wav.index)
  | 0x003 => some (BitVec.ofNat 64 (p.grp.index % cohortSize p.packet + p.grp.index * 2 ^ 32))
  | 0x004 => some (BitVec.ofNat 64 (p.grp.index / cohortSize p.packet))
  | 0x005 => some (BitVec.ofNat 64 p.wav.core)
  | 0x006 => some (BitVec.ofNat 64 p.dev.clk.cycle)
  | 0x007 => some (BitVec.ofNat 64 p.dev.clk.pulse)
  | 0x008 => some p.pts0
  | 0x010 => some p.grp.mode
  | 0x011 => some (p.fpxBase ||| p.wav.fpx)
  | 0x012 => some (match p.prt.loops with
      | [] => 0
      | [x] => x.count.setWidth 64
      | l => ((l.getLast?).map fun x => x.count.setWidth 64).getD 0)
  | 0x013 => some (((p.prt.loops.reverse[1]?).map fun x => x.count.setWidth 64).getD 0)
  | 0x014 => some (BitVec.ofNat 64 (bits p.grp.mode 20 16))
  | 0x015 => some (if bit p.oobBase 63 then p.oobBase else if bit p.grp.spdoob 63 then p.grp.spdoob else p.oobBase)
  | 0x016 => some (BitVec.ofNat 64 (p.wav.role * 2 ^ 24 + p.wav.full * 2 ^ 16 + p.wav.prologue * 2 ^ 8 + p.wav.cur))
  | 0x017 => some (p.dev.core p.wav.core).stale
  | 0x018 => some (BitVec.ofNat 64 p.grp.splitd)
  | 0x019 => some (BitVec.ofNat 64 p.grp.fusel)
  | _ => none

/-- A legal JOINT code: 1 to 20, or 31 (01 R19). -/
def jointLegal (n : Nat) : Prop := 1 ≤ n ∧ n ≤ 20 ∨ n = 31

/-- With other loop levels. -/
def Spec.setLoops (p : Spec) (l : List LoopLevel) : Spec := { p with prt := { p.prt with loops := l } }

/-- With a task queue set. -/
def Spec.setTaskQ (p : Spec) (q : Nat) (t : TaskQueue) : Spec := { p with dev := { p.dev with taskQ := p.dev.taskQ.set q t } }

/-- SWRITE: when the value is in range, and the pass after it; what an event of the same cycle sets in FPX, SPDOOB or STALE comes after it (01 R20, R22, R25, R40; 04 R117, R123; 09 R232). -/
def written (p : Spec) (v : Word64) : Nat → Option (Prop × Spec)
  | 0x010 => some (1 ≤ bits v 2 0 ∧ bits v 2 0 ≤ 6 ∧ jointLegal (bits v 20 16), { p with grp := { p.grp with mode := v &&& 0x1F01FF#64 } })
  | 0x011 => some (True, { p with fpxBase := (v &&& 0x13F#64) ||| (if p.wav.fpxAt = p.dev.clk.cycle + 1 then p.wav.fpxNew else 0) })
  | 0x012 => some (True, p.setLoops (if v.setWidth 32 = 0#32 then [] else recount 0 (v.setWidth 32)))
  | 0x013 => some (True, p.setLoops (if v.setWidth 32 = 0#32 then (p.prt.loops.reverse.take 1).reverse else recount 1 (v.setWidth 32)))
  | 0x014 => some (jointLegal v.toNat, { p with grp := { p.grp with mode := putBits p.grp.mode 20 16 v.toNat } })
  | 0x015 => some (True, { p with oobBase := if bit v 63 = false ∧ p.grp.oobAt = p.dev.clk.cycle + 1 then p.grp.oobNew
      else v &&& 0x80000000FFFFFFFF#64 })
  | 0x017 => some (True, { p with dev := p.dev.setCore p.wav.core { p.dev.core p.wav.core with stale := v + (if (p.dev.core p.wav.core).staleAt = p.dev.clk.cycle + 1 then (p.dev.core p.wav.core).staleNew else 0) } })
  | 0x018 => some (v.toNat ≤ 65535, { p with grp := { p.grp with splitd := v.toNat } })
  | 0x019 => some (1024 ≤ v.toNat ∧ v.toNat ≤ 2 ^ 31, { p with grp := { p.grp with fusel := v.toNat } })
  | _ => none
where
  /-- The levels with the count of an active one replaced; level 0 is the outer one. -/
  recount (k : Nat) (n : Word32) : List LoopLevel := (p.prt.loops.reverse.modify k fun x => { x with count := n }).reverse

/-- The request that an instruction of the pass leaves in program order (06 R153; 01 R36, R40; 11 R284). -/
def Spec.request (p : Spec) (kind : ReqKind) (pend : BitVec 16) (sel : Option Bool) (accs : List Access) : Req :=
  { wave := p.wid, gen := p.wav.gen, quads := p.prt.quads, pending := pend, flag := sel.map p.flagField, kind := kind, accs := accs,
    after := p.prt.quads, ready := arrival p.dev, due := p.dev.clk.ns + 60, pos := p.prt.pc, timed := false, back := false }

/-- The pass after a request has left on a device and, where it has a flag, raised it; a store or an atomic ends a spin. The registers that it
returns to are noted for the commit, which takes them out of the window (01 R38). -/
def Spec.sends (p : Spec) (d : Device) (kind : ReqKind) (pend : BitVec 16) (sel : Option Bool) (accs : List Access) (stores : Bool)
    (dst : Option (Bool × Nat × Nat)) : Spec :=
  let q : Spec := { p with dev := d, dests := dst.toList ++ p.dests }
  let r := q.request kind pend sel accs
  let t : Spec := { q with dev := { d with reqs := d.reqs.set d.nextId r, nextId := d.nextId + 1 } }
  let u : Spec := if stores then { t with prt := { t.prt with spin := 0, spinFrom := d.nextId + 1, demoted := 0 } } else t
  match sel with
  | some f => u.raise f pend
  | none => u

/-- A global access as its rule gives it: kind of access, the elements by lane with their addresses and data, what the request does, the
quads and the flag that wait for it, and the registers that it returns to. -/
structure Reach where
  /-- Kind of access. -/
  acc : Acc
  /-- Elements. -/
  els : List LaneAcc
  /-- What the request does. -/
  kind : ReqKind
  /-- Quads whose flag it raises. -/
  pend : BitVec 16
  /-- Flag. -/
  sel : Option Bool
  /-- Registers it returns to: vector or scalar file, first register, count. -/
  dst : Option (Bool × Nat × Nat)

/-- Whether watchpoint `w` of a function's registers matches an access: it is enabled for the kind of access in the address space, and a byte of the
access lies in its range, addresses being of 57 bits, sign-extended (06 R153; 14 R335, R339). -/
abbrev watched (f : SMap 64) (space kind w : Nat) (x : LaneAcc) : Prop :=
  bit (f.get (0x2210 + 32 * w)) 15 = true ∧ bits (f.get (0x2210 + 32 * w)) 11 8 = space ∧
    bit (f.get (0x2210 + 32 * w)) kind = true ∧ canonical (f.get (0x2200 + 32 * w)) = true ∧
    ∃ i ∈ List.range x.n, (f.get (0x2200 + 32 * w)).toNat % 2 ^ 57 ≤ (x.va + BitVec.ofNat 64 i).toNat % 2 ^ 57 ∧
      (x.va + BitVec.ofNat 64 i).toNat % 2 ^ 57 <
        (f.get (0x2200 + 32 * w)).toNat % 2 ^ 57 + bits (f.get (0x2208 + 32 * w)) 47 0

/-- Bytes of an element of a size code, and its registers in a vector file and in the scalar file (06 R154). -/
def codeBytes (z : Nat) : Nat := [1, 1, 2, 2, 4, 8, 16].getD z 0

/-- Vector registers of an element. -/
def codeRegs (z : Nat) : Nat := if z = 5 then 2 else if z = 6 then 4 else 1

/-- Data of a vector element: the registers of the lane, the first lowest. -/
def laneData (p : Spec) (s l z : Nat) : List Byte :=
  ((List.range (codeRegs z)).flatMap fun i => leBytes 4 (p.vreg (s + i) l).toNat).take (codeBytes z)

/-- The global loads, stores and atomics (06 R157 to R159, R164 to R166). The address of a lane of VLD and VST is sb + lane × stride, the
element size where the stride field is 0. -/
def reachOf (p : Spec) : Instr → Option Reach
  | .vld _ k z b d f => some ⟨.load, p.act.map fun l => ⟨l, stride k z b l, codeBytes z.toNat, [], []⟩, .vload d.toNat z.toNat, p.actQuads,
      some (decide (f = 1)), some (true, d.toNat, codeRegs z.toNat)⟩
  | .vst _ k z b d => some ⟨.store, p.act.map fun l => ⟨l, stride k z b l, codeBytes z.toNat, laneData p d.toNat l z.toNat, []⟩, .store, 0,
      none, none⟩
  | .sld i z a d => some ⟨.load, [⟨64, p.sreg a.toNat + BitVec.ofNat 64 (i.toNat * codeBytes z.toNat), codeBytes z.toNat, [], []⟩],
      .sload d.toNat z.toNat, p.prt.quads, some false, some (false, d.toNat, if z = 6 then 2 else 1)⟩
  | .sst i z a d => some ⟨.store, [⟨64, p.sreg a.toNat + BitVec.ofNat 64 (i.toNat * codeBytes z.toNat), codeBytes z.toNat,
      (leBytes 8 (p.sreg d.toNat).toNat ++ leBytes 8 (p.sreg (d.toNat + 1)).toNat).take (codeBytes z.toNat), []⟩], .store, 0, none, none⟩
  | .atomg c z o b a d f => some ⟨.atomic, [⟨64, p.sreg a.toNat, if z = 1 then 8 else 4, [], []⟩],
      .atom o.toNat z.toNat (p.sreg b.toNat) (if o = 6 then p.sreg (b.toNat + 1) else 0) d.toNat c.toNat, p.prt.quads,
      some (decide (f = 1)), some (false, d.toNat, 1)⟩
  | .atomgv b o k d f => some ⟨.atomicV, p.act.map fun l => ⟨l, p.sreg k.toNat + BitVec.ofNat 64 (4 * l), 4, leBytes 4 (p.vreg b.toNat l).toNat,
      if o = 6 then leBytes 4 (p.vreg (b.toNat + 1) l).toNat else []⟩, .vatom o.toNat d.toNat, p.actQuads, some (decide (f = 1)),
      some (true, d.toNat, 1)⟩
  | _ => none
where
  /-- Address of a lane. -/
  stride (k : BitVec 5) (z : BitVec 3) (b : SReg) (l : Nat) : Word64 :=
    p.sreg b.toNat + BitVec.ofNat 64 l * (if k = 0 then BitVec.ofNat 64 (codeBytes z.toNat) else p.sreg k.toNat)

/-- Whether an instruction is a vector access, which does nothing without an active lane (06 R153). -/
def Reach.vector (r : Reach) : Bool := match r.kind with
  | .vload _ _ => true
  | .vatom _ _ => true
  | .store => r.els.all fun x => decide (x.lane < 64)
  | _ => false

/-- Whether the accesses of an instruction end a spin: stores and atomics do (09 R236). -/
def Reach.ends (r : Reach) : Bool := match r.kind with
  | .vload _ _ => false
  | .sload _ _ => false
  | _ => true

/-- A descriptor of `n` bytes that an instruction may read: aligned, inside the allotment, no live write range over it (06 R169; 10 R257). -/
def descReady (p : Spec) (off align n : Nat) : Prop :=
  off % align = 0 ∧ off + n ≤ p.grp.size ∧ p.sync.stalls p.wav.group p.first false [(off, n)] = false

/-- The dwords of a descriptor. -/
def descWords (p : Spec) (off n : Nat) : List Word64 := (List.range (n / 8)).map fun i => BitVec.ofNat 64 (spadNat p.grp (off + 8 * i) 8)

/-- The copy engines have room for an operation of `n` ranges (06 R171). -/
def copyRoom (p : Spec) (n : Nat) : Prop :=
  p.dev.frontCount p.wav.core < 512 ∧ (p.dev.core p.wav.core).board.length + n ≤ 512

/-- An operation of an engine has begun at the end of the clause: it joins the open batch, counts down a barrier object, and its ranges
are live; memory, the scratchpad and the registers are as they were (06 R171, R172; 10 R257). -/
def Begins (i : Instr) (s : State) (q : Spec) (k : EngKind) (bar : Option Nat) (rs : List (Bool × (Nat × Nat))) : Prop :=
  ∃ p p' o, s.spec = some p ∧ Runs i s p p' ∧ p'.dev.ops.get? q.dev.nextId = some o ∧ o.kind = k ∧ o.barrier = bar ∧ o.batch = q.wav.batch + 1 ∧
    o.wave = q.wid ∧ o.gen = q.wav.gen ∧ o.quads = q.prt.quads ∧ o.mode = q.prt.mode ∧ o.c = q.prt.pts ∧ o.done = 0 ∧
    (p'.dev.core q.wav.core).board = (q.dev.core q.wav.core).board ++ rs.map (fun r => ⟨q.dev.nextId, q.gid, r.1, r.2.1, r.2.2⟩) ∧
    p'.dev.mem = q.dev.mem ∧ p'.grp = q.grp ∧ p'.prt.spin = 0 ∧ Leaves q p' noReg

/-- The barrier object that a field BV and a register name (06 R169). -/
def barrierField (p : Spec) (bv : BitVec 1) (sb : SReg) : Option Nat := if bv = 1 then some (p.sreg sb.toNat).toNat else none

/-- An object of 32 bytes that a barrier instruction may update (06 R177; 10 R257). -/
def barReady (p : Spec) (off : Nat) : Prop :=
  off % 32 = 0 ∧ off + 32 ≤ p.grp.size ∧ p.sync.stalls p.wav.group p.first true [(off, 32)] = false

/-- The object after an update: when no arrival and no byte remains, arrivals are reloaded and the phase flips (06 R178). -/
def flipped (b : Bar) : Bar :=
  if b.rem = 0 ∧ b.w1 = 0 then { b with w0 := putBits b.w0 19 0 b.exp ^^^ BitVec.ofNat 64 (2 ^ 40) } else b

/-- The object at an offset becomes `b`; other bytes of the scratchpad, all of memory, and the registers but `ws` stay (06 R177, R179). -/
def BarSets (i : Instr) (s : State) (p q : Spec) (off : Nat) (b : Bar) (ws : List (RegLoc × Word128)) : Prop :=
  ∃ p', Runs i s p p' ∧ barAt p'.grp off = b ∧ (∀ x, x < off ∨ off + 32 ≤ x → p'.grp.spad.get x = q.grp.spad.get x) ∧
    p'.dev.mem = q.dev.mem ∧ p'.prt.spin = 0 ∧ (∀ x ∈ ws, p'.value x.1 = x.2) ∧ q.Keeps p' (ws.map Prod.fst)

/-- An entry joins the group's matrix queue; memory, the scratchpad and the registers stay (07 R192). -/
def Queues (i : Instr) (s : State) (p q : Spec) (quads : BitVec 16) (flag : Option Nat) (w : MQWork) (f : RegLoc → Bool) : Prop :=
  ∃ p' n, Runs i s p p' ∧ p'.grp.mq = q.grp.mq ++ [⟨n, q.wid, q.wav.gen, quads, flag, w, none, false, []⟩] ∧ p'.grp.spad = q.grp.spad ∧
    p'.grp.recs = q.grp.recs ∧ p'.grp.tiles = q.grp.tiles ∧ p'.dev.mem = q.dev.mem ∧ Leaves q p' f

/-- The scalar register that holds the offset of a barrier instruction's object (06 R179). -/
def barrierReg : Instr → Option SReg
  | .barinit _ a => some a
  | .bararr _ a => some a
  | .bartx _ a => some a
  | .barwait _ a => some a
  | .bartry _ _ a => some a
  | _ => none

/-- A record and a tile that serve an MMA, with a wave wide enough (07 R186, R188, R202). -/
def mmaFits (p : Spec) (c s : Bool) (ty shape : Nat) (r : OBRec) (t : Tile) : Prop :=
  widthOf shape ≤ p.wav.lanes ∧ recFits c s ty shape r = true ∧ scalesFit c ty shape p.grp.size r = true ∧ tileFits c ty shape t = true

/-- The group's matrix queue has room, older entries alone counting (07 R192). -/
def matrixRoom (p : Spec) : Prop := p.sync.over p.wid p.wav p.prt p.first .matrixFull = true

/-- A compile request may be made: the key is known, or fewer than sixteen are outstanding (07 R205). -/
def chartRoom (p : Spec) (k : ChartKey) : Prop :=
  ((p.dev.core p.wav.core).chart? k).isSome = true ∨ (p.dev.core p.wav.core).inCompile k = true ∨
    (p.sync.core p.wav.core).chartLoad < 16

/-- The steps that end a count of a part, or act on one: when, and the part afterwards (04 R120, R128; 09 R227, R235, R236). -/
def partStep (d : Device) (w : Wave) (q : Part) : Instr → Option (Prop × Part)
  | .starvationPromote => some (256 ≤ q.starve ∧ q.starved = false, { q with starved := true })
  | .spinDemote => some (8 ≤ q.spin, { q with spin := 0, demoted := 1025 })
  | .spinDemotionExpiry => some (q.demoted = 1, { q with demoted := 0 })
  | .sleepExpiry => some (q.sleep = 1, { q with sleep := 0, sleepTick := false })
  | .scalarCopyDone => some (q.copyWait = 1, { q with copyWait := 0 })
  | .yieldExpiry => some (q.yieldLeft = 1 ∨ (q.yieldOther = true ∧ ∀ x ∈ d.slotParts w.core w.slot, eligible x.2.2 = false),
      { q with yieldLeft := 0, yieldOther := false })
  | _ => none

/-- Some parts of a wave are one part afterwards, which holds their quads; whether its join wait is over (01 R18; 09 R230). -/
def Fuses (i : Instr) (s : State) (wid : Nat) (w : Wave) (quads : BitVec 16) (joined : Bool) : Prop :=
  let l := w.live.filter fun p => p.quads &&& quads != 0
  Event i s fun d => ∃ w' q, d.waves.get? wid = some w' ∧ q ∈ w'.parts ∧ q.quads = quadsOfParts l ∧ q.joinDone = joined ∧
    (some q.pc = l.head?.map (·.pc)) ∧ q.window = [] ∧ (∀ p ∈ w'.parts, p = q ∨ p.quads &&& q.quads = 0) ∧
    w'.fuses = (if l.length ≤ 1 then w.fuses else w.fuses + 1) ∧ d.mem = s.dev.mem ∧ d.groups = s.dev.groups

/-- A gather has put the bytes of the element that it has reached at its place, and its status bit; no other byte of the scratchpad has changed (06
R174). -/
def Puts (i : Instr) (s : State) (o : EngOp) (x : List Word64) (b : List Byte) (ok : Bool) : Prop :=
  ∀ g, s.dev.groups.get? o.group = some g →
    let n := 2 ^ bits (dw x 1) 35 32
    let dst := bits (dw x 3) 18 0 + o.done * n
    let st := bits (dw x 4) 18 0 + o.done / 8
    dst + n ≤ g.size → st < g.size → (st < dst ∨ dst + n ≤ st) → Event i s fun d => ∃ g', d.groups.get? o.group = some g' ∧
      (∀ k, k < n → g'.spad.get (dst + k) = b.getD k 0) ∧
      (∀ k, k < 8 → bit (g'.spad.get st) k = if k = o.done % 8 then ok else bit (g.spad.get st) k) ∧
      ∀ k, (k < dst ∨ dst + n ≤ k) → k ≠ st → g'.spad.get k = g.spad.get k

/-- Bytes of 16 rows of y as a group of a bank product gives them: the sum of each row, started at +0.0 or at the old value, in the format of y (02
R73; 06 R183). -/
def RowsOf (d : Device) (o : BmvOp) (i : Nat) (xs : List Byte) (ks : List Nat) (bs : List Byte) : Prop :=
  ∃ l, bankLeaf d o = some l ∧
    let n := if bit (dw o.desc 5) 18 then 2 else 4
    let fmt : Fmt := if bit (dw o.desc 5) 18 then .bf16 else .f32
    let x := (chunks (bmvXSize o.desc) (bits (dw o.desc 5) 15 0) xs).map (val (bmvXFmt o.desc))
    ∀ k, k < 16 → ∃ e rk, (rowKeys e o l (bits (dw o.desc 4) 31 0 + 16 * i + k)).1 = .ok rk ∧
      let start := if o.acc then enc .f32 (val fmt (leNat (((d.bytes ks).drop (k * n)).take n))) else 0
      let v := (bankRow l.fmt (bits (dw o.desc 5) 15 0) (d.bytes rk) x start).1
      (bs.drop (k * n)).take n = leBytes n (if n = 2 then (roundNum .bf16 1 (val .f32 v)).1 else v)

/-- The sum of a row of a bank product: block after block of 32 elements, the products with x summed exactly, times the scale, rounded once, and
added with one rounding; and what a block holds in each weight format (02 R53, R73; 10 R264). -/
def bankSums : Prop :=
  (∀ fmt c row xs start,
    let term (j : Nat) : Nat := (roundNum .f32 1 (mulX (xsum 1 (List.zipWith mulX (bankBlock fmt c row j).1 (xs.drop (32 * j)))).1
      (bankBlock fmt c row j).2.1)).1
    (bankRow fmt c row xs start).1 =
      (List.range (c / 32)).foldl (fun v j => (onceRounded .f32 0 1 (val .f32 v) (val .f32 (term j)) Num.zero).1) start) ∧
  (∀ c row j, 32 * (j + 1) ≤ row.length →
    bankBlock 1 c row j = ((List.range 32).map fun i => val .e4m3 (row.getD (32 * j + i) 0).toNat, Num.one, false)) ∧
  (∀ c row j, 64 * (j + 1) ≤ row.length →
    bankBlock 2 c row j = ((List.range 32).map fun i =>
      val .bf16 ((row.getD (64 * j + 2 * i) 0).toNat + 256 * (row.getD (64 * j + 2 * i + 1) 0).toNat), Num.one, false)) ∧
  ∀ c row j, let sc := ue5m3 (row.getD (c / 2 + j) 0).toNat
    let quad (i : Nat) : List Num × Bool := q4xAt (leNat ((row.drop (16 * j)).take 16)) (4 * (i / 4))
    (bankBlock 0 c row j).2.1 = sc ∧ ∀ i, i < 32 → (bankBlock 0 c row j).1[i]? =
      if sc.isZero then some Num.zero else if sc.isNan then some (Num.nan false) else (quad i).1[i % 4]?

/-- A request for a walk has its result: it is in flight no more, and the parts that asked for it hold it (12 R299). -/
def Gets (s : State) (d : Device) (y : WalkReq) (e : WalkEnd) : Prop :=
  y ∉ d.walkQ ∧ ∀ w, s.dev.waves.get? y.wave = some w → ∃ w', d.waves.get? y.wave = some w' ∧ w'.vregs = w.vregs ∧ w'.flags = w.flags ∧
    ∀ p ∈ w.parts, p.quads &&& y.quads ≠ 0 → ∃ p' ∈ w'.parts, p'.quads = p.quads ∧ p'.sregs = p.sregs ∧ (⟨y.va, e⟩ : Walked) ∈ p'.walked

/-- Lanes that an instruction needs its part to cover in a wave of some lanes; none without a width requirement (04 R113; 05 R145; 07 R186, R189). -/
def wants (lanes : Nat) : Instr → Option Nat
  | .fuse c => some (if c = 5 then lanes else min lanes (4 * 2 ^ c.toNat))
  | .mma _ _ _ _ _ _ _ _ sh => some (min lanes ([16, 16, 32, 32].getD sh.toNat 64))
  | .vshuf _ _ _ _ | .vswz _ _ _ _ | .vbcast _ _ _ _ | .vscanI32 _ _ _ | .vscanF32 _ _ _ | .vconflict _ _ _ | .vcombineF32 _ _ _ _
  | .vcombineI32 _ _ _ _ | .vredaddI32 _ _ _ | .vredaddF32 _ _ _ | .vredmaxF32 _ _ _ | .vredminF32 _ _ _ | .vredmaxI32 _ _ _
  | .vredminI32 _ _ _ | .vredand _ _ _ | .vredor _ _ _ | .visect _ _ _ _ => some lanes
  | _ => none

/-- The register that names the descriptor of an engine or a bank instruction (06 R169, R181). -/
def describedAt : Instr → Option SReg
  | .tcopy _ _ a => some a
  | .gather _ _ a => some a
  | .putsig a => some a
  | .bmv _ a => some a
  | .bmvacc _ a => some a
  | _ => none

/-- Bytes of an element of each VT code (03 R88). -/
def typeBytes : List Nat := [4, 2, 2, 1, 1, 4, 4, 8]

/-- K of each type (07 R185). -/
def depth : List Nat := [32, 32, 64, 64, 64, 128, 128]

/-- Bits of an element of B of each type (07 R185). -/
def bitsB : List Nat := [16, 16, 8, 8, 8, 4, 4]

/-- Columns of each shape (07 R186). -/
def columns : List Nat := [64, 128, 128, 256, 256, 128, 256, 512]

/-- Units that each shape needs with C = 0 (07 R186). -/
def unitsAlone : List Nat := [1, 1, 1, 2, 4, 2, 8, 0]

/-- Units that each shape needs with C = 1 (07 R186). -/
def unitsCourse : List Nat := [1, 1, 1, 1, 2, 1, 4, 8]

/-- A debugger command ends with a result. -/
def Answers (i : Instr) (s : State) (fn r : Nat) : Prop := exec i s = .next { s with dev := s.dev.dbgDone fn r }

/-- A stop that a debugger asked for, or that it makes a kill. -/
def stopAsked (d : Device) (kill : Bool) : Halt := ⟨trapOf 0 0 0 0 0, none, false, false, kill, d.clk.cycle⟩

/-- A part after the release of a set: held at its GBAR, it may commit with the largest arrival time of those held (06 R180). -/
def released (d : Device) (k : Nat) (held : List Part) (q : Part) : Part :=
  if atGbar k q then { q with gbarGo := (k, held.foldl (fun t p => tmax d.pulse t p.pts) d.floor) :: q.gbarGo } else q

/-- The special functions at their special points: function, operand, result and what is raised (05 R143). -/
def sfuPoints : List (Nat × Nat × Nat × Fx) :=
  let q := 0x7FC00000
  let neg := 0xFF800000
  let mz := 0x80000000
  let inf := 0x7F800000
  let one := 0x3F800000
  [(0, neg, mz, 0), (0, mz, neg, fxDZ), (0, 0, inf, fxDZ), (0, inf, 0, 0), (1, neg, q, fxNV), (1, mz, neg, fxDZ), (1, 0, inf, fxDZ),
    (1, inf, 0, 0), (2, neg, q, fxNV), (2, mz, mz, 0), (2, 0, 0, 0), (2, inf, inf, 0), (3, neg, 0, 0), (3, mz, one, 0), (3, 0, one, 0),
    (3, inf, inf, 0), (4, neg, q, fxNV), (4, mz, neg, fxDZ), (4, 0, neg, fxDZ), (4, inf, inf, 0), (5, neg, q, fxNV), (5, mz, mz, 0),
    (5, 0, 0, 0), (5, inf, q, fxNV), (6, neg, q, fxNV), (6, mz, one, 0), (6, 0, one, 0), (6, inf, q, fxNV), (7, neg, one + mz, 0),
    (7, mz, mz, 0), (7, 0, 0, 0), (7, inf, one, 0), (4, one, 0, 0), (5, 0xBF000000, mz, 0), (5, 0x40400000, 0, 0), (2, 2, 0x1A800000, 0),
    (3, 0xC0400000, 0x3E000000, 0)]

/-! ### Ray tests, as 08 R220 and R222 give them -/

/-- RAYTRI from the components of origin, direction and vertices: t, u and v, or a miss (08 R219, R220). -/
def rayRule (o d : Nat → Num) (tm : Num) (v : Nat → Nat → Num) : Option (Num × Num × Num) :=
  let kz := ([0, 1, 2].find? fun k => [0, 1, 2].all fun j => leN (d j).abs (d k).abs).getD 2
  let back := (d kz).neg?
  let kx := if back then (kz + 2) % 3 else (kz + 1) % 3
  let ky := if back then (kz + 1) % 3 else (kz + 2) % 3
  let sx := rne (divNum (d kx) (d kz))
  let sy := rne (divNum (d ky) (d kz))
  let sz := rne (divNum Num.one (d kz))
  let p (i k : Nat) : Num := rne (minus (v i k) (o k))
  let x (i : Nat) : Num := rne (minus (p i kx) (mulX sx (p i kz)))
  let y (i : Nat) : Num := rne (minus (p i ky) (mulX sy (p i kz)))
  let z (i : Nat) : Num := rne (mulX sz (p i kz))
  let e (i j : Nat) : Num := minus (mulX (x i) (y j)) (mulX (y i) (x j))
  let es := [e 2 1, e 0 2, e 1 0]
  let det := rne (xsum 1 (es.map rne)).1
  let top := rne (xsum 1 [mulX (rne (e 2 1)) (z 0), mulX (rne (e 0 2)) (z 1), mulX (rne (e 1 0)) (z 2)]).1
  let t := rne (divNum top det)
  let u := rne (divNum (rne (e 0 2)) det)
  let w := rne (divNum (rne (e 1 0)) det)
  let read := [tm] ++ [0, 1, 2].flatMap fun k => [o k, d k, v 0 k, v 1 k, v 2 k]
  let made := [sx, sy, sz, det, top, t, u, w] ++ es ++ [0, 1, 2].flatMap fun i => [x i, y i, z i]
  if read.any Num.isNan then none
  else if (d kz).isZero then none
  else if made.any Num.isNan then none
  else if es.any (fun a => decide (sgn a < 0)) && es.any (fun a => decide (0 < sgn a)) then none
  else if det.isZero then none
  else if decide (0 < sgn t) && leN t tm then some (t, u, w)
  else none

/-- The interval of an axis for RAYBOX, or a miss (08 R222): rounded down and up. -/
def axisRule (o r lo hi : Num) : Option (Num × Num) :=
  let a := mulX (minus lo o) r
  let b := mulX (minus hi o) r
  if cmpNum lo hi = 1 then none
  else if r.isInf then (if cmpNum lo o ≠ 1 ∧ cmpNum o hi ≠ 1 then some (.inf true, .inf false) else none)
  else if a.isNan || b.isNan then none
  else some (val .f32 (roundNum .f32 4 (minN a b)).1, val .f32 (roundNum .f32 3 (maxN a b)).1)

/-! ### What an MMA computes, as 02 R67 and 07 R189 to R191 and R204 give it -/

/-- Element k of a row of A (07 R189). -/
def elemA (ty : Nat) (row : List Word32) (k : Nat) : Num :=
  match ty with
  | 0 => val .bf16 (elem 16 (k % 2) (row.getD (k / 2) 0))
  | 1 => val .f16 (elem 16 (k % 2) (row.getD (k / 2) 0))
  | 3 => val .e5m2 (elem 8 (k % 4) (row.getD (k / 4) 0))
  | 4 => Num.ofInt (sextNat 8 (elem 8 (k % 4) (row.getD (k / 4) 0)))
  | 6 => Num.ofInt (sextNat 8 (elem 8 (k % 4) (row.getD (k / 4) 0)))
  | _ => val .e4m3 (elem 8 (k % 4) (row.getD (k / 4) 0))

/-- The quad of Q4X elements that holds element k of column n (02 R50, R53; 07 R190). -/
def quadB (g : Group) (r : OBRec) (n k : Nat) : List Num × Bool := q4xAt (spadNat g (r.base + (n * 128 + k / 4 * 4) / 2) 2) 0

/-- Element (k, n) of a dense B (07 R190). -/
def denseB (g : Group) (r : OBRec) (n k : Nat) : Num :=
  match r.fmt with
  | 0 => val .bf16 (spadNat g (r.base + 2 * (n * 32 + k)) 2)
  | 1 => val .f16 (spadNat g (r.base + 2 * (n * 32 + k)) 2)
  | 2 => val .e4m3 (spadNat g (r.base + (n * 64 + k)) 1)
  | 3 => val .e5m2 (spadNat g (r.base + (n * 64 + k)) 1)
  | 4 => Num.ofInt (sextNat 8 (spadNat g (r.base + (n * 64 + k)) 1))
  | 5 => (quadB g r n k).1.getD (k % 4) Num.zero
  | _ => Num.ofInt (sextNat 4 (spadNat g (r.base + (n * 128 + k) / 2) 1 / 16 ^ (k % 2) % 16))

/-- Whether element (k, n) of a sparse B is present under a pattern (07 R191, R204). -/
def present (pat : List Nat) (n k : Nat) : Bool := (pat.getD n 0).testBit k

/-- How many present elements stand before element (k, n), column by column and in each by rising k (07 R204). -/
def presentBefore (pat : List Nat) (depth n k : Nat) : Nat :=
  ((List.range n).map fun c => ((List.range depth).filter (present pat c)).length).sum + ((List.range k).filter (present pat n)).length

/-- Element (k, n) of a sparse B: the value of its place among those present, after the bitmap; what lies past the record is zero
(07 R204). -/
def sparseB (g : Group) (r : OBRec) (nt : Nat) (pat : List Nat) (n k : Nat) : Num :=
  let d := depth.getD r.fmt 0
  let sz := bitsB.getD r.fmt 0 / 8
  let off := r.base + nt * d / 8 + presentBefore pat d n k * sz
  let x := leNat ((List.range sz).map fun j => if off + j < r.base + r.size then g.spad.get (off + j) else 0)
  match r.fmt with
  | 0 => val .bf16 x
  | 1 => val .f16 x
  | 2 => val .e4m3 x
  | 3 => val .e5m2 x
  | _ => Num.ofInt (sextNat 8 x)

/-- The scale of block j of column n, 1 when the record has no block length (02 R67; 07 R190). -/
def scaleB (g : Group) (r : OBRec) (n j : Nat) : Num :=
  if r.blen = 0 then Num.one else ue5m3 (g.spad.get (r.soff + n * (depth.getD r.fmt 0 / (8 * 2 ^ r.blen)) + j)).toNat

/-- Element (k, n) of B under its scale: a zero scale makes it +0, a NaN scale NaN (02 R52); none where it is absent. -/
def scaledB (g : Group) (r : OBRec) (nt : Nat) (pat : List Nat) (n j k : Nat) : Option Num :=
  let sc := scaleB g r n j
  let under (x : Num) : Num := if sc.isZero then Num.zero else if sc.isNan then .nan false else x
  if r.sparse then (if present pat n k then some (under (sparseB g r nt pat n k)) else none) else some (under (denseB g r n k))

/-- One K-block of one element of the result: nothing where no element of B is present; for integers the exact sum modulo 2^32; else the
exact sum of the products, scaled and rounded once, and added with one rounding (02 R67; 07 R191). -/
def blockStep (g : Group) (r : OBRec) (nt : Nat) (pat : List Nat) (row : List Word32) (n : Nat) (acc : Word32) (j : Nat) : Word32 :=
  let kb := if r.blen = 0 then 32 else 8 * 2 ^ r.blen
  let terms := (List.range kb).filterMap fun i => (scaledB g r nt pat n j (j * kb + i)).map fun b => mulX (elemA r.fmt row (j * kb + i)) b
  if terms = [] then acc
  else if r.fmt = 4 ∨ r.fmt = 6 then acc + BitVec.ofInt 32 ((terms.map fun x => alignTo x.smant x.expo 0).sum)
  else
    let q := (roundNum .f32 1 (mulX (mulX (xsum 1 terms).1 (scaleB g r n j)) (val .f32 r.tscale.toNat))).1
    BitVec.ofNat 32 (fAdd .f32 1 (val .f32 acc.toNat) (val .f32 q)).1

/-! ### Launch packets, as 09 R238 to R244 give their rules -/

/-- Reserved fields of a packet: dword, high bit, low bit (09 R238). -/
def reservedFields : List (Nat × Nat × Nat) :=
  [(0, 63, 27), (0, 14, 14), (3, 63, 37), (4, 63, 28), (4, 7, 7), (11, 63, 13), (13, 63, 0)] ++
    ((List.range 4).flatMap fun i => [(14 + i, 63, 31), (14 + i, 23, 23)]) ++
    (List.range 3).flatMap fun p => [(26 + 2 * p, 63, 28), (26 + 2 * p, 19, 19), (27 + 2 * p, 63, 0)]

/-- A field of a packet's dword. -/
def pkField (pk : List Word64) (i hi lo : Nat) : Nat := bits (dw pk i) hi lo

/-- Roles of a packet that contain a wave. -/
def rolesWith (pk : List Word64) (w : Nat) : List Nat :=
  (List.range (pkField pk 0 19 18 + 1)).filter fun i => decide (pkField pk (14 + i) 22 16 ≤ w) &&
    decide (w < pkField pk (14 + i) 22 16 + pkField pk (14 + i) 30 24)

/-- An allotment that 01 R10 allows. -/
def allotted (n : Nat) : Prop := n % 8 = 0 ∧ 8 ≤ n ∧ n ≤ 128

/-- Whether groups `a` and `b` are a course pair of a row (09 R239). -/
def pairOf (r : Word64 × Word64) (a b : Nat) : Prop :=
  bits r.1 9 8 = 1 ∧ ∃ i, 2 * i + 1 < bits r.1 31 16 ∧ a = bits r.1 63 32 + 2 * i ∧ b = a + 1

/-- A core that may hold a group: enabled, not retired, and with L1 fusion in a cluster of four such cores (09 R243, 10 R260). -/
def mayHold (d : Device) (fused : Bool) (core : Nat) : Prop :=
  let ok (c : Nat) : Prop := c < d.mgmt.cores ∧ c < 192 ∧ (d.core c).retired = false
  ok core ∧ (fused = true → ∀ i, i < 4 → ok (core / 4 * 4 + i))

/-- The cores from `s` on suit the `m` groups from index `first` on (09 R243). -/
def sits (d : Device) (pk : List Word64) (rows : List (Word64 × Word64)) (first m s : Nat) : Prop :=
  s / 96 = (s + m - 1) / 96 ∧ ∀ i, i < m → mayHold d (bit (dw pk 0) 13) (s + i) ∧
    ∀ p, partnerIndex rows (first + i) = some p → (s + i) % 2 = if first + i < p then 0 else 1

/-- Groups in cohort `c` of a packet. -/
def cohortOf (pk : List Word64) (c : Nat) : Nat :=
  min (pkField pk 3 36 32 + 1) (pkField pk 3 31 0 - c * (pkField pk 3 36 32 + 1))

/-- The rule that each refusal cause names is broken (09 R240). -/
def broken (d : Device) (sp : Nat × Nat) (t : Tables) (pk : List Word64) : Nat → Prop
  | 1 => pkField pk 0 7 0 ≠ 1 ∨ ∃ x ∈ reservedFields, pkField pk x.1 x.2.1 x.2.2 ≠ 0
  | 2 => 5 ≤ pkField pk 0 12 10
  | 3 => (∃ i ∈ List.range (pkField pk 0 19 18 + 1), ¬ allotted (pkField pk (14 + i) 7 0) ∨ ¬ allotted (pkField pk (14 + i) 15 8) ∨
      pkField pk (14 + i) 15 8 < pkField pk (14 + i) 7 0 ∨ pkField pk 4 6 0 < pkField pk (14 + i) 22 16 + pkField pk (14 + i) 30 24) ∨
      ∃ w, w < pkField pk 4 6 0 ∧ (rolesWith pk w).length ≠ 1
  | 4 => pkField pk 3 31 0 = 0 ∨ pkField pk 4 6 0 = 0 ∨ 64 < pkField pk 4 6 0 ∨
      2048 < pkField pk 4 6 0 * (4 * 2 ^ pkField pk 0 12 10) ∨ pkField pk 4 27 8 % 64 ≠ 0 ∨ 524288 < pkField pk 4 27 8 ∨
      bindWaves [] (prologueNeeds pk) = none
  | 5 => 4096 < pkField pk 11 12 0 ∨
      (∃ r ∈ t.rows, bits r.1 15 10 ≠ 0 ∨ 2 ≤ bits r.1 9 8 ∨ bits r.1 31 16 = 0 ∨ (bits r.1 9 8 = 1 ∧ bits r.1 31 16 % 2 = 1)) ∨
      (∃ r ∈ t.rows, ∃ a b, pairOf r a b ∧ (pkField pk 3 31 0 ≤ b ∨ a / (pkField pk 3 36 32 + 1) ≠ b / (pkField pk 3 36 32 + 1))) ∨
      ¬ ((t.rows.flatMap rowPairs).eraseDups.flatMap fun p => [p.1, p.2]).Nodup ∨
      ∃ g w, g < pkField pk 3 31 0 ∧ w < pkField pk 4 6 0 ∧ 5 ≤ ((List.range 256).filter fun k => inSet t.rows k g w).length
  | 6 => 65536 < cohortOf pk 0 * pkField pk 4 6 0 * (4 * 2 ^ pkField pk 0 12 10) ∨
      ∃ c, (bit (dw pk 0) 13 = true ∧ c = 0 ∨ ∃ r ∈ t.rows, ∃ a b, pairOf r a b ∧ a / (pkField pk 3 36 32 + 1) = c) ∧
        ∀ s, s < 192 → ¬ sits d pk t.rows (c * (pkField pk 3 36 32 + 1)) (cohortOf pk c) s
  | 7 => 4 < pkField pk 0 17 15 ∨ ∃ j, j < pkField pk 0 17 15 ∧ (dw pk (18 + 2 * j)).toNat % 8 ≠ 0
  | 8 => ∃ x ∈ pipes pk, bits x.2 23 20 = 0 ∨ pkField pk 0 19 18 < bits x.2 27 26 ∨ pkField pk 0 19 18 < bits x.2 25 24 ∨ bits x.2 18 0 % 64 ≠ 0 ∨
      pkField pk 4 27 8 < bits x.2 18 0 + 64 * bits x.2 23 20 ∨
      ∃ y ∈ pipes pk, x.1 ≠ y.1 ∧ (bits x.2 27 26 = bits y.2 27 26 ∨ bits x.2 25 24 = bits y.2 25 24)
  | 9 => ∃ l ∈ d.launches, l.2.complete = false ∧ dw l.2.packet 12 &&& dw pk 12 ≠ 0
  | 10 => isHeader d sp (dw pk 1) = false ∨ (dw pk 2).toNat % 64 ≠ 0 ∨ (dw pk 6).toNat % 8 ≠ 0 ∨ (dw pk 10).toNat % 16 ≠ 0 ∨ t.bad ≠ []
  | 11 => dw pk 5 ≠ 0 ∧ (bits (dw pk 5) 2 0 = 0 ∨ bits (dw pk 5) 2 0 = 7 ∨ ¬ jointLegal (bits (dw pk 5) 20 16) ∨
      bits (dw pk 5) 15 9 ≠ 0 ∨ bits (dw pk 5) 63 21 ≠ 0)
  | _ => False

/-- A packet is entered as the launch of a number on a device that has taken it from its queue: nothing happens while something that it names has
to wait; a refused one gets its status word with state 3, and every other one waits for admission (09 R237, R240, R241). -/
def Enters (i : Instr) (s : State) (d : Device) (seq fn as queue : Nat) (pk : List Word64) (start : Word64) : Prop :=
  let t := d.tablesOf (fn, as) pk
  let c := d.refusal (fn, as) t.1 pk
  let l : Launch := { fn := fn, as := as, queue := queue, packet := pk, args := t.1.args, sets := t.1.rows, start := start,
                      fetched := d.clk.ns, time := 0, depsMet := false, admitted := 0, failed := false, refused := c, complete := c.isSome }
  let d1 : Device := { t.2 with launches := d.launches.set seq l }
  (t.1.bad.contains .wait = true → exec i s = .next s) ∧
  (t.1.bad.contains .wait = false → d1.mem = d.mem ∧
    (c = none → exec i s = .next { s with dev := d1 }) ∧
    ∀ n, c = some n →
      (d1.writeStatus seq l 3 n start = none → exec i s = .next s) ∧
      ∀ d2, d1.writeStatus seq l 3 n start = some d2 → exec i s = .next { s with dev := d2 })

/-- A core takes a group of a packet: its cluster may, 2,048 lanes and the scratchpad suffice, and its waves bind; with the bindings and the base
of its scratchpad (09 R243, R244; 10 R256). -/
def takes (d : Device) (launch : Nat) (l : Launch) (core : Nat) (b : List Bound × Nat) : Prop :=
  d.clusterOk launch core = true ∧ d.lanesOn core + pkField l.packet 4 6 0 * (4 * 2 ^ pkField l.packet 0 12 10) ≤ 2048 ∧
    bindWaves (d.taken core) (prologueNeeds l.packet) = some b.1 ∧ d.spadGap core (pkField l.packet 4 27 8) = some b.2

/-- Word of accumulator memory of element (r, c) of a tile at a row pitch, where it lies in the tile (07 R199, R200). -/
def placeOf (t : Tile) (pitch r c : Nat) : Option Nat :=
  if c < pitch ∧ 4 * (r * pitch + c) < 16384 * t.units then some (t.first * 4096 + (r * pitch + c)) else none
/-! ### Values of floating-point instructions, as their rules give them -/

/-- Largest finite pattern, infinity and sign bit of a format; E4M3 has no infinity, and its canonical NaN stands for one (02 R46, R56). -/
def limits : Fmt → Nat × Nat × Nat
  | .f64 => (0x7FEFFFFFFFFFFFFF, 0x7FF0000000000000, 2 ^ 63)
  | .f32 => (0x7F7FFFFF, 0x7F800000, 2 ^ 31)
  | .f16 => (0x7BFF, 0x7C00, 2 ^ 15)
  | .bf16 => (0x7F7F, 0x7F80, 2 ^ 15)
  | .e5m2 => (0x7B, 0x7C, 2 ^ 7)
  | .e4m3 => (0x7E, 0x7F, 2 ^ 7)

/-- The largest finite value of a sign. -/
def largest (f : Fmt) (neg : Bool) : Nat := (limits f).1 + if neg then (limits f).2.2 else 0

/-- An infinity of a sign, or the canonical NaN of E4M3. -/
def endless (f : Fmt) (neg : Bool) : Nat := if f = .e4m3 then 0x7F else (limits f).2.1 + if neg then (limits f).2.2 else 0

/-- NV of a signalling NaN among some operands (02 R48). -/
def signals (l : List Num) : Fx := if l.any Num.isSNan then fxNV else 0

/-- Conversion (02 R64; 05 R141): into a float, into an integer of a range, between the integer types, from F32 to F32, and the pairs that are exact
for every value, which ignore sat. -/
def conversionRules : Prop :=
  (∀ f mode x, cvtToFloat f mode false x = ((roundNum f mode x).1, (roundNum f mode x).2 ||| signals [x]) ∧
    (x.isInf = true → cvtToFloat f mode true x = (largest f x.neg?, 0)) ∧
    (x.isInf = false → (roundNum f mode x).2 &&& fxOF = 0 → cvtToFloat f mode true x = cvtToFloat f mode false x) ∧
    (x.isInf = false → (roundNum f mode x).2 &&& fxOF ≠ 0 → cvtToFloat f mode true x = (largest f x.neg?, (roundNum f mode x).2))) ∧
  (∀ lo hi mode sat x, let r := roundInt mode x
    (x.isNan = true → cvtToInt lo hi mode sat x = (0, fxNV)) ∧
    (x.isInf = true → cvtToInt lo hi mode sat x = (if x.neg? then lo else hi, if sat then 0 else fxNV)) ∧
    (x.isNan = false → x.isInf = false →
      (r.1 < lo → cvtToInt lo hi mode sat x = (lo, if sat then fxNX else fxNV)) ∧
      (lo ≤ r.1 → hi < r.1 → cvtToInt lo hi mode sat x = (hi, if sat then fxNX else fxNV)) ∧
      (lo ≤ r.1 → r.1 ≤ hi → cvtToInt lo hi mode sat x = (r.1, if r.2 then fxNX else 0)))) ∧
  (∀ mode sat ftz b, b < 2 ^ 32 →
    convert .i32 .u32 mode sat ftz b = (if sat = true ∧ 2 ^ 31 ≤ b then (0, fxNX) else (b, 0)) ∧
    convert .u32 .i32 mode sat ftz b = (if sat = true ∧ 2 ^ 31 ≤ b then (0x7FFFFFFF, fxNX) else (b, 0))) ∧
  (∀ mode sat ftz b, let x := f32 ftz b; let r := roundInt mode x
    (x.isNan = true → convert (.flt .f32) (.flt .f32) mode sat ftz b = (0x7FC00000, signals [x])) ∧
    (x.isInf = true → convert (.flt .f32) (.flt .f32) mode sat ftz b = (if sat then largest .f32 x.neg? else endless .f32 x.neg?, 0)) ∧
    (x.isNan = false → x.isInf = false → convert (.flt .f32) (.flt .f32) mode sat ftz b =
      (if r.1 = 0 then (if x.neg? then 2 ^ 31 else 0) else enc .f32 (Num.ofInt r.1), if r.2 then fxNX else 0))) ∧
  (∀ s mode sat ftz b,
    (s ≠ .flt .f32 → (s ∈ [.flt .f16, .flt .bf16, .flt .e4m3, .flt .e5m2] →
        convert s (.flt .f32) mode sat ftz b = flushRes ftz (cvtToFloat .f32 mode false (cvtSrc s ftz b))) ∧
      (s ∉ [.flt .f16, .flt .bf16, .flt .e4m3, .flt .e5m2] →
        convert s (.flt .f32) mode sat ftz b = flushRes ftz (cvtToFloat .f32 mode sat (cvtSrc s ftz b)))) ∧
    (∀ f, f ≠ .f32 → convert s (.flt f) mode sat ftz b =
      cvtToFloat f mode (if f = .f64 ∨ s = .flt .e4m3 ∧ f ≠ .e5m2 ∨ s = .flt .e5m2 ∧ f ≠ .e4m3 then false else sat) (cvtSrc s ftz b)) ∧
    (s ≠ .u32 → convert s .i32 mode sat ftz b =
      (((cvtToInt (-2147483648) 2147483647 mode sat (cvtSrc s ftz b)).1 % 2 ^ 32).toNat, (cvtToInt (-2147483648) 2147483647 mode sat (cvtSrc s ftz b)).2)) ∧
    (s ≠ .i32 → convert s .u32 mode sat ftz b =
      ((cvtToInt 0 4294967295 mode sat (cvtSrc s ftz b)).1.toNat, (cvtToInt 0 4294967295 mode sat (cvtSrc s ftz b)).2))) ∧
  (∀ ftz b, cvtSrc .i32 ftz b = Num.ofInt (sextNat 32 b) ∧ cvtSrc .u32 ftz b = Num.ofInt (b % 2 ^ 32 : Nat) ∧ cvtSrc (.flt .f32) ftz b = f32 ftz b) ∧
  ∀ ftz b f, f ≠ .f32 → cvtSrc (.flt f) ftz b = val f (b % 2 ^ f.width)

/-- The conditions of VCMPF and the classes of VCLASS.F32 (05 R138, R144). -/
def comparisonRules : Prop :=
  (∀ a b, let u := a.isNan || b.isNan; let c := cmpNum a b; let q := signals [a, b]; let v : Fx := if u then fxNV else 0
    cmpF 0 a b = (!u && decide (c = 0), q) ∧ cmpF 1 a b = (u || decide (c ≠ 0), q) ∧ cmpF 2 a b = (!u && decide (c < 0), v) ∧
    cmpF 3 a b = (!u && decide (c ≤ 0), v) ∧ cmpF 4 a b = (!u && decide (0 < c), v) ∧ cmpF 5 a b = (!u && decide (0 ≤ c), v) ∧
    cmpF 6 a b = (u, q) ∧ cmpF 7 a b = (!u, q)) ∧
  ∀ b, b < 2 ^ 32 →
    let neg := decide (2 ^ 31 ≤ b)
    let ex := b / 2 ^ 23 % 2 ^ 8
    let fr := b % 2 ^ 23
    class32 b =
      if ex = 255 then (if fr = 0 then (if neg then 0 else 7) else if fr < 2 ^ 22 then 8 else 9)
      else if ex = 0 then (if fr = 0 then (if neg then 3 else 4) else if neg then 2 else 5)
      else if neg then 1 else 6

/-- Trees over the lanes, prefixes and combined sums (02 R69, R70, R72; 05 R146, R148). The lanes that an addition reports are the active ones below
its node. -/
def treeRules : Prop :=
  (∀ (p : Spec) f term,
    treeTop p f term = treeNode p f term (p.wav.width + 2) 0 ∧ (∀ i, treeNode p f term 0 i = (term i, [])) ∧
    ∀ j i, let x := treeNode p f term j (2 * i); let y := treeNode p f term j (2 * i + 1)
      (treeNode p f term (j + 1) i).1 = (f x.1 y.1).1 ∧
      ∀ e, e ∈ (treeNode p f term (j + 1) i).2 ↔ e ∈ x.2 ∨ e ∈ y.2 ∨
        (e.2 = (f x.1 y.1).2 ∧ e.2 ≠ 0 ∧ e.1 ∈ p.act ∧ i * 2 ^ (j + 1) ≤ e.1 ∧ e.1 < (i + 1) * 2 ^ (j + 1))) ∧
  (∀ (p : Spec) a ident l, leafF32 p a ident l = if l ∈ p.act then ftzBits p.ftz (p.vreg a l).toNat else ident) ∧
  (∀ mode ftz x y, addF32 mode ftz x y =
    flushRes ftz (onceRounded .f32 0 mode (val .f32 x) (val .f32 y) Num.zero)) ∧
  (∀ (p : Spec) a l, l < 64 →
    let node (k : Nat) : Nat := (treeNode p (addF32 (modeOf p 0) p.ftz) (leafF32 p a 0) k ((l + 1) / 2 ^ (k + 1) * 2)).1
    let blocks := ((List.range 7).reverse.filter fun k => (l + 1).testBit k).map node
    (scanSum p a l).1 = blocks.tail.foldl (fun x y => (addF32 (modeOf p 0) p.ftz x y).1) (blocks.headD 0)) ∧
  ∀ (p : Spec) a b l,
    let same := p.act.filter fun j => p.vreg b j == p.vreg b l
    let term (j : Nat) : Nat := ftzBits p.ftz (p.vreg a j).toNat
    (same.head? = some l →
      (combineF p a b l).1 = same.tail.foldl (fun x j => (addF32 1 p.ftz x (term j)).1) (term l)) ∧
    (same.head? ≠ some l → combineF p a b l = (0, 0))

/-- A power of two rounded to F32 (05 R150). -/
def pow2 (x : Num) : Nat × Fx := roundNum .f32 1 (exp2Of x)

/-- SMXUPD and SMXFIN (05 R150, R151): NaN and infinities first, then what changes nothing, then the formula. -/
def softmaxRules : Prop :=
  (∀ m s x c, let vm := val .f32 m; let vs := val .f32 s; let vx := val .f32 x; let vc := val .f32 c
    let top (n : Num) : Prop := n = .inf false
    let wrong := vm.isNan = true ∨ vs.isNan = true ∨ vx.isNan = true ∨ vc.isNan = true ∨ top vm ∨ top vx
    (wrong → smxUpd m s x c = (0x7FC00000, 0x7FC00000, signals [vm, vs, vx, vc] ||| if top vm ∨ top vx then fxNV else 0)) ∧
    (¬ wrong → (vx = .inf true ∨ vc.isZero = true) → smxUpd m s x c = (m, s, 0)) ∧
    (¬ wrong → vx ≠ .inf true → vc.isZero = false →
      let m' := if cmpNum vm vx < 0 ∨ cmpNum vm vx = 0 ∧ (vm.neg? = true ∨ vx.neg? = false) then x else m
      let e1 := if vm = .inf true then (0, 0) else pow2 (minus vm (val .f32 m'))
      let e2 := pow2 (minus vx (val .f32 m'))
      let a := roundNum .f32 1 (mulX vs (val .f32 e1.1))
      let b := roundNum .f32 1 (mulX vc (val .f32 e2.1))
      (smxUpd m s x c).1 = m' ∧ (smxUpd m s x c).2.1 = (onceRounded .f32 0 1 (val .f32 a.1) (val .f32 b.1) Num.zero).1)) ∧
  ∀ x m s, let vx := val .f32 x; let vm := val .f32 m; let vs := val .f32 s
    (vx.isNan = true ∨ vm.isNan = true ∨ vs.isNan = true → smxFin x m s = (0x7FC00000, signals [vx, vm, vs])) ∧
    (vx.isNan = false → vm.isNan = false → vs.isNan = false →
      (vm = .inf true ∨ vs.isZero = true → smxFin x m s = (0, 0)) ∧
      (vm ≠ .inf true → vs.isZero = false →
        (smxFin x m s).1 = (roundNum .f32 1 (divNum (val .f32 (pow2 (minus vx vm)).1) vs)).1))

/-- RSVUPD, RSVMRG and RSVFIN (08 R215 to R217): one candidate, the weight of a reservoir that is merged, and the weight that is reported. -/
def reservoirRules : Prop :=
  (∀ (r : Rsv) w u y phat dm, let vw := val .f32 w
    let good := vw.isNan = false ∧ vw.isInf = false ∧ 0 < cmpNum vw Num.zero
    let sum := (onceRounded .f32 0 1 (val .f32 r.wsum) (val .f32 (if good then w else 0)) Num.zero).1
    let t := (onceRounded .f32 2 1 (val .f32 u) (val .f32 sum) Num.zero).1
    let take := good ∧ (val .f32 t).isNan = false ∧ cmpNum (val .f32 t) vw < 0
    (rsvOffer r w u y phat dm).1 = ⟨if take then y else r.y, if take then phat else r.phat, sum, min (r.m + dm) 0xFFFFFFFF⟩) ∧
  (∀ ph w m, let x := (onceRounded .f32 2 1 (val .f32 ph) (val .f32 w) Num.zero).1
    (mergeW ph w m).1 = (onceRounded .f32 2 1 (val .f32 x) (val .f32 (enc .f32 (Num.ofInt m))) Num.zero).1) ∧
  ∀ r : Rsv, let ph := val .f32 r.phat; let ws := val .f32 r.wsum
    let den := val .f32 (onceRounded .f32 2 1 (val .f32 (enc .f32 (Num.ofInt r.m))) ph Num.zero).1
    let none' := r.m = 0 ∨ ph.isNan = true ∨ ¬ 0 < cmpNum ph Num.zero
    (none' → (rsvWeight r).1 = 0) ∧
    (¬ none' → ws = .inf false → (rsvWeight r).1 = 0x7F800000) ∧
    (¬ none' → ws ≠ .inf false → (ws.isNan = false → ws.isInf = false → den.isInf = true → (rsvWeight r).1 = 0) ∧
      (den.isInf = false → (rsvWeight r).1 = (roundNum .f32 1 (divNum ws den)).1))

/-! ### Decode checks, as 01 R11 and R13, 03 R81 to R90 and the chapters of the instructions give them -/

/-- `n` vector registers from one on lie below the allotment (01 R11). -/
def low {k : Nat} (p : Spec) (r : BitVec k) (n : Nat) : Prop := r.toNat + n ≤ p.allot

/-- A pair is named by its even register (01 R13). -/
def even {k : Nat} (r : BitVec k) : Prop := r.toNat % 2 = 0

/-- Registers of an operand end by v127 (08 R212). -/
def ends {k : Nat} (r : BitVec k) (n : Nat) : Prop := r.toNat + n ≤ 128

/-- The set-flag field that F selects is not 15 (03 R83). -/
def sets (p : Spec) (f : BitVec 1) : Prop := p.flagField (decide (f = 1)) ≠ 15

/-- The registers of an element of a size code: a legal code, a pair or a quadruple aligned, all below the allotment (01 R13, 06 R154). -/
def sized {k : Nat} (p : Spec) (z : BitVec 3) (r : BitVec k) : Prop :=
  z ≠ 7 ∧ (z = 5 → even r) ∧ (z = 6 → r.toNat % 4 = 0) ∧ low p r (codeRegs z.toNat)

/-- What the decode checks ask of an instruction at its slot; of any other instruction they ask nothing. -/
def lawful (p : Spec) : Instr → Prop
  | .vmov16 s d | .vadd16 s d | .vsub16 s d | .vmullo16 s d | .vand16 s d | .vor16 s d | .vxor16 s d | .vshl16 s d | .vshrl16 s d | .vshra16 s d
  | .vaddF3216 s d | .vsubF3216 s d | .vmulF3216 s d | .vmaxF3216 s d | .vminF3216 s d | .vmax16 s d => low p s 1 ∧ low p d 1
  | .vaddF32 r b a d _ | .vsubF32 r b a d _ | .vmulF32 r b a d _ | .vfmaF32 r b a d _ | .vaddF16x2 r b a d _ | .vsubF16x2 r b a d _
  | .vmulF16x2 r b a d _ | .vfmaF16x2 r b a d _ | .vaddBf16x2 r b a d _ | .vsubBf16x2 r b a d _ | .vmulBf16x2 r b a d _ | .vfmaBf16x2 r b a d _ =>
    r ≠ 7 ∧ low p b 1 ∧ low p a 1 ∧ low p d 1
  | .vaddF64 r b a d _ | .vsubF64 r b a d _ | .vmulF64 r b a d _ | .vfmaF64 r b a d _ =>
    r ≠ 7 ∧ even b ∧ even a ∧ even d ∧ low p b 2 ∧ low p a 2 ∧ low p d 2
  | .vadd b a d _ | .vsub b a d _ | .vmullo b a d _ | .vmulhi b a d _ | .vmulhu b a d _ | .vmad b a d _ | .vaddsat b a d _ | .vsubsat b a d _
  | .vmin b a d _ | .vmax b a d _ | .vminu b a d _ | .vmaxu b a d _ | .vand b a d _ | .vor b a d _ | .vxor b a d _ | .vandn b a d _ | .vshl b a d _
  | .vshrl b a d _ | .vshra b a d _ | .vrotl b a d _ | .vsel _ b a d _ | .vpkF16 b a d _ | .vpkBf16 b a d _ | .vpkb b a d _ | .vpkbh b a d _
  | .vminF32 b a d _ | .vmaxF32 b a d _ | .vminF16x2 b a d _ | .vmaxF16x2 b a d _ | .vminBf16x2 b a d _ | .vmaxBf16x2 b a d _
  | .vcopysignF32 b a d _ | .vdot2F16 b a d _ | .vdot2Bf16 b a d _ | .vdot4I8 b a d _ | .vdot4Ui8 b a d _ | .vdot4E4m3 b a d _ | .vdot4E5m2 b a d _
  | .vdot8Q4x b a d _ | .vdot8I4 b a d _ => low p a 1 ∧ low p b 1 ∧ low p d 1
  | .vpopc a d _ | .vclz a d _ | .vbrev a d _ | .vabs a d _ | .vaddi _ a d _ | .vshli _ a d _ | .vshrli _ a d _ | .vshrai _ a d _ | .vandi _ a d _
  | .vori _ a d _ | .vxori _ a d _ | .vmuli _ a d _ | .vbfxu _ _ a d _ | .vbfx _ _ a d _ | .vbfi _ _ a d _ | .vupkF16l a d _ | .vupkF16h a d _
  | .vupkBf16l a d _ | .vupkBf16h a d _ | .vrcp a d _ | .vrsq a d _ | .vsqrt a d _ | .vexp2 a d _ | .vlog2 a d _ | .vsin a d _ | .vcos a d _
  | .vtanh a d _ | .vclassF32 a d _ | .vrand _ a d _ | .vrandu _ a d _ => low p a 1 ∧ low p d 1
  | .vmovi _ d _ | .vmovs _ d _ | .vmovsh _ d _ | .vlane d _ | .vsetl _ _ d _ => low p d 1
  | .vgetl _ a _ _ => low p a 1
  | .vcmp _ b a _ _ | .vcmpf _ b a _ _ => low p a 1 ∧ low p b 1
  | .vcvt _ y x r a d _ => r ≠ 7 ∧ (x = y → x = 0) ∧ (x = 7 → even a ∧ low p a 2) ∧ (y = 7 → even d ∧ low p d 2) ∧ low p a 1 ∧ low p d 1
  | .vshuf b a d _ | .vcombineF32 b a d _ | .vcombineI32 b a d _ | .visect b a d _ => low p a 1 ∧ low p b 1 ∧ low p d 1
  | .vswz _ a d _ | .vbcast _ a d _ | .vscanI32 a d _ | .vscanF32 a d _ | .vconflict a d _ => low p a 1 ∧ low p d 1
  | .vredaddI32 a _ _ | .vredaddF32 a _ _ | .vredmaxF32 a _ _ | .vredminF32 a _ _ | .vredmaxI32 a _ _ | .vredminI32 a _ _ | .vredand a _ _
  | .vredor a _ _ => low p a 1
  | .smxupd b a d _ => even d ∧ low p a 1 ∧ low p b 1 ∧ low p d 2
  | .smxfin b a d _ => even b ∧ low p a 1 ∧ low p b 2 ∧ low p d 1
  | .rsvupd b a _ _ => ends a 2 ∧ ends b 2 ∧ low p a 2 ∧ low p b 2
  | .rsvmrg b a _ _ => ends a 4 ∧ ends b 2 ∧ low p a 4 ∧ low p b 2
  | .rsvfin _ d _ => ends d 2 ∧ low p d 2
  | .rsvrd _ d _ => ends d 4 ∧ low p d 4
  | .rsvwr a _ _ => ends a 4 ∧ low p a 4
  | .raytri b a d _ => ends a 7 ∧ ends b 9 ∧ ends d 3 ∧ low p a 7 ∧ low p b 9 ∧ low p d 3
  | .raybox b a d _ => ends a 7 ∧ ends b 6 ∧ ends d 2 ∧ low p a 7 ∧ low p b 6 ∧ low p d 2
  | .mma _ f c _ _ _ a y sh => y ≠ 7 ∧ sh.toNat < 8 ∧ (sh = 7 → c = 1) ∧ a.toNat % (if y.toNat < 5 then 16 else 32) = 0 ∧
      low p a ((if y.toNat < 5 then 16 else 32) * (if sh.toNat < 6 then 1 else 2)) ∧ sets p f
  | .accrd f _ d _ => sets p f ∧ low p d 1
  | .accwr _ v _ => low p v 1
  | .chartpf sh _ => sh.toNat < 8
  | .chartq f _ sh _ => sh.toNat < 8 ∧ sets p f
  | .talloc _ u _ => 1 ≤ u.toNat ∧ u.toNat ≤ 16
  | .sbfxu w _ _ _ | .sbfx w _ _ _ | .sbfi w _ _ _ => w.toNat ≤ 64
  | .bra _ | .brnz _ _ | .brz _ _ | .brm _ _ | .call _ | .callr _ | .ret _ | .loop _ _ | .loopi _ _ | .exit => p.slot + 1 = p.count
  | .join c => (c.toNat ≤ 20 ∨ c.toNat = 31) ∧ p.slot = 0
  | .fuse w => w.toNat ≤ 5
  | .sread _ s => s.toNat ≤ 8 ∨ 0x10 ≤ s.toNat ∧ s.toNat ≤ 0x19
  | .swrite _ s => 0x10 ≤ s.toNat ∧ s.toNat ≤ 0x19 ∧ s.toNat ≠ 0x16
  | .tqtake _ d | .gettime d => even d
  | .launch _ a => even a ∧ low p a 2
  | .vld _ _ z _ d f => sized p z d ∧ sets p f
  | .vst _ _ z _ s => sized p z s
  | .sld _ z _ d => z ≠ 7 ∧ (z = 6 → even d) ∧ sets p 0
  | .sst _ z _ d => z ≠ 7 ∧ (z = 6 → even d)
  | .ldl _ z a d f => sized p z d ∧ low p a 1 ∧ sets p f
  | .stl _ z a s => sized p z s ∧ low p a 1
  | .atoml o b a d f => (o = 7 → even b ∧ low p b 2) ∧ low p a 1 ∧ low p b 1 ∧ low p d 1 ∧ sets p f
  | .atomg c z o b _ _ f => c ≠ 3 ∧ (o = 7 → z = 0) ∧ (o = 6 → even b) ∧ sets p f
  | .atomgv b o _ d f => (o = 6 → even b ∧ low p b 2) ∧ low p b 1 ∧ low p d 1 ∧ sets p f
  | .fence _ s => s.toNat ≤ 10
  | .bmv f _ | .bmvacc f _ | .bstat f _ _ => sets p f
  | _ => True

/-- The parts of a wave that have not retired are at most four and share no quad, with at most 32 stack entries and two loop levels each (01 R15, R18,
R31). -/
def Wave.partsOk (w : Wave) : Prop :=
  (w.live.map (·.quads)).Pairwise (fun a b => a &&& b = 0) ∧ w.live.length ≤ 4 ∧
    ∀ q ∈ w.parts, q.stack.length ≤ 32 ∧ q.loops.length ≤ 2

/-- So it is of every wave of a device. -/
def Device.partsOk (d : Device) : Prop := ∀ x ∈ d.waves, x.2.partsOk

/-- So it is of the device and of the pass, whose part is one of its wave's; a clause that is to split its part splits off some of its quads, and may. -/
def State.partsOk (s : State) : Prop :=
  s.dev.partsOk ∧ ∀ p, s.spec = some p → p.dev.partsOk ∧ p.wav.partsOk ∧ p.prt.stack.length ≤ 32 ∧ p.prt.loops.length ≤ 2 ∧
    (∃ q ∈ p.wav.parts, q.quads = p.prt.quads) ∧
    ∀ x, p.split = some x → x.1 &&& ~~~ p.prt.quads = 0 ∧ p.wav.live.length < 4

/-- Memory has its one form, on the device and in the pass (01 R28). -/
def State.memoryOk (s : State) : Prop := Memory.wf s.dev.mem = true ∧ ∀ p, s.spec = some p → Memory.wf p.dev.mem = true


end Sys2Proof.Machine

open Sys2Proof Sys2Proof.Machine

/-! ## Results of instructions -/

/-- A scalar instruction computes once for the part and writes sd, and nothing else changes: two operands, one operand, immediates,
constants and bit fields; a width above 64 is not legal (04 R101 to R105). -/
def Obligations.ScalarResults : Prop :=
  (∀ i b a d f s p, salu2 i = some (b, a, d, f) → s.spec = some p →
    Gives i s p p (inScalar p d.toNat (f (p.sreg a.toNat) (p.sreg b.toNat)))) ∧
  (∀ i a d f s p, salu1 i = some (a, d, f) → s.spec = some p → Gives i s p p (inScalar p d.toNat (f (p.sreg a.toNat)))) ∧
  ∀ i a d f s p, saluField i = some (a, d, f) → Ready i s p →
    Gives i s p p (inScalar p d.toNat (f (p.sreg a.toNat) (p.sreg d.toNat)))

/-- Integer vector instructions of two sources, in 32-bit and 16-bit forms, unary and immediate ones, and moves from scalars, lane numbers,
selection, bit fields and byte packing, in every active lane (03 R86; 05 R130, R134 to R137, R139, R140, R142). -/
def Obligations.IntegerLanes : Prop :=
  (∀ i b a d f s p, lane3 (full i) = some (b, a, d, f) → Ready i s p →
    Gives i s p p (inLanes p d.toNat fun l => f (p.vreg a.toNat l) (p.vreg b.toNat l) (p.vreg d.toNat l))) ∧
  (∀ i a d f s p, lane1 i = some (a, d, f) → Ready i s p → Gives i s p p (inLanes p d.toNat fun l => f (p.vreg a.toNat l))) ∧
  ∀ i d f s p, laneMove i = some (d, f) → Ready i s p → Gives i s p p (inLanes p d.toNat (f p))

/-- Comparison masks, cross-lane moves, scans, conflicts, integer reductions and dot products, draws, reservoir copies and ray tests
(05 R132, R137, R138, R145 to R149, R152; 08 R210, R211, R214, R218 to R222): the conditions of VCMP and the rounds of a draw are written out. What
the ray tests compute is stated in RayTests. -/
def Obligations.CrossLaneAndSampling : Prop :=
  (∀ i f s p, plainOut i = some f → Ready i s p → Gives i s p p (f p)) ∧
  (∀ a b : Word32, (cmpI 0 a b = true ↔ a = b) ∧ (cmpI 1 a b = true ↔ a ≠ b) ∧ (cmpI 2 a b = true ↔ a.toInt < b.toInt) ∧
    (cmpI 3 a b = true ↔ b.toInt ≤ a.toInt) ∧ (cmpI 4 a b = true ↔ a.toNat < b.toNat) ∧ (cmpI 5 a b = true ↔ b.toNat ≤ a.toNat) ∧
    (cmpI 6 a b = true ↔ ∃ i, i < 32 ∧ a.getLsbD i = true ∧ b.getLsbD i = true) ∧
    (cmpI 7 a b = true ↔ ∀ i, i < 32 → a.getLsbD i = true → b.getLsbD i = false)) ∧
  ∀ (key : Word64) (c : Word32),
    let x0 := c.toNat ^^^ key.toNat % 2 ^ 32
    let x1 := x0 ^^^ x0 / 2 ^ 16
    let x2 := x1 * 0x2C1B3C6D % 2 ^ 32
    let x3 := x2 ^^^ x2 / 2 ^ 13
    let x4 := x3 * 0x297A2D39 % 2 ^ 32
    (rand32 key c).toNat = x4 ^^^ x4 / 2 ^ 16 ^^^ key.toNat / 2 ^ 32

/-- Floating-point arithmetic, when no raised exception is enabled: the exact result rounded once in each active lane, and FPX takes the
union of what is raised (05 R133; 02 R61, R62). -/
def Obligations.FloatArithmetic : Prop :=
  ∀ i f op r b a d s p, fpArith (full i) = some (f, op, r, b, a, d) → Ready i s p →
    fxUnion (raised p fun l => (fpLane p f op r b.toNat a.toNat d.toNat l).2) &&& p.enabled = 0 →
    Gives i s p (p.setFpx (fxUnion (raised p fun l => (fpLane p f op r b.toNat a.toNat d.toNat l).2)))
      (inLanes2 p d.toNat fun l => (fpLane p f op r b.toNat a.toNat d.toNat l).1)

/-- Conversions, special functions, minimum and maximum, signs, classes, comparisons, dot products, scans, reductions, softmax states and
weights, combined sums and reservoirs, when no raised exception is enabled (05 R138, R141 to R144, R146, R148, R150 to R152; 08 R215 to
R217), and the formulas of the values that this table names: conversion, VCMPF's conditions, the classes of F32, the trees, prefixes and combined
sums of 02 R69, R70 and R72, softmax states and weights, and reservoirs. The model's choices: the way in which the special functions' values are found (log entry 11; their special points are stated in
SpecialPoints), NX of the conversion of M in RSVMRG (log entry 37), the canonical NaN of a sum of one term and the NV of its signalling NaN
(log entry 38), and which zero SMXUPD takes as the larger (log entry 81). -/
def Obligations.FloatResults : Prop :=
  (∀ i d f s p, fpWord (full i) = some (d, f) → Ready i s p → fxUnion (raised p fun l => (f p l).2) &&& p.enabled = 0 →
    Gives i s p (p.setFpx (fxUnion (raised p fun l => (f p l).2))) (inLanes p d.toNat fun l => BitVec.ofNat 32 (f p l).1)) ∧
  (∀ i f s p, fpOther i = some f → Ready i s p → fxUnion (f p).2 &&& p.enabled = 0 →
    Gives i s p (p.setFpx (fxUnion (f p).2)) (f p).1) ∧
  conversionRules ∧ comparisonRules ∧ treeRules ∧ softmaxRules ∧ reservoirRules

/-- An enabled exception traps with cause 5: the detail names the enabled exceptions raised, the lane mask the lanes that raised one, and
nothing of the clause has happened (02 R62; 12 R301). The model's choices: what RSVMRG raises (log entry 37), what a sum of one term raises (log
entry 38), and which lanes a VREDMAX or VREDMIN reports (log entry 81). -/
def Obligations.FloatTraps : Prop :=
  (∀ i f op r b a d s p, fpArith (full i) = some (f, op, r, b, a, d) → Ready i s p →
    fpTrapLaw i s p (raised p fun l => (fpLane p f op r b.toNat a.toNat d.toNat l).2)) ∧
  (∀ i d f s p, fpWord (full i) = some (d, f) → Ready i s p → fpTrapLaw i s p (raised p fun l => (f p l).2)) ∧
  ∀ i f s p, fpOther i = some f → Ready i s p → fpTrapLaw i s p (f p).2

/-! ## Control -/

/-- Branches, calls and returns: a taken one transfers to a header at commit, another target is an Illegal Clause, and one that is not
taken goes on; BRM: no lane taken, every lane taken, a split into parts along quads, or a divergence entry, the 33rd of which traps
(01 R31; 04 R107 to R110, R114). That the target of a BRM is checked before the 33rd entry is the model's choice (log entry 41). The commit
of a clause that leaves a split is stated in SplitCommits. -/
def Obligations.Branches : Prop :=
  (∀ i s p va go link, Ready i s p → branchOf p i = some (va, go, link) →
    (go = false → Gives i s p p []) ∧
    (go = true → isHeader p.dev p.space va = true →
      Gives i s p (p.jump va) (if link then inScalar p 62 p.nextClause else [])) ∧
    (go = true → isHeader p.dev p.space va = false → Traps i s p (trapOf 2 0 0 0 0))) ∧
  ∀ k a s p, Ready (.brm k a) s p →
    let i : Instr := .brm k a
    let t := p.sreg 63 &&& p.sreg a.toNat
    let f := p.sreg 63 &&& ~~~ p.sreg a.toNat
    let apart := (∀ q ∈ quadsOf p.prt.quads, bits t (4 * q + 3) (4 * q) = 0 ∨ bits f (4 * q + 3) (4 * q) = 0) ∧ p.wav.live.length < 4
    (t = 0 → Gives i s p p []) ∧
    (t ≠ 0 → isHeader p.dev p.space (aim p k) = false → Traps i s p (trapOf 2 0 0 0 0)) ∧
    (t ≠ 0 → isHeader p.dev p.space (aim p k) = true →
      (f = 0 → Gives i s p (p.jump (aim p k)) []) ∧
      (f ≠ 0 → apart → Gives i s p { p with split := some (quadsWith t, aim p k), taken := true } []) ∧
      (f ≠ 0 → ¬ apart → p.prt.stack.length < 32 →
        Gives i s p (({ p with prt := { p.prt with stack := ⟨p.nextClause, f, p.sreg 63, .first⟩ :: p.prt.stack } }).jump (aim p k))
          [(.s 63, t.setWidth 128)]) ∧
      (f ≠ 0 → ¬ apart → 32 ≤ p.prt.stack.length → Traps i s p (trapOf 10 0 0 0 0)))

/-- The divergence stack. JOIN: an entry in state first takes its lanes to its resume PC, which must be a header, and the rest of the clause
does not run; one in state second is popped and the clause goes on; with no entry the wait ended at the header. EXIT: the active lanes retire
for good; then the top entry of the stack gives the part its lanes where some of them are left, at an address that must be a header (04 R107,
R111, R112, R118; 01 R16, R31). -/
def Obligations.DivergenceStack : Prop :=
  (∀ k s p, Ready (.join k) s p →
    (p.prt.skipJoin = true → Gives (.join k) s p { p with prt := { p.prt with skipJoin := false } } []) ∧
    (p.prt.skipJoin = false → p.prt.stack = [] → Gives (.join k) s p p []) ∧
    ∀ e l, p.prt.skipJoin = false → p.prt.stack = e :: l →
      (e.st = .first → isHeader p.dev p.space e.resume = false → Traps (.join k) s p (trapOf 2 0 0 0 0)) ∧
      (e.st = .first → isHeader p.dev p.space e.resume = true → Gives (.join k) s p
        { ({ p with prt := { p.prt with stack := { e with st := .second, resume := p.prt.pc } :: l } }).jump e.resume with cut := true }
        [(.s 63, (e.rmask &&& p.s63Lanes).setWidth 128)]) ∧
      (e.st = .second → Gives (.join k) s p { p with prt := { p.prt with stack := l } } [(.s 63, (e.smask &&& p.s63Lanes).setWidth 128)])) ∧
  ∀ s p, Ready .exit s p →
    let w : Wave := { p.wav with exited := p.wav.exited ||| p.sreg 63 }
    let live := liveLanes w p.prt.quads
    let goes : Prop := ∃ p', Runs .exit s p p' ∧ p'.wav.exited = p.wav.exited ||| p.sreg 63 ∧ p'.dev = p.dev ∧ p'.grp = p.grp ∧
      Leaves p p' fun loc => decide (loc = .s 63)
    (live = 0 → goes) ∧ (goes ∨ Traps .exit s p (trapOf 2 0 0 0 0)) ∧
    (p.prt.stack = [] →
      Gives .exit s p { p with wav := w, prt := { p.prt with skipJoin := false }, taken := decide (live = 0) || p.taken } [(.s 63, 0)]) ∧
    ∀ e l, p.prt.stack = e :: l →
      ((e.st = .first ∧ e.rmask &&& live ≠ 0 ∨ e.st = .second ∧ e.smask &&& live ≠ 0) → isHeader p.dev p.space e.resume = false →
        Traps .exit s p (trapOf 2 0 0 0 0)) ∧
      (e.st = .first → e.rmask &&& live ≠ 0 → isHeader p.dev p.space e.resume = true → Gives .exit s p
        (({ p with wav := w, prt := { p.prt with skipJoin := false, stack := { e with st := .second, resume := p.nextClause } :: l } }).jump e.resume)
        [(.s 63, (e.rmask &&& live).setWidth 128)]) ∧
      (e.st = .second → e.smask &&& live ≠ 0 → isHeader p.dev p.space e.resume = true → Gives .exit s p
        (({ p with wav := w, prt := { p.prt with skipJoin := true, stack := l } }).jump e.resume) [(.s 63, (e.smask &&& live).setWidth 128)])

/-- LOOP and LOOPI: the checks of the end clause, a count of 0, which goes to the clause after the end clause or is an Illegal Clause where no header
stands there, a third level, and the level that starts (04 R115). The order of the checks where several fail is the model's choice (log entry 103). -/
def Obligations.Loops : Prop :=
  ∀ i s p e n, Ready i s p → loopOf p i = some (e, n) →
    (e.toNat < p.nextClause.toNat → Traps i s p (trapOf 1 0 0 0 0)) ∧
    (p.nextClause.toNat ≤ e.toNat → isHeader p.dev p.space e = false → Traps i s p (trapOf 2 0 0 0 0)) ∧
    (p.nextClause.toNat ≤ e.toNat → isHeader p.dev p.space e = true →
      (∀ t, n = 0 → headerAfter p.dev p.space e = some t →
        (isHeader p.dev p.space t = true → Gives i s p (p.jump t) []) ∧
        (isHeader p.dev p.space t = false → Traps i s p (trapOf 2 0 0 0 0))) ∧
      (n = 0 → headerAfter p.dev p.space e = none → Traps i s p (trapOf 2 0 0 0 0)) ∧
      (n ≠ 0 → 2 ≤ p.prt.loops.length → Traps i s p (trapOf 11 0 0 0 0)) ∧
      (n ≠ 0 → p.prt.loops.length < 2 →
        Gives i s p { p with prt := { p.prt with loops := ⟨n, p.nextClause, e⟩ :: p.prt.loops }, taken := true } []))

/-- TRAP and BKPT raise their causes with imm16 unless the pass bit lets the clause by; NOP and FUSE do nothing in the pass; YIELD and
SLEEP say how long the part is to wait (04 R113, R119, R120, R128). That the pass bit lets every TRAP and BKPT of the clause by is the model's
choice (log entry 42), and so is that a second YIELD or SLEEP of a clause takes the place of the first (log entry 86). -/
def Obligations.TrapsAndHints : Prop :=
  (∀ k s p, Ready (.trap k) s p → (p.prt.passBit = false → Traps (.trap k) s p (trapOf 7 0 k.toNat 0 0)) ∧
    (p.prt.passBit = true → Gives (.trap k) s p p [])) ∧
  (∀ k s p, Ready (.bkpt k) s p → (p.prt.passBit = false → Traps (.bkpt k) s p (trapOf 6 0 k.toNat 0 0)) ∧
    (p.prt.passBit = true → Gives (.bkpt k) s p p [])) ∧
  (∀ s p, s.spec = some p → Gives .nop s p p []) ∧
  (∀ k s p, Ready (.fuse k) s p → Gives (.fuse k) s p p []) ∧
  (∀ k s p, Ready (.yield k) s p → Gives (.yield k) s p
    { p with prt := if k = 0 then { p.prt with yieldOther := true } else { p.prt with yieldLeft := k.toNat + 1 } } []) ∧
  ∀ k s p, Ready (.sleep k) s p → Gives (.sleep k) s p
    { p with prt := if k = 0 then { p.prt with sleepTick := true } else { p.prt with sleep := 64 * k.toNat + 1 } } []

/-! ## System -/

/-- SREAD gives every special register, GETTIME the pulse time at which the clause began and the pulse count; SWRITE stores the fields of each
special register; a value outside the range of MODE, JOINT, SPLITD or FUSEL is an Illegal Instruction (01 R20; 04 R117, R122, R123, R129;
09 R232). The model's choices: that SREAD sees what an SWRITE or an event of an earlier instruction of its own clause left (log entry 20), and
that the whole 64-bit value is compared with the range of JOINT, SPLITD or FUSEL (log entry 43). -/
def Obligations.SpecialRegisters : Prop :=
  (∀ d sel s p v, Ready (.sread d sel) s p → special p sel.toNat = some v → Gives (.sread d sel) s p p (inScalar p d.toNat v)) ∧
  (∀ d s p, Ready (.gettime d) s p →
    Gives (.gettime d) s p p [(.s d.toNat, p.sval d.toNat p.pts0), (.s (d.toNat + 1), p.sval (d.toNat + 1) (BitVec.ofNat 64 p.dev.clk.pulse))]) ∧
  ∀ a sel s p ok q, Ready (.swrite a sel) s p → written p (p.sreg a.toNat) sel.toNat = some (ok, q) →
    (ok → Gives (.swrite a sel) s p q []) ∧ (¬ ok → Traps (.swrite a sel) s p (trapOf 1 0 0 0 0))

/-- ACQUIRE runs the wave under its full allotment; RELEASE returns to the prologue allotment and leaves every register as it is for the rest
of its clause, at whose commit the registers given up are discarded (Commits); an ACQUIRE after it in the clause finds them zero (04 R124;
01 R11). -/
def Obligations.Allotments : Prop :=
  (∀ s p, Ready .acquire s p →
    (p.released = false → Gives .acquire s p { p with wav := { p.wav with cur := p.wav.full, acqGrant := false } } []) ∧
    (p.released = true → ∃ p', Runs .acquire s p p' ∧ p'.wav.cur = p.wav.full ∧ p'.released = false ∧
      (∀ r l, p.wav.prologue ≤ r → r < 128 → p'.value (.v r l) = 0) ∧
      (∀ r l, r < p.wav.prologue → r < 128 → p'.value (.v r l) = p.value (.v r l)) ∧
      (∀ r, p'.value (.s r) = p.value (.s r)) ∧ (∀ r l, p'.value (.q r l) = p.value (.q r l)) ∧
      p'.dev = p.dev ∧ p'.grp = p.grp ∧ p'.wav.flags = p.wav.flags)) ∧
  ∀ s p, Ready .release s p → Gives .release s p { p with wav := { p.wav with cur := p.wav.prologue }, released := true } []

/-- TQINIT sets a task queue and TQTAKE takes the chunk min(remaining, max(minimum, ceil(remaining / (2 × consumers)))); a queue that the
packet does not allot is an Illegal Instruction, and the clause of TQTAKE is held until its result has arrived (04 R125, R126). That the chunk
is taken as the clause commits, after the result's arrival, is the model's choice (log entry 68). -/
def Obligations.TaskQueues : Prop :=
  (∀ b a s p, Ready (.tqinit b a) s p →
    let q := bits (p.sreg a.toNat) 5 0
    let t : TaskQueue := ⟨BitVec.ofNat 32 (bits (p.sreg b.toNat) 31 0), BitVec.ofNat 32 (bits (p.sreg b.toNat) 63 32),
      BitVec.ofNat 32 (max 1 (bits (p.sreg a.toNat) 47 16)),
      max 1 (setWaves p.packet (p.dev.setsOf p.wav.launch) (bits (p.sreg a.toNat) 15 8))⟩
    (bit (dw p.packet 12) q = true → Gives (.tqinit b a) s p (p.setTaskQ q t) []) ∧
    (bit (dw p.packet 12) q = false → Traps (.tqinit b a) s p (trapOf 1 0 0 0 0))) ∧
  ∀ a d s p, Ready (.tqtake a d) s p →
    let q := bits (p.sreg a.toNat) 5 0
    let t := p.dev.taskQ.getD q emptyQueue
    let n := min t.remaining.toNat (max t.minChunk.toNat ((t.remaining.toNat + 2 * t.consumers - 1) / (2 * t.consumers)))
    (bit (dw p.packet 12) q = true → p.prt.tqReady = false → Holds (.tqtake a d) s p .taskQueue) ∧
    (bit (dw p.packet 12) q = true → p.prt.tqReady = true → Gives (.tqtake a d) s p
      (p.setTaskQ q { t with next := t.next + BitVec.ofNat 32 n, remaining := t.remaining - BitVec.ofNat 32 n })
      [(.s d.toNat, p.sval d.toNat (t.next.setWidth 64)), (.s (d.toNat + 1), p.sval (d.toNat + 1) (BitVec.ofNat 64 n))]) ∧
    (bit (dw p.packet 12) q = false → Traps (.tqtake a d) s p (trapOf 1 0 0 0 0)) ∧ HoldReason.taskQueue.stall = 3

/-- LAUNCH: once the stores and atomics in whose program order the part stands are performed and every descriptor is read, the children enter the
device queue with the next launch numbers and sd takes the first number and the count; while one of those is not performed, and with too little room,
the clause is held; a descriptor that may not be read traps, one whose walk is out or whose line is held waits; its reads are loads, which raise the
part's time (04 R127; 09 R248; 10 R252; 11 R274; 12 R299, R302). The model's choices: the size of a device queue (log entry 9), that no alignment is
checked (log entry 44), the trap of a descriptor whose data is gone (log entry 80), that those loads take no lease (log entry 93), and how far a
scoped atomic of the clause itself is served before its commit (log entry 79). -/
def Obligations.DeviceLaunch : Prop :=
  ∀ d a s p, Ready (.launch d a) s p →
    let i : Instr := .launch d a
    let p0 := p.drained Spec.childReady
    let ls := (p.act.map fun l => (l, p.vpair a.toNat l)).filter fun x => x.2 ≠ 0
    let r := launchRead p0.asker p0.wav.core p0.space ls ⟨⟨p0.dev, [], [], false⟩, [], [], []⟩
    let q : Spec := { p0 with dev := r.chk.dev }
    let c := bits (dw q.packet 0) 26 21
    let room := Config.deviceQueueSlots - (q.dev.devQ.getD c []).length
    let x := q.dev.readLines q.wav.core (tmax q.dev.pulse q.prt.pts q.prt.owed) r.lines
    ((∀ y ∈ p0.dev.reqs, y.2.wave = p.wid → y.2.after &&& p.prt.quads ≠ 0 → p0.dev.holdsChild y.2 = false) → p0.childReady = true) ∧
    (p0.childReady = false → Holds i s p .child) ∧
    (p0.childReady = true →
      (r.chk.waits = true → Holds i s p .walk) ∧
      (∀ t, r.chk.waits = false → accTrap q 0 [] r.chk = some t → Traps i s p t) ∧
      (∀ t, r.chk.waits = false → accTrap q 0 [] r.chk = none → r.gone = some t → Traps i s p t) ∧
      (r.chk.waits = false → accTrap q 0 [] r.chk = none → r.gone = none → r.barred ≠ [] → Holds i s p .line) ∧
      (r.chk.waits = false → r.chk.bad = [] → r.barred = [] → ls.length ≤ room → r.packets.length = ls.length ∧ ∃ p', Runs i s p p' ∧
        p'.dev.devQ.getD c [] = q.dev.devQ.getD c [] ++ r.packets.mapIdx (fun k pk =>
          ⟨if k = 0 then q.dev.seq else (q.dev.seq + k) % 2 ^ 48, q.space, pk, x.1⟩) ∧
        p'.value (.s d.toNat) = q.sval d.toNat (BitVec.ofNat 64 (q.dev.seq + ls.length * 2 ^ 48)) ∧ p'.dev.mem = p0.dev.mem ∧
        p'.prt.pts = (if r.lines = [] then q.prt.pts else x.1) ∧ q.Keeps p' [.s d.toNat]) ∧
      (r.chk.waits = false → r.chk.bad = [] → r.barred = [] → room < ls.length → Holds i s p .launchFull))

/-! ## Memory -/

/-- Global accesses whose every element translates, is permitted and meets no watchpoint leave as one request in program order and raise
their flag; no byte of memory and no register changes before commit; one with a failing element traps
before commit; while a walk that they need is out the clause is held; a vector access with no active lane does nothing; PREF never traps, and until
its clause commits it changes nothing but the list of the prefetches that the clause then makes. Raising a flag adds one pending return in each of some quads and changes nothing else of
the flags; a sixteenth holds the clause (06 R153, R157 to R159, R164 to R166, R176; 12 R299, R302; 01 R28, R36, R37). That a
prefetch is made at the commit, walks at once and skips what would have to wait is the model's choice (log entry 77). -/
def Obligations.GlobalAccesses : Prop :=
  (∀ i s p r, Ready i s p → reachOf p i = some r →
    let c := checkAccs p.asker p.wav.core p.space r.acc r.els ⟨p.dev, [], [], false⟩
    (r.els = [] → Gives i s p p []) ∧
    (r.els ≠ [] → c.waits = true → Holds i s p .walk) ∧
    (∀ t, r.els ≠ [] → c.waits = false → accTrap p (watchBit r.acc) r.els c = some t → Traps i s p t) ∧
    (r.els ≠ [] → c.waits = false → accTrap p (watchBit r.acc) r.els c = none →
      Makes i s p (p.sends c.dev r.kind r.pend r.sel c.accs r.ends r.dst) noReg ∧ c.dev.mem = p.dev.mem)) ∧
  (∀ l n a s p, Ready (.pref l n a) s p → Gives (.pref l n a) s p
    { p with prefs := p.prefs ++ [⟨decide (l = 1), (p.sreg a.toNat).toNat / 128 * 128, n.toNat + 1, p.prt.pts⟩] } []) ∧
  ∀ (p : Spec) (f : Bool) (quads : BitVec 16),
    ((∀ k ∈ quadsOf quads, p.wav.flag k (p.flagField f) < 15) →
      (∀ k g, g < 12 → p.flagField f < 12 →
        (p.raise f quads).wav.flag k g = p.wav.flag k g + (if k ∈ quadsOf quads ∧ g = p.flagField f then 1 else 0)) ∧
      (p.raise f quads).hold = p.hold ∧ (p.raise f quads).dev = p.dev ∧ (p.raise f quads).prt = p.prt) ∧
    (∀ k ∈ quadsOf quads, 15 ≤ p.wav.flag k (p.flagField f) → (p.raise f quads).hold = some (p.hold.getD (.flag (p.flagField f))))

/-- What a slot's accesses report: a translation fault of the first lane that has one, with its subcode, level and address and the lanes that
have one; else a permission fault, in the same way; else the lowest watchpoint that some access matches, with the lanes that match it; else
nothing. A watchpoint matches an access of an enabled kind in its address space when a byte of the access lies in its range, whichever half of
the address space that is in; a length of 0 matches nothing. The registers are those that stood when the checks of the clause began
(12 R302; 14 R335, R339). -/
def Obligations.FaultsAndWatchpoints : Prop :=
  ∀ (p : Spec) kind (l : List LaneAcc) (c : Checked),
    let lanes (x : List LaneAcc) : Word64 := maskOf 64 ((x.map (·.lane)).filter (· < 64))
    let trs := c.bad.filter fun x => match x.2 with | .tr _ _ => true | _ => false
    let pms := c.bad.filter fun x => match x.2 with | .pm _ => true | _ => false
    let regs : SMap 64 := match p.prt.watch with | some m => m | none => (p.dev.fn p.space.1).regs
    let hit (w : Nat) : List LaneAcc := l.filter fun x => decide (watched regs p.space.2 kind w x)
    (∀ x s lv r, trs = (x, .tr s lv) :: r → accTrap p kind l c = some (trapOf 3 s lv (lanes (trs.map (·.1))) x.va)) ∧
    (∀ x s r, trs = [] → pms = (x, .pm s) :: r → accTrap p kind l c = some (trapOf 4 s 0 (lanes (pms.map (·.1))) x.va)) ∧
    (trs = [] → pms = [] →
      (∀ w x r, w < 8 → hit w = x :: r → (∀ v, v < w → hit v = []) → accTrap p kind l c = some (trapOf 8 w 0 (lanes (hit w)) x.va)) ∧
      ((∀ w, w < 8 → hit w = []) → accTrap p kind l c = none))

/-- A scratchpad access is timed once what the part has committed is served, at the larger of its time and the group's, which both take; its clause
is held while an earlier access of device memory is not timed or an earlier scoped atomic has not returned (06 R165; 11 R274, R286). LDL reads each
active lane's element at va + offset once what the part has committed is served: the bytes of the scratchpad in
little-endian order, or zeros for an element out of range or misaligned, which SPDOOB records once; it sets the spin count to zero and leaves
the line that a spin watches. STL
stores each active lane's element there: the highest lane that writes a byte gives it, elements out of range or misaligned are dropped, and
every other byte of the scratchpad and all of memory is as it was once what the part has committed is served, and what an MMA of the clause has
yet to read of the bytes is kept for it (06 R160, R162; 07 R193; 01 R25; 09 R236). How far a scoped atomic of the clause itself is served before its commit is the model's choice (log entry 79). -/
def Obligations.ScratchLoadsAndStores : Prop :=
  (∀ p : Spec,
    let p0 := p.drained fun p => (p.dev.beforeSpad p.wid p.prt.quads).isEmpty
    let q := p.spadTime
    let x := tmax p0.dev.pulse (tmax p0.dev.pulse p0.prt.pts p0.prt.owed) p0.grp.st
    q.prt.pts = x ∧ q.grp.st = x ∧ q.hold = (if p0.dev.beforeSpad p0.wid p0.prt.quads = [] then p.hold else some (p.hold.getD .line))) ∧
  (∀ k z a d f s p, Ready (.ldl k z a d f) s p →
    let i : Instr := .ldl k z a d f
    let n := codeBytes z.toNat
    let off (l : Nat) : Nat := (p.vreg a.toNat l).toNat + k.toNat * n
    let q := (p.board false (laneRanges p n off)).spadTime
    let ok (l : Nat) : Bool := decide (off l % n = 0 ∧ off l + n ≤ q.grp.size)
    let g : Group := match p.act.find? fun l => !ok l with
      | some l => noteOob q.grp (if q.grp.size < off l + n then max (off l) q.grp.size else off l)
      | none => q.grp
    (p.act = [] → Gives i s p p []) ∧
    (p.act ≠ [] → Serves i s p
      (({ q with grp := g, prt := { q.prt with spin := 0, spinFrom := q.dev.nextId } }).sends q.dev (.lload d.toNat z.toNat) p.actQuads
        (some (decide (f = 1))) (p.act.map fun l => servedAcc l (if ok l then spadBytes q.grp (off l) n else List.replicate n 0)) false
        (some (true, d.toNat, codeRegs z.toNat))) noReg)) ∧
  ∀ k z a d s p, Ready (.stl k z a d) s p →
    let i : Instr := .stl k z a d
    let n := codeBytes z.toNat
    let off (l : Nat) : Nat := (p.vreg a.toNat l).toNat + k.toNat * n
    let q := (p.board true (laneRanges p n off)).spadTime
    let hits (l x : Nat) : Prop := inSpad q.grp (off l) n = true ∧ off l ≤ x ∧ x < off l + n
    (p.act = [] → Gives i s p p []) ∧
    (p.act ≠ [] → ∃ p', Runs i s p p' ∧
      (∀ x, (∀ l ∈ p.act, ¬ hits l x) → p'.grp.spad.get x = q.grp.spad.get x) ∧
      (∀ l ∈ p.act, ∀ x, hits l x → (∀ m ∈ p.act, l < m → ¬ hits m x) →
        p'.grp.spad.get x = (laneData p d.toNat l z.toNat).getD (x - off l) 0) ∧
      (∀ l, p.act.find? (fun l => !inSpad q.grp (off l) n) = some l →
        p'.grp.spdoob = (noteOob q.grp (if q.grp.size < off l + n then max (off l) q.grp.size else off l)).spdoob) ∧
      ((∀ l ∈ p.act, inSpad q.grp (off l) n = true) → p'.grp.spdoob = q.grp.spdoob) ∧
      (∀ e ∈ p.grp.mq, p.first ≤ e.id → ((e.holds false).any fun x => (laneRanges p n off).any fun r => overlap (granules r.1 r.2) x) = true →
        (∀ k ∈ p.kept, k.1 ≠ e.id) → ∀ l ∈ p.act, ∀ x, hits l x → (e.id, x, q.grp.spad.get x) ∈ p'.kept) ∧
      p'.dev.mem = q.dev.mem ∧ p'.prt.spin = 0 ∧ p'.prt.demoted = 0)

/-- ATOML: the active lanes apply their operations to their words in ascending order, several lanes of one word one after another, each
reading the word as the lane before it left it; the flag waits for the words read; a lane out of range reads zero; other bytes of the
scratchpad and all of memory stay (06 R163; 02 R71). -/
def Obligations.ScratchAtomics : Prop :=
  ∀ o b a d f s p, Ready (.atoml o b a d f) s p →
    let i : Instr := .atoml o b a d f
    let off (l : Nat) : Nat := (p.vreg a.toNat l).toNat
    let q := (p.board true (laneRanges p 4 off)).spadTime
    let op (old l : Nat) : Nat :=
      let x := (p.vreg b.toNat l).toNat
      let y := (p.vreg (b.toNat + 1) l).toNat
      match o.toNat with
      | 0 => (old + x) % 2 ^ 32
      | 1 => (addF32 1 false old x).1
      | 2 => if sextNat 32 x < sextNat 32 old then x else old
      | 3 => if sextNat 32 old < sextNat 32 x then x else old
      | 4 => old &&& x
      | 5 => old ||| x
      | 6 => x
      | _ => if old = x then y else old
    let before (l : Nat) : Nat := (p.act.filter fun m => decide (off m = off l) && decide (m < l)).foldl op (spadNat q.grp (off l) 4)
    (p.act = [] → Gives i s p p []) ∧
    (p.act ≠ [] → ∃ p' r, Runs i s p p' ∧ p'.dev.reqs.get? q.dev.nextId = some r ∧ r.kind = .latom d.toNat ∧ r.pending = p.actQuads ∧
      r.flag = some (p.flagField (decide (f = 1))) ∧ p'.dev.mem = q.dev.mem ∧ p'.prt.spin = 0 ∧ p'.prt.demoted = 0 ∧
      (∀ x, (∀ l ∈ p.act, inSpad q.grp (off l) 4 = true → x < off l ∨ off l + 4 ≤ x) → p'.grp.spad.get x = q.grp.spad.get x) ∧
      (∀ l ∈ p.act, inSpad q.grp (off l) 4 = false → servedAcc l [0, 0, 0, 0] ∈ r.accs) ∧
      ∀ l ∈ p.act, inSpad q.grp (off l) 4 = true → servedAcc l (leBytes 4 (before l)) ∈ r.accs ∧
        ((∀ m ∈ p.act, off m = off l → m ≤ l) → spadNat p'.grp (off l) 4 = op (before l) l))

/-! ## Fences, engines and barriers -/

/-- FENCE at scopes 0 to 8 waits for nothing; at 9 and 10 an acquire waits for older far loads and atomics, a release for older stores,
atomics and far PUTSIG payloads, and SC also for a tick; BFENCE waits for older bank products, and until older stores to device memory are timed, and
takes the products' time (06 R167, R168; 11 R286). That a
clause's own accesses, which have not committed, hold none of its fences is the model's choice (log entry 20). -/
def Obligations.Fences : Prop :=
  (∀ k c s p, Ready (.fence k c) s p →
    let d := p.sync
    let open' := (k = 1 ∨ d.acquired p.wid p.prt.quads p.first = true) ∧ (k = 0 ∨ d.released p.wid p.prt.quads p.first = true) ∧
      (k = 3 → ∃ t, p.prt.fenceTick = some t ∧ t ≤ d.clk.complete)
    (c.toNat < 9 → Gives (.fence k c) s p p []) ∧
    (9 ≤ c.toNat → open' → Gives (.fence k c) s p
      (if k = 1 then p else { p with prt := { p.prt with acquired := p.dev.clk.ns } }) []) ∧
    (9 ≤ c.toNat → ¬ open' → Holds (.fence k c) s p (.fence k.toNat))) ∧
  ∀ s p, Ready .bfence s p →
    (p.sync.bfenceOver p.wid p.prt.quads p.first = true →
      Gives .bfence s p { p with prt := { p.prt with pts := tmax p.dev.pulse p.prt.pts p.prt.bmvTime } } []) ∧
    (p.sync.bfenceOver p.wid p.prt.quads p.first = false → Holds .bfence s p .bfence)

/-- TCOPY, GATHER and PUTSIG start from a legal descriptor when there is room: an illegal one traps, a full front end holds the clause,
and a copy of no elements is complete at once (06 R169 to R171, R174, R175). The model's choices: the range that a copy with gaps enters on the
scoreboard (log entry 14), that a misaligned gather area or signal address is illegal (log entry 15), and that the upper bits of an
offset are ignored (log entry 32). -/
def Obligations.EngineStarts : Prop :=
  (∀ v b a s p, Ready (.tcopy v b a) s p →
    let off := (p.sreg a.toNat).toNat
    let r := p.spadTime
    let q := r.spadTime
    let n := 64 + 24 * (bits (dw (descWords p off 64) 2) 3 0 + 1)
    let x := descWords r off n
    descReady p off 64 64 → descReady r off 64 n →
      (copyLegal x = false → Traps (.tcopy v b a) s p (trapOf 1 0 0 0 0)) ∧
      (copyLegal x = true → countAll (dimsOf x) = 0 → ∃ p', Runs (.tcopy v b a) s p p' ∧ p'.dev = q.dev ∧ p'.grp = q.grp ∧ Leaves q p' noReg) ∧
      (copyLegal x = true → countAll (dimsOf x) ≠ 0 → copyRoom q (copyRanges q.grp.size x).length →
        Begins (.tcopy v b a) s q (.copy x) (barrierField q v b) (copyRanges q.grp.size x)) ∧
      (copyLegal x = true → countAll (dimsOf x) ≠ 0 → ¬ copyRoom q (copyRanges q.grp.size x).length → q.hold = p.hold → Holds (.tcopy v b a) s p .copyFull)) ∧
  (∀ v b a s p, Ready (.gather v b a) s p →
    let off := (p.sreg a.toNat).toNat
    let q := p.spadTime
    let x := descWords p off 64
    let n := bits (dw x 1) 31 0
    let rs := [(false, granules (gatherArea x 0) (n * gatherIdx x)), (true, granules (gatherArea x 1) (n * gatherSize x)),
      (true, granules (gatherArea x 2) ((n + 7) / 8))]
    descReady p off 64 64 →
      (gatherLegal q.grp.size x = false → Traps (.gather v b a) s p (trapOf 1 0 0 0 0)) ∧
      (gatherLegal q.grp.size x = true → copyRoom q 3 → Begins (.gather v b a) s q (.gather x) (barrierField q v b) rs) ∧
      (gatherLegal q.grp.size x = true → ¬ copyRoom q 3 → q.hold = p.hold → Holds (.gather v b a) s p .copyFull)) ∧
  ∀ a s p, Ready (.putsig a) s p →
    let off := (p.sreg a.toNat).toNat
    let q := p.spadTime
    let x := descWords p off 64
    descReady p off 64 64 →
      (putsigLegal x = false → Traps (.putsig a) s p (trapOf 1 0 0 0 0)) ∧
      (putsigLegal x = true → copyRoom q 1 → Begins (.putsig a) s q (.putsig x) none
        [(false, bound q.grp.size (bits (dw x 4) 18 0 : Nat) [] (bits (dw x 3) 24 0))]) ∧
      (putsigLegal x = true → ¬ copyRoom q 1 → q.hold = p.hold → Holds (.putsig a) s p .copyFull)

/-- SEAL closes the open batch and gives its number; WAITB of a number above the last sealed one is an Illegal Instruction, otherwise it
waits for its batches, reports the first failure not yet reported, or takes their time (06 R172, R173; 11 R286). The order of these three is
the model's choice (log entry 36). -/
def Obligations.Batches : Prop :=
  (∀ d s p, Ready (.sealBatch d) s p →
    Gives (.sealBatch d) s p { p with wav := { p.wav with batch := p.wav.batch + 1 } } (inScalar p d.toNat ((p.wav.batch + 1).setWidth 64))) ∧
  ∀ a s p, Ready (.waitb a) s p →
    let n : Word32 := (p.sreg a.toNat).setWidth 32
    ((p.wav.batch - n).toInt < 0 → Traps (.waitb a) s p (trapOf 1 0 0 0 0)) ∧
    (0 ≤ (p.wav.batch - n).toInt →
      (p.sync.batchesDone p.wid n = false → Holds (.waitb a) s p (.waitb n)) ∧
      (∀ f, p.sync.batchesDone p.wid n = true → coveredFailure p.wav n = some f →
        Traps (.waitb a) s p { trapOf 12 f.cause 0 0 f.va with granules := f.granules, batch := f.batch.toNat, second := some f.pos, order := f.order }) ∧
      (p.sync.batchesDone p.wid n = true → coveredFailure p.wav n = none →
        Gives (.waitb a) s p { p with prt := { p.prt with pts := batchTime p.dev.pulse p.wav n p.prt.pts } } []))

/-- BARINIT, BARARR and BARTX update a barrier object, and an update after which nothing remains flips it; BARWAIT goes on once the phase
differs and takes the object's time, otherwise it holds the clause; BARTRY reports phase and error without waiting; an object that is
misaligned or out of the allotment is an Illegal Instruction for each of them, and one over which a live range lies holds the clause; GBAR of a set without the wave is one too, otherwise its clause
is held until the set is released, and then takes the largest arrival time (06 R177 to R180). That an arrival at an object of which nothing
remains sets its error bit and flips it is the model's choice (log entry 67), and so is that BARWAIT counts the arrivals of its own clause
(log entry 20). -/
def Obligations.Barriers : Prop :=
  (∀ b a s p, Ready (.barinit b a) s p →
    let off := (p.sreg a.toNat).toNat
    let e := bits (p.sreg b.toNat) 19 0
    (e = 0 → Traps (.barinit b a) s p (trapOf 1 0 0 0 0)) ∧
    (e ≠ 0 → barReady p off → BarSets (.barinit b a) s p (p.spadTime) off ⟨BitVec.ofNat 64 (e * 2 ^ 20 + e), 0, 0⟩ [])) ∧
  (∀ d a s p, Ready (.bararr d a) s p →
    let off := (p.sreg a.toNat).toNat
    let q := p.spadTime
    let x := barAt q.grp off
    let y : Bar := if x.rem = 0 then { x with w0 := x.w0 ||| BitVec.ofNat 64 (2 ^ 41) }
      else { x with w0 := putBits x.w0 19 0 (x.rem - 1), w2 := tmax q.dev.pulse x.w2 q.prt.pts }
    barReady p off → BarSets (.bararr d a) s p q off (flipped y) (inScalar q d.toNat (if x.phase then 1 else 0))) ∧
  (∀ b a s p, Ready (.bartx b a) s p →
    let off := (p.sreg a.toNat).toNat
    let q := p.spadTime
    let x := barAt q.grp off
    barReady p off → BarSets (.bartx b a) s p q off
      (flipped { x with w1 := x.w1 + BitVec.ofNat 64 ((p.sreg b.toNat).toNat % 2 ^ 32) }) []) ∧
  (∀ b a s p, Ready (.barwait b a) s p →
    let off := (p.sreg a.toNat).toNat
    let q := p.spadTime
    let x := barAt q.grp off
    barReady p off →
      (x.phase ≠ bit (p.sreg b.toNat) 0 → ∃ p', Runs (.barwait b a) s p p' ∧ p'.grp = q.grp ∧ p'.dev = q.dev ∧
        p'.prt.pts = tmax q.dev.pulse q.prt.pts x.w2 ∧ p'.hold = q.hold ∧ Leaves q p' noReg) ∧
      (x.phase = bit (p.sreg b.toNat) 0 → q.hold = p.hold → ∃ own, Holds (.barwait b a) s p (.barwait off (bit (p.sreg b.toNat) 0) own))) ∧
  (∀ d b a s p, Ready (.bartry d b a) s p →
    let off := (p.sreg a.toNat).toNat
    let q := p.spadTime
    let x := barAt q.grp off
    let hit := decide (x.phase ≠ bit (p.sreg b.toNat) 0)
    barReady p off → ∃ p', Runs (.bartry d b a) s p p' ∧ p'.grp = q.grp ∧ p'.dev = q.dev ∧
      p'.prt.pts = (if hit then tmax q.dev.pulse q.prt.pts x.w2 else q.prt.pts) ∧
      p'.value (.s d.toNat) = q.sval d.toNat (BitVec.ofNat 64 ((if x.err then 2 else 0) + if hit then 1 else 0)) ∧
      q.Keeps p' [.s d.toNat]) ∧
  (∀ i a s p, Ready i s p → barrierReg i = some a →
    ((p.sreg a.toNat).toNat % 32 ≠ 0 ∨ p.grp.size < (p.sreg a.toNat).toNat + 32) → Traps i s p (trapOf 1 0 0 0 0)) ∧
  (∀ i a s p, Ready i s p → barrierReg i = some a → (∀ b, i = .barinit b a → bits (p.sreg b.toNat) 19 0 ≠ 0) →
    let off := (p.sreg a.toNat).toNat
    off % 32 = 0 → off + 32 ≤ p.grp.size → p.sync.stalls p.wav.group p.first true [(off, 32)] = true → Holds i s p (.board true [(off, 32)])) ∧
  ∀ k s p, Ready (.gbar k) s p →
    let i : Instr := .gbar k
    let mine := inSet (p.dev.setsOf p.wav.launch) k.toNat p.grp.index p.wav.index
    (mine = false → Traps i s p (trapOf 1 0 0 0 0)) ∧
    (∀ t, mine = true → p.prt.gbarGo.find? (fun x => decide (x.1 = k.toNat)) = some (k.toNat, t) →
      Gives i s p { p with prt := { p.prt with pts := tmax p.dev.pulse p.prt.pts t, spin := 0, spinFrom := p.dev.nextId } } []) ∧
    (mine = true → (∀ x ∈ p.prt.gbarGo, x.1 ≠ k.toNat) → Holds i s p (.gbar k.toNat))

/-- BMV and BMVACC are dispatched from a legal descriptor with their flag raised in every quad of the part, the 65th in flight holds the
clause; BSTAT returns a unit's state (06 R181 to R184; 10 R269). -/
def Obligations.BankInstructions : Prop :=
  (∀ (acc : Bool) f a s p, let i : Instr := if acc then .bmvacc f a else .bmv f a
    Ready i s p →
      let off := (p.sreg a.toNat).toNat
      let q := p.spadTime
      let x := descWords p off 64
      descReady p off 64 64 →
        (bmvLegal x = false → Traps i s p (trapOf 1 0 0 0 0)) ∧
        (bmvLegal x = true → q.sync.bmvCount q.wid q.prt.quads < 64 → ∃ p' o, Runs i s p p' ∧
          p'.dev.bmvs.get? q.dev.nextId = some o ∧ o.acc = acc ∧ o.desc = x ∧ o.status = [] ∧ o.x = none ∧ o.held = [] ∧ o.parked = [] ∧ o.flag = some (q.flagField (decide (f = 1))) ∧
          o.quads = q.prt.quads ∧ p'.dev.mem = q.dev.mem ∧ p'.grp = q.grp ∧ p'.wav.flags = (q.raise (decide (f = 1)) q.prt.quads).wav.flags ∧
          Leaves q p' noReg) ∧
        (bmvLegal x = true → 64 ≤ q.sync.bmvCount q.wid q.prt.quads → q.hold = p.hold → Holds i s p .bmvLimit)) ∧
  ∀ f a d s p, Ready (.bstat f a d) s p →
    let k := bits (p.sreg a.toNat) 3 0
    let u := bits (p.sreg a.toNat) 9 4
    let b := p.dev.banks.getD (k * 64 + u) BankUnit.reset
    (12 ≤ k → Traps (.bstat f a d) s p (trapOf 1 0 0 0 0)) ∧
    (k < 12 → Makes (.bstat f a d) s p
      (p.sends p.dev (.sres d.toNat) p.prt.quads (some (decide (f = 1)))
        [servedAcc 64 (leBytes 8 ((if b.retired then 2 ^ 63 else 0) + p.dev.queued k u * 2 ^ 32 + b.completed.toNat))] false
        (some (false, d.toNat, 1))) noReg)

/-! ## Descriptors and checks -/

/-- A descriptor that is not aligned, or does not lie whole in the allotment, is an Illegal Instruction for TCOPY, GATHER, PUTSIG, BMV,
BMVACC and OBRES; one over which a live write range lies is read once that is gone (06 R169, R170; 07 R196; 10 R257). -/
def Obligations.DescriptorTraps : Prop :=
  (∀ i a s p, Ready i s p → describedAt i = some a →
    let off := (p.sreg a.toNat).toNat
    ((off % 64 ≠ 0 ∨ p.grp.size < off + 64) → Traps i s p (trapOf 1 0 0 0 0)) ∧
    (off % 64 = 0 → off + 64 ≤ p.grp.size → p.sync.stalls p.wav.group p.first false [(off, 64)] = true →
      Holds i s p (.board false [(off, 64)]))) ∧
  (∀ v b a s p, Ready (.tcopy v b a) s p →
    let off := (p.sreg a.toNat).toNat
    descReady p off 64 64 → p.grp.size < off + 64 + 24 * (bits (dw (descWords p off 64) 2) 3 0 + 1) →
      Traps (.tcopy v b a) s p (trapOf 1 0 0 0 0)) ∧
  ∀ a o s p, Ready (.obres a o) s p →
    let off := bits (p.sreg a.toNat) 18 0
    ((off % 32 ≠ 0 ∨ p.grp.size < off + 32) → Traps (.obres a o) s p (trapOf 1 0 0 0 0)) ∧
    (off % 32 = 0 → off + 32 ≤ p.grp.size → p.sync.stalls p.wav.group p.first false [(off, 32)] = true →
      Holds (.obres a o) s p (.board false [(off, 32)]))

/-- What makes the descriptor of a copy, a gather, a signal, a bank product or a record legal, check by check (06 R170, R174, R175, R182;
07 R196). That a misaligned gather area or signal address is illegal, and that a copy that converts with rounding code 7 is, are the model's choices (log
entries 15, 33). -/
def Obligations.DescriptorLegality : Prop :=
  (∀ x : List Word64, let c := dw x 2
    let dst := if bits c 12 11 = 1 then typeBytes.getD (bits c 18 16) 0 else 1
    let total := (List.range (bits c 3 0 + 1)).foldl (fun n j => n * bits (dw x (8 + 3 * j)) 31 0) 1
    copyLegal x = true ↔
      bits c 63 24 = 0 ∧ bits c 8 4 = 0 ∧ (∀ i, 3 ≤ i → i < 8 → dw x i = 0) ∧ (∀ j, j ≤ bits c 3 0 → bits (dw x (8 + 3 * j)) 63 32 = 0) ∧
      bits c 21 19 ≠ 7 ∧ bits c 12 11 ≠ 3 ∧ (bits c 12 11 = 1 → bits c 15 13 ≠ bits c 18 16 ∨ bits c 15 13 = 0) ∧
      (bits c 12 11 ≠ 2 → total * dst ≤ 2 ^ 36) ∧
      (bits c 12 11 = 2 → bit c 10 = false ∧ bits c 3 0 ≤ 1 ∧ bits (dw x 8) 31 0 % 32 = 0 ∧ bits (dw x 8) 31 0 ≤ 32768 ∧
        (dw x 1).toNat % 2 ^ 21 = 0)) ∧
  (∀ (size : Nat) (x : List Word64),
    let n := bits (dw x 1) 31 0
    let e := 2 ^ bits (dw x 1) 35 32
    let k := if bit (dw x 1) 36 = true then 8 else 4
    gatherLegal size x = true ↔
      bits (dw x 1) 63 42 = 0 ∧ bits (dw x 2) 63 19 = 0 ∧ bits (dw x 3) 63 19 = 0 ∧ bits (dw x 4) 63 19 = 0 ∧ dw x 5 = 0 ∧ dw x 6 = 0 ∧
      dw x 7 = 0 ∧ 1 ≤ n ∧ n ≤ 65536 ∧ 4 ≤ e ∧ e ≤ 4096 ∧ bits (dw x 2) 18 0 + n * k ≤ size ∧ bits (dw x 3) 18 0 + n * e ≤ size ∧
      bits (dw x 4) 18 0 + (n + 7) / 8 ≤ size ∧ bits (dw x 2) 18 0 % k = 0 ∧ bits (dw x 3) 18 0 % min e 32 = 0) ∧
  (∀ x : List Word64, putsigLegal x = true ↔
    bits (dw x 3) 63 26 = 0 ∧ bits (dw x 4) 63 19 = 0 ∧ dw x 5 = 0 ∧ dw x 6 = 0 ∧ dw x 7 = 0 ∧
    1 ≤ bits (dw x 3) 24 0 ∧ bits (dw x 3) 24 0 ≤ 2 ^ 24 ∧ (dw x 1).toNat % 8 = 0) ∧
  (∀ x : List Word64, bmvLegal x = true ↔
    bits (dw x 5) 63 19 = 0 ∧ dw x 6 = 0 ∧ dw x 7 = 0 ∧ bits (dw x 5) 17 16 ≠ 3 ∧
    1 ≤ bits (dw x 5) 15 0 ∧ bits (dw x 5) 15 0 ≤ 32768 ∧ bits (dw x 5) 15 0 % 32 = 0 ∧ bits (dw x 4) 31 0 % 16 = 0 ∧
    1 ≤ bits (dw x 4) 63 32 ∧ bits (dw x 4) 63 32 % 16 = 0 ∧ (dw x 0).toNat % 2 ^ 21 = 0 ∧ (dw x 1).toNat % 64 = 0 ∧ (dw x 2).toNat % 64 = 0) ∧
  ∀ (size : Nat) (x : List Word64) (r : OBRec), recOf size x = some r ↔
    r = ⟨bits (dw x 0) 18 0, bits (dw x 0) 51 32, bits (dw x 2) 2 0, bits (dw x 2) 6 4, bits (dw x 1) 18 0,
      BitVec.ofNat 32 (bits (dw x 1) 63 32), bit (dw x 2) 7, dw x 3⟩ ∧
    bits (dw x 0) 63 52 = 0 ∧ bits (dw x 0) 31 19 = 0 ∧ bits (dw x 1) 31 19 = 0 ∧ bits (dw x 2) 63 8 = 0 ∧ bit (dw x 2) 3 = false ∧
    64 ≤ r.size ∧ r.size ≤ 524288 ∧ r.size % 64 = 0 ∧ r.base % 64 = 0 ∧ r.fmt ≠ 7 ∧ r.blen ≤ 4 ∧ r.base + r.size ≤ size ∧
    (r.blen ≠ 0 → 8 * 2 ^ r.blen ≤ depth.getD r.fmt 0 ∧ r.fmt ≠ 4 ∧ r.fmt ≠ 6) ∧ (r.sparse = true → r.fmt < 5)

/-- What a record, a tile and a control word must be to serve a matrix instruction, check by check, from the tables of types and shapes
(07 R185, R186, R188, R200, R202). -/
def Obligations.MatrixChecks : Prop :=
  (∀ (c s : Bool) ty shape (r : OBRec), ty < 7 → shape < 8 →
    let nt := columns.getD shape 0 / (if c then 2 else 1)
    recFits c s ty shape r = true ↔ r.fmt = ty ∧ r.sparse = s ∧ (s = true → r.ident ≠ 0 ∧ nt * depth.getD ty 0 ≤ 8 * r.size) ∧
      (s = false → nt * depth.getD ty 0 * bitsB.getD ty 0 ≤ 8 * r.size)) ∧
  (∀ (c : Bool) ty shape size (r : OBRec), ty < 7 → shape < 8 → r.blen ≤ 4 →
    let nt := columns.getD shape 0 / (if c then 2 else 1)
    scalesFit c ty shape size r = true ↔ (r.blen ≠ 0 → r.soff + nt * (depth.getD ty 0 / (8 * 2 ^ r.blen)) ≤ size)) ∧
  (∀ (c : Bool) ty shape (t : Tile), ty < 7 → shape < 8 → (shape = 7 → c = true) →
    (tileFits c ty shape t = true ↔ (if c then unitsCourse else unitsAlone).getD shape 0 ≤ t.units ∧ (t.int = true ↔ ty = 4 ∨ ty = 6))) ∧
  (∀ shape, shape < 8 → widthOf shape = [16, 16, 32, 32, 64, 64, 64, 64].getD shape 0) ∧
  ∀ (p : Spec) v (c : Word64), ctlLegal p v c = true ↔
    bits c 63 51 = 0 ∧ bits c 31 30 = 0 ∧ bits c 22 21 ≠ 3 ∧ bits c 20 18 < 4 ∧ bits c 50 32 % 4 = 0 ∧ v + (bits c 29 24 + 1) ≤ p.allot

/-! ## Matrix and charts -/

/-- MMA enters the group's matrix queue with its operands as they are and raises its flag; a record or tile that does not serve it is an
Illegal Instruction, a course partner that does not is one with subcode 1, and a full queue holds the clause (07 R186 to R193, R202). That
the entries of the clause itself do not count against the queue's four places is the model's choice (log entry 16). -/
def Obligations.MatrixMultiply : Prop :=
  ∀ z f c sp t o va ty sh s p, Ready (.mma z f c sp t o va ty sh) s p →
    let i : Instr := .mma z f c sp t o va ty sh
    let sel := decide (f = 1)
    (p.grp.recs.get? o.toNat = none ∨ p.grp.tiles.get? t.toNat = none → Traps i s p (trapOf 1 0 0 0 0)) ∧
    ∀ r x, p.grp.recs.get? o.toNat = some r → p.grp.tiles.get? t.toNat = some x →
      (¬ mmaFits p (decide (c = 1)) (decide (sp = 1)) ty.toNat sh.toNat r x → Traps i s p (trapOf 1 0 0 0 0)) ∧
      (mmaFits p (decide (c = 1)) (decide (sp = 1)) ty.toNat sh.toNat r x →
        (p.act = [] → (c = 0 ∨ ∃ m, mateOf p (decide (sp = 1)) t.toNat o.toNat ty.toNat sh.toNat = .ok m) → Gives i s p p []) ∧
        (c = 0 → p.act ≠ [] → matrixRoom p → (sp = 1 → chartRoom p (keyFor r sh.toNat)) →
          Queues i s p p p.actQuads (some (p.flagField sel))
            (.mma (decide (z = 1)) false (decide (sp = 1)) t.toNat o.toNat sh.toNat r none (aRows p va.toNat ty.toNat sh.toNat)) noReg) ∧
        (c = 0 → p.act ≠ [] → ¬ matrixRoom p → Holds i s p .matrixFull) ∧
        (∀ m, c = 1 → p.act ≠ [] → mateOf p (decide (sp = 1)) t.toNat o.toNat ty.toNat sh.toNat = .ok m → matrixRoom p →
          Queues i s p p p.actQuads (some (p.flagField sel))
            (.mma (decide (z = 1)) true (decide (sp = 1)) t.toNat o.toNat sh.toNat r (some m) (aRows p va.toNat ty.toNat sh.toNat)) noReg) ∧
        (c = 1 → mateOf p (decide (sp = 1)) t.toNat o.toNat ty.toNat sh.toNat = .error true → Traps i s p (trapOf 1 1 0 0 0)) ∧
        (c = 1 → mateOf p (decide (sp = 1)) t.toNat o.toNat ty.toNat sh.toNat = .error false → Holds i s p .partner))

/-- OBRES makes a record valid from its descriptor, OBFREE invalid, and SPTILE gives it an identity; the first two discard the
core's charts of the identity that the record had, and wait for the MMAs that name the record (07 R196, R197). That those of its own clause do not is the model's choice (log entry 30). -/
def Obligations.Records : Prop :=
  (∀ a o s p, Ready (.obres a o) s p →
    let off := bits (p.sreg a.toNat) 18 0
    let q := p.spadTime
    let x := descWords p off 32
    descReady p off 32 32 →
      (recOf q.grp.size x = none → Traps (.obres a o) s p (trapOf 1 0 0 0 0)) ∧
      (∀ r, recOf q.grp.size x = some r → q.sync.over q.wid q.wav q.prt q.first (.record o.toNat) = true →
        ∃ p', Runs (.obres a o) s p p' ∧ p'.grp.recs.get? o.toNat = some r ∧
          (∀ k, k ≠ o.toNat → p'.grp.recs.get? k = q.grp.recs.get? k) ∧ p'.grp.spad = q.grp.spad ∧ p'.dev.mem = q.dev.mem ∧
          (∀ x k, q.grp.recs.get? o.toNat = some x → k.ident = x.ident → (p'.dev.core q.wav.core).chart? k = none) ∧ Leaves q p' noReg) ∧
      (∀ r, recOf q.grp.size x = some r → q.sync.over q.wid q.wav q.prt q.first (.record o.toNat) = false → q.hold = p.hold →
        Holds (.obres a o) s p (.record o.toNat))) ∧
  (∀ o s p, Ready (.obfree o) s p →
    (p.sync.over p.wid p.wav p.prt p.first (.record o.toNat) = true → ∃ p', Runs (.obfree o) s p p' ∧ p'.grp.recs.get? o.toNat = none ∧
      (∀ k, k ≠ o.toNat → p'.grp.recs.get? k = p.grp.recs.get? k) ∧ p'.grp.spad = p.grp.spad ∧ p'.dev.mem = p.dev.mem ∧
      (∀ x k, p.grp.recs.get? o.toNat = some x → k.ident = x.ident → (p'.dev.core p.wav.core).chart? k = none) ∧ Leaves p p' noReg) ∧
    (p.sync.over p.wid p.wav p.prt p.first (.record o.toNat) = false → Holds (.obfree o) s p (.record o.toNat))) ∧
  ∀ a o s p, Ready (.sptile a o) s p →
    (p.grp.recs.get? o.toNat = none → Traps (.sptile a o) s p (trapOf 1 0 0 0 0)) ∧
    ∀ r, p.grp.recs.get? o.toNat = some r →
      Gives (.sptile a o) s p { p with grp := { p.grp with recs := p.grp.recs.set o.toNat { r with ident := p.sreg a.toNat } } } []

/-- CHARTPF asks for a chart, CHARTINV discards the charts of a record's identity, and CHARTQ returns the state of one (07 R205 to R208).
That CHARTINV of an invalid record does nothing, and which half a shape below 7 names, are the model's choices (log entry 19). -/
def Obligations.Charts : Prop :=
  (∀ sh o s p, Ready (.chartpf sh o) s p →
    (chartRec p o.toNat = none → Traps (.chartpf sh o) s p (trapOf 1 0 0 0 0)) ∧
    ∀ r, chartRec p o.toNat = some r → chartRoom p (keyFor r sh.toNat) → ∃ p', Runs (.chartpf sh o) s p p' ∧
      (((p'.dev.core p.wav.core).chart? (keyFor r sh.toNat)).isSome = true ∨ (p'.dev.core p.wav.core).inCompile (keyFor r sh.toNat) = true) ∧
      p'.grp = p.grp ∧ p'.dev.mem = p.dev.mem ∧ Leaves p p' noReg) ∧
  (∀ sh o s p r, Ready (.chartpf sh o) s p → chartRec p o.toNat = some r → ¬ chartRoom p (keyFor r sh.toNat) →
    Holds (.chartpf sh o) s p .chartLimit) ∧
  (∀ o s p, Ready (.chartinv o) s p →
    (p.grp.recs.get? o.toNat = none → Gives (.chartinv o) s p p []) ∧
    ∀ r, p.grp.recs.get? o.toNat = some r → ∃ p', Runs (.chartinv o) s p p' ∧
      (∀ k, k.ident = r.ident → (p'.dev.core p.wav.core).chart? k = none) ∧ p'.grp = p.grp ∧ p'.dev.mem = p.dev.mem ∧ Leaves p p' noReg) ∧
  ∀ f d sh o s p, Ready (.chartq f d sh o) s p →
    (chartRec p o.toNat = none → Traps (.chartq f d sh o) s p (trapOf 1 0 0 0 0)) ∧
    ∀ r, chartRec p o.toNat = some r → Makes (.chartq f d sh o) s p
      (p.sends p.dev (.sres d.toNat) p.prt.quads (some (decide (f = 1)))
        [servedAcc 64 (leBytes 8 (match (p.dev.core p.wav.core).chart? (keyFor r sh.toNat) with
          | some x => x.nnz * 2 ^ 32 + x.count * 2 ^ 16 + x.reason * 4 + (if x.reason = 0 then 2 else 3)
          | none => if (p.dev.core p.wav.core).inCompile (keyFor r sh.toNat) then 1 else 0))] false (some (false, d.toNat, 1))) noReg

/-- TALLOC gives a handle the run of units granted to its clause, cleared; TFREE returns it; TALLOC of a valid handle is an
Illegal Instruction, and TFREE waits for the entries that name the tile. ACCZERO, ACCRD and ACCWR enter the matrix queue; an invalid
handle or control word is an Illegal Instruction, and without an active lane ACCRD and ACCWR do nothing;
a full queue holds the clause (07 R198 to R201). That the entries
of the clause itself do not count against the queue's places is the model's choice (log entry 16), and so is that those of its own do not
hold TFREE (log entry 30). -/
def Obligations.TilesAndAccumulators : Prop :=
  (∀ ty u t s p, Ready (.talloc ty u t) s p →
    ((p.grp.tiles.get? t.toNat).isSome = true → Traps (.talloc ty u t) s p (trapOf 1 0 0 0 0)) ∧
    ∀ g l, p.grp.tiles.get? t.toNat = none → p.prt.tallocGrant = g :: l → ∃ p', Runs (.talloc ty u t) s p p' ∧
      p'.grp.tiles.get? t.toNat = some ⟨g.1, u.toNat, decide (ty = 1)⟩ ∧ (∀ k, k ≠ t.toNat → p'.grp.tiles.get? k = p.grp.tiles.get? k) ∧
      (∀ x, g.1 * 4096 ≤ x → x < (g.1 + u.toNat) * 4096 → (p'.dev.core p.wav.core).acc.get x = 0) ∧
      (∀ x, x < g.1 * 4096 ∨ (g.1 + u.toNat) * 4096 ≤ x → (p'.dev.core p.wav.core).acc.get x = (p.dev.core p.wav.core).acc.get x) ∧
      p'.dev.mem = p.dev.mem ∧ Leaves p p' noReg) ∧
  (∀ t s p, Ready (.tfree t) s p →
    (p.sync.over p.wid p.wav p.prt p.first (.tile t.toNat) = true →
      Gives (.tfree t) s p { p with grp := { p.grp with tiles := p.grp.tiles.del t.toNat } } []) ∧
    (p.sync.over p.wid p.wav p.prt p.first (.tile t.toNat) = false → Holds (.tfree t) s p (.tile t.toNat))) ∧
  (∀ t s p, Ready (.acczero t) s p →
    (p.grp.tiles.get? t.toNat = none → Traps (.acczero t) s p (trapOf 1 0 0 0 0)) ∧
    (p.grp.tiles.get? t.toNat ≠ none → matrixRoom p → Queues (.acczero t) s p p 0 none (.acczero t.toNat) noReg) ∧
    (p.grp.tiles.get? t.toNat ≠ none → ¬ matrixRoom p → Holds (.acczero t) s p .matrixFull)) ∧
  (∀ f t d a s p, Ready (.accrd f t d a) s p →
    let c := p.sreg a.toNat
    (p.grp.tiles.get? t.toNat = none ∨ ctlLegal p d.toNat c = false → Traps (.accrd f t d a) s p (trapOf 1 0 0 0 0)) ∧
    (p.grp.tiles.get? t.toNat ≠ none → ctlLegal p d.toNat c = true →
      (p.act = [] → Gives (.accrd f t d a) s p p []) ∧
      (p.act ≠ [] → bits c 22 21 = 0 → matrixRoom p → Queues (.accrd f t d a) s p p p.actQuads (some (p.flagField (decide (f = 1))))
        (.accrd t.toNat d.toNat c (maskOf 64 p.act) []) noReg) ∧
      (p.act ≠ [] → bits c 22 21 = 0 → ¬ matrixRoom p → Holds (.accrd f t d a) s p .matrixFull) ∧
      (let ks := scaleKeys p c
       let off (k : Nat) : Nat := bits c 50 32 + 4 * k
       p.act ≠ [] → ks ≠ [] → p.sync.stalls p.wav.group p.first false ((ks.filter fun k => inSpad p.grp (off k) 4).map fun k => (off k, 4)) = false →
        matrixRoom p → ∃ sc, Queues (.accrd f t d a) s p p.spadTime p.actQuads (some (p.spadTime.flagField (decide (f = 1))))
          (.accrd t.toNat d.toNat c (maskOf 64 p.act) sc) noReg ∧
          ∀ k ∈ ks, sc.get k = if inSpad p.spadTime.grp (off k) 4 then BitVec.ofNat 32 (spadNat p.spadTime.grp (off k) 4) else 0) ∧
      (let ks := scaleKeys p c
       let rs := (ks.filter fun k => inSpad p.grp (bits c 50 32 + 4 * k) 4).map fun k => (bits c 50 32 + 4 * k, 4)
       p.act ≠ [] →
        (p.sync.stalls p.wav.group p.first false rs = true → Holds (.accrd f t d a) s p (.board false rs)) ∧
        (p.sync.stalls p.wav.group p.first false rs = false → ¬ matrixRoom p → Holds (.accrd f t d a) s p .matrixFull)))) ∧
  ∀ t v a s p, Ready (.accwr t v a) s p →
    let c := p.sreg a.toNat
    (p.grp.tiles.get? t.toNat = none ∨ ctlLegal p v.toNat c = false ∨ bits c 22 21 ≠ 0 → Traps (.accwr t v a) s p (trapOf 1 0 0 0 0)) ∧
    (p.grp.tiles.get? t.toNat ≠ none → ctlLegal p v.toNat c = true → bits c 22 21 = 0 →
      (p.act = [] → Gives (.accwr t v a) s p p []) ∧
      (p.act ≠ [] → matrixRoom p → Queues (.accwr t v a) s p p p.actQuads none
        (.accwr t.toNat c (p.act.map fun l => (l, (List.range (bits c 29 24 + 1)).map fun i => p.vreg (v.toNat + i) l))) noReg) ∧
      (p.act ≠ [] → ¬ matrixRoom p → Holds (.accwr t v a) s p .matrixFull))

/-! ## What the rules say of numbers -/

/-- The special functions at their special points, minimum and maximum, and the dot products: one rounding of the exact sum, and a second
rounding with the accumulator (02 R65, R68; 05 R143, R144, R152). -/
def Obligations.SpecialPoints : Prop :=
  (∀ x ∈ sfuPoints, sfu x.1 x.2.1 = (x.2.2.1, x.2.2.2)) ∧
  (∀ fn b, fn ∈ [1, 2, 4] → 0x80000000 < b → b < 0xFF800000 → sfu fn b = (0x7FC00000, fxNV)) ∧
  (∀ fn b, fn < 8 → (val .f32 b).isNan = true → sfu fn b = (0x7FC00000, if (val .f32 b).isSNan then fxNV else 0)) ∧
  (∀ k : Nat, k ≤ 253 → sfu 3 (enc .f32 (Num.ofInt ((k : Int) - 126))) = ((k + 1) * 2 ^ 23, 0)) ∧
  (∀ (f : Fmt) a b, let x := val f a; let y := val f b
    (x.isNan = true → y.isNan = true → ∀ m, (minMax f m a b).1 = f.nan) ∧
    (x.isNan = true → y.isNan = false → ∀ m, (minMax f m a b).1 = b) ∧
    (x.isNan = false → y.isNan = true → ∀ m, (minMax f m a b).1 = a) ∧
    (x.isNan = false → y.isNan = false → (cmpNum x y < 0 ∨ cmpNum x y = 0 ∧ x.neg? = true ∧ y.neg? = false) →
      (minMax f true a b).1 = b ∧ (minMax f false a b).1 = a) ∧
    (x.isNan = false → y.isNan = false → (0 < cmpNum x y ∨ cmpNum x y = 0 ∧ x.neg? = false ∧ y.neg? = true) →
      (minMax f true a b).1 = a ∧ (minMax f false a b).1 = b) ∧
    (∀ m, (minMax f m a b).1 = a ∨ (minMax f m a b).1 = b ∨ (minMax f m a b).1 = f.nan) ∧
    ∀ m, (minMax f m a b).2 = if x.isSNan || y.isSNan then fxNV else 0) ∧
  (∀ mode ftz as bs c,
    let once := flushRes ftz (roundNum .f32 mode (xsum mode (List.zipWith mulX as bs)).1)
    let twice := flushRes ftz (fAdd .f32 mode (val .f32 once.1) c)
    (dotF mode ftz as bs c).1 = twice.1 ∧ once.2 &&& (dotF mode ftz as bs c).2 = once.2 ∧ twice.2 &&& (dotF mode ftz as bs c).2 = twice.2) ∧
  ∀ mode (l : List Int), l.sum ≠ 0 → (xsum mode (l.map Num.ofInt)).1 = Num.ofInt l.sum

/-- The ray tests are those of the rules: RAYTRI chooses its axes, shears, decides on the exact signs of its edges and reports the hit nearer
than tmax; RAYBOX intersects the intervals of the axes, which are rounded outward; a NaN anywhere is a miss (08 R219, R220, R222). Which zero
RAYBOX delivers where −0 meets +0 is the model's choice (log entry 81). -/
def Obligations.RayTests : Prop :=
  (∀ o d a b c tm, o.length = 3 → d.length = 3 → a.length = 3 → b.length = 3 → c.length = 3 →
    rayTri o d tm [a, b, c] = rayRule (comp o) (comp d) tm fun i => comp ([a, b, c].getD i [])) ∧
  (∀ o d tm vs t u v, rayTri o d tm vs = some (t, u, v) → 0 < sgn t ∧ cmpNum t tm ≤ 0) ∧
  (∀ o r bx tm, o.length = 3 → r.length = 3 → bx.length = 6 → (tm :: (o ++ r ++ bx)).any Num.isNan = false →
    let ax (i : Nat) : Option (Machine.Num × Machine.Num) := axisRule (comp o i) (comp r i) (comp bx i) (comp bx (i + 3))
    ((∃ i, i < 3 ∧ ax i = none) → rayBox o r tm bx = none) ∧
    ∀ x y z, ax 0 = some x → ax 1 = some y → ax 2 = some z →
      let near := maxN (maxN (maxN Machine.Num.zero x.1) y.1) z.1
      let far := minN (minN (minN tm x.2) y.2) z.2
      rayBox o r tm bx = if cmpNum near far ≤ 0 then some (near, far) else none) ∧
  ∀ o r tm bx, (tm :: (o ++ r ++ bx)).any Num.isNan = true → rayBox o r tm bx = none

/-- An MMA leaves in each element of its tile what the blocks of its column add to it, from zero where Z is set, and changes no other word;
FE is raised by a Q4X quad in error and by a NaN scale of a block with an element. Where a chart's pattern differs from the record's bitmap, the values are taken in the order of the pattern,
the model's choice (log entry 89) (02 R52, R53, R63, R67; 07 R189 to R191, R197, R204). -/
def Obligations.MmaValues : Prop :=
  ∀ acc g (r : OBRec) (t : Tile) z c shape pat (a : List (List Word32)),
    r.fmt < 7 → shape < 8 → r.blen ≤ 4 → (r.blen ≠ 0 → 8 * 2 ^ r.blen ≤ depth.getD r.fmt 0) → (r.sparse = true → r.fmt < 5) →
    (∀ row ∈ a, row.length = if r.fmt < 5 then 16 else 32) →
    let nt := columns.getD shape 0 / (if c then 2 else 1)
    let blocks := depth.getD r.fmt 0 / (if r.blen = 0 then 32 else 8 * 2 ^ r.blen)
    let kb := if r.blen = 0 then 32 else 8 * 2 ^ r.blen
    let p := pat.getD (bitmapOf g r nt)
    let word (m n : Nat) : Nat := t.first * 4096 + m * nt + n
    let y := mmaRun acc g r t z c shape pat a
    p.length = nt → (∀ x ∈ p, x < 2 ^ depth.getD r.fmt 0) →
    (∀ m n row, n < nt → a[m]? = some row →
      y.1.get (word m n) = (List.range blocks).foldl (blockStep g r nt p row n) (if z then 0 else acc.get (word m n))) ∧
    (∀ w, (∀ m n, m < a.length → n < nt → w ≠ word m n) → y.1.get w = acc.get w) ∧
    (y.2 = true ↔ (r.sparse = false ∧ r.fmt = 5 ∧ ∃ n k, n < nt ∧ k < 128 ∧ (quadB g r n k).2 = true) ∨
      ∃ n j i, n < nt ∧ j < blocks ∧ i < kb ∧ (scaleB g r n j).isNan = true ∧ (scaledB g r nt p n j (j * kb + i)).isSome = true)

/-! ## Encoding -/

/-- Decoding what encoding gives is the instruction again, whatever bytes follow (03 R84 to R91). -/
def Obligations.DecodeOfEncode : Prop :=
  ∀ i rest, Encoded i → i.wf = true → decode (encode i ++ rest) = .ok (i, rest)

/-- What decodes is well-formed and encodes to the bytes read: no bit is dropped, so a reserved bit that is set does not decode
(03 R84, R90, R91). -/
def Obligations.DecodeIsSound : Prop :=
  ∀ b i rest, decode b = .ok (i, rest) → Encoded i ∧ i.wf = true ∧ encode i ++ rest = b

/-- Words of the encoding tables decode to the instructions that they stand for (03 R86; 04 R102, R108; 05 R133, R141; 06 R163, R164;
08 R210, R215). -/
def Obligations.DecodedWords : Prop :=
  decodeTableWord 32 0x41420C87 = some (.vfmaF32 2 5 4 12 1) ∧
  decodeTableWord 32 0x20610871 = some (.atomg 0 1 0 6 4 8 0) ∧
  decodeTableWord 32 0x65020A45 = some (.vrand 20 4 10 0) ∧
  decodeTableWord 32 0x23050149 = some (.rsvupd 12 10 1 0) ∧
  decodeTableWord 32 0xFFFFFFFF = none

/-! ## The pass -/

/-- A step at a pass that is not over runs the instruction that its clause's bytes decode to, in place; a pass that is over commits; bytes
that do not decode are an Illegal Instruction at their slot (01 R28; 03 R76, R91). -/
def Obligations.StepRunsDecoded : Prop :=
  ∀ s p c, s.spec = some p → p.prt.clause = some c →
    (∀ i rest, p.over = false → decode (c.bytes.drop p.off) = .ok (i, rest) → step s = exec i s) ∧
    (∀ e, p.over = false → decode (c.bytes.drop p.off) = .error e →
      step s = .next { s with spec := none, dev := takeTrap s.dev p.wid p.prt.quads { trapOf 1 0 0 0 0 with slot := some p.slot } }) ∧
    (p.over = true → step s = exec .commit s)

/-- Until its clause commits an instruction changes nothing outside its pass, or it traps and nothing of its clause has happened; one that
fails a decode check is an Illegal Instruction, wherever it is met, and what the checks ask of each instruction is written out: registers below the
allotment, pairs and quadruples aligned, legal codes, a selected flag, the slot (set bits that must be 0 do not decode, DecodeIsSound; what a part must
hold for FUSE, MMA and the instructions across lanes is in SplitsAndFuses); and no step stops the machine: from every state it answers a next state.
After a slot that holds the clause a trap is left for the pass in which nothing holds it, which is the model's choice where lower slots may still fail
(01 R11, R13, R28, R29; 03 R81 to R84, R90; 05 R131; 12 R302). -/
def Obligations.Precise : Prop :=
  (∀ i s p, Encoded i → s.spec = some p → ((∃ p', Runs i s p p') ∨ ∃ t, Traps i s p t) ∧
    (legalAt p i = false → Traps i s p (trapOf 1 0 0 0 0))) ∧
  (∀ i p, Encoded i → (legalAt p i = true ↔ lawful p i)) ∧
  ∀ s, ∃ t, step s = .next t

/-- What every step keeps: a pass runs a clause of at most eight instructions; memory, the device's and the pass's, keeps its one form; and the parts of
each wave that have not retired are at most four and share no quad, with at most 32 stack entries and two loop levels each (01 R15, R18, R28, R31;
03 R76; 04 R110, R115). -/
def Obligations.PassStaysWellFormed : Prop :=
  (∀ s t, s.passOk → step s = .next t → t.passOk) ∧
  (∀ s t, s.memoryOk → step s = .next t → t.memoryOk) ∧
  ∀ s t, s.partsOk → step s = .next t → t.partsOk

/-- COMMIT. Of the clauses that may commit in a cycle the first in slot, context and lowest quad begins its pass, if it is one that is issued;
between cores the lower one comes first, which is the model's choice (log entry 71). A pass that is over takes effect: its registers, memory and
group become the device's, what RELEASE gave up reads as zero, window entries that name a destination of a long-latency instruction leave, a write
to what an MMA of the clause has yet to read waits for it, FPX and SPDOOB take their events, control goes to the transfer, or by the loop end action, or to the next clause, and a wave that is stepped stops again.
That entries leave whole and whether a transient value is lost with them follow log entry 70; a stack of more than two entries goes to memory (log entry 29); what a write behind an MMA of its clause leaves visible is the model's choice too (log
entry 30). A
pass to be held leaves its part held, and so does one whose stores or atomics to device memory could not be delivered in time, which is the model's
choice (log entry 79) (01 R21, R22, R25, R28, R38; 04 R110, R116, R117, R124; 14 R336). -/
def Obligations.Commits : Prop :=
  (∀ s, s.spec = none →
    (s.dev.nextCommit = none → exec .commit s = .next s) ∧
    ∀ x, s.dev.nextCommit = some x →
      (s.dev.issued x.2.2 = true → exec .commit s = .next { s with spec := beginPass s.dev x.1 x.2.1 x.2.2 }) ∧
      ∀ k w, s.dev.waves.get? k = some w → s.dev.runs w = true → ∀ q ∈ w.live, s.dev.issued q = true → s.dev.follows? w q = true →
        ((x.2.1.core * 4 + x.2.1.slot) * 16 + x.2.1.ctx) * 16 + lowQuad x.2.2.quads ≤ ((w.core * 4 + w.slot) * 16 + w.ctx) * 16 + lowQuad q.quads) ∧
  ∀ s p, s.spec = some p →
    (p.over = false → exec .commit s = .next s) ∧
    (∀ r, p.over = true → p.hold = some r → ∃ d, exec .commit s = .next { s with spec := none, dev := d } ∧ d.mem = s.dev.mem ∧ d.groups = s.dev.groups ∧
      d.waves = s.dev.waves.upd p.wid fun w => { w with parts := onParts w.parts p.prt.quads fun q =>
        { q with phase := .held r, heldAt := s.dev.clk.cycle, watch := some p.watches } }) ∧
    (p.hold = none → p.over = true → p.dev.lags p.wid p.prt.quads p.first = true →
      let q := p.drained fun p => !p.dev.lags p.wid p.prt.quads p.first
      q.dev.lags q.wid q.prt.quads q.first = true →
        ∃ d, exec .commit s = .next { s with spec := none, dev := d } ∧ d.mem = s.dev.mem ∧ d.groups = s.dev.groups ∧
          d.waves = s.dev.waves.upd q.wid fun w => { w with parts := onParts w.parts q.prt.quads fun x =>
            { x with phase := .held .line, heldAt := s.dev.clk.cycle, watch := some q.watches } }) ∧
    (p.hold = none → p.over = true → p.dev.lags p.wid p.prt.quads p.first = false → p.split = none → ∃ d w q g, exec .commit s = .next { s with spec := none, dev := d } ∧
      (p.prt.stack.length ≤ 2 → d.mem = p.dev.mem) ∧ d.waves.get? p.wid = some w ∧ d.groups.get? p.gid = some g ∧
      (p.released = false → w.parts = putPart p.wav.parts q) ∧ w.flags = p.wav.flags ∧ w.exited = p.wav.exited ∧
      w.fpx = p.fpxBase ||| p.wav.fpx ∧ (∀ x, (∀ k ∈ p.kept, k.2.1 ≠ x) → g.spad.get x = p.grp.spad.get x) ∧
      (∀ e ∈ p.grp.mq, (p.grp.mq.map (·.id)).Nodup → (p.kept.map (·.2.1)).Nodup → (∀ k ∈ p.kept, k.1 = e.id) → ∀ k ∈ p.kept,
        g.spad.get k.2.1 = k.2.2 ∧ ∃ x ∈ g.mq, x.id = e.id ∧ (k.2.1, p.grp.spad.get k.2.1) ∈ x.later) ∧ g.mode = p.grp.mode ∧ g.recs = p.grp.recs ∧ g.tiles = p.grp.tiles ∧
      g.spdoob = (if bit p.oobBase 63 then p.oobBase else if bit p.grp.spdoob 63 then p.grp.spdoob else p.oobBase) ∧
      (∀ loc, loc.exists? = true → (∀ e ∈ p.prt.window, ∀ x ∈ e.w, place x.1 = place loc → x.1 = loc) →
        (p.dests = [] ∨ ∀ e ∈ p.prt.window, e.t = false) →
          let v := ({ p with wav := w, prt := q } : Spec).value loc
          (∀ r l, loc = .v r l → p.released = true → p.wav.prologue ≤ r → v = 0) ∧
          ((∀ r l, loc = .v r l → p.released = true → r < p.wav.prologue) → v = p.value loc)) ∧
      (∀ e ∈ q.window, ∀ x ∈ e.w, ∀ y ∈ p.dests, names y.1 y.2.1 y.2.2 x.1 = false) ∧
      (p.dests = [] → p.released = false → q.window = p.prt.window) ∧
      q.quads = p.prt.quads ∧ q.stack = p.prt.stack ∧ q.pts = p.prt.pts ∧ q.phase = .header ∧ q.clause = none ∧ q.passBit = false ∧
      (p.wav.stepping = none → w.halt = p.wav.halt) ∧
      (p.wav.stepping ≠ none → p.wav.halt = none → w.stepping = none ∧
        w.halt = some ⟨trapOf 0 1 0 0 0, none, false, false, false, p.dev.clk.cycle⟩) ∧
      (liveLanes p.wav p.prt.quads = 0 → q.pc = p.prt.pc ∧ q.loops = p.prt.loops) ∧
      (liveLanes p.wav p.prt.quads ≠ 0 →
        (p.taken = true → q.pc = p.xfer.getD p.nextClause ∧ q.loops = p.prt.loops) ∧
        (p.taken = false → p.prt.loops = [] → q.pc = p.nextClause ∧ q.loops = []) ∧
        ∀ x l, p.taken = false → p.prt.loops = x :: l →
          (x.stop ≠ p.prt.pc → q.pc = p.nextClause ∧ q.loops = x :: l) ∧
          (x.stop = p.prt.pc → x.count ≠ 1 → q.pc = x.start ∧ q.loops = { x with count := x.count - 1 } :: l) ∧
          (x.stop = p.prt.pc → x.count = 1 → l = [] → q.pc = p.nextClause ∧ q.loops = []) ∧
          ∀ y m, x.stop = p.prt.pc → x.count = 1 → l = y :: m →
            (y.stop ≠ p.prt.pc → q.pc = p.nextClause ∧ q.loops = l) ∧
            (y.stop = p.prt.pc → y.count ≠ 1 → q.pc = y.start ∧ q.loops = { y with count := y.count - 1 } :: m) ∧
            (y.stop = p.prt.pc → y.count = 1 → q.pc = p.nextClause ∧ q.loops = m)))

/-- COMMIT of a clause whose BRM splits its part: two parts go on, one of the taken quads at the target and one of the rest at the next
clause. Each has every register as the next instruction would have read it, in the banks and with nothing in its window, its share of s63 and of
the masks of the stack, and the time and the loops of the part; the one with the lower lowest quad keeps the scalar bank and the other waits 8
cycles for its copy. That both keep every entry of the stack is the model's choice (log entry 46) (01 R18, R34; 04 R109; 09 R225, R227). -/
def Obligations.SplitCommits : Prop :=
  ∀ s p tq va, s.spec = some p → p.hold = none → p.over = true → p.dev.lags p.wid p.prt.quads p.first = false → p.split = some (tq, va) → p.taken = true → p.dests = [] → p.released = false →
    tq ≠ 0 → tq &&& ~~~ p.prt.quads = 0 → p.prt.quads &&& ~~~ tq ≠ 0 →
      ∃ d w a b, exec .commit s = .next { s with spec := none, dev := d } ∧ (p.prt.stack.length ≤ 2 → d.mem = p.dev.mem) ∧
        d.waves.get? p.wid = some w ∧ w.splits = p.wav.splits + 1 ∧ w.flags = p.wav.flags ∧ a ∈ w.parts ∧ b ∈ w.parts ∧
        (∀ x ∈ w.parts, x = a ∨ x = b ∨ x.quads &&& p.prt.quads = 0) ∧
        a.quads = tq ∧ a.pc = va ∧ b.quads = p.prt.quads &&& ~~~ tq ∧ b.pc = p.nextClause ∧
        (lowQuad tq < lowQuad b.quads → a.copyWait = p.prt.copyWait ∧ b.copyWait = 9) ∧
        (lowQuad b.quads < lowQuad tq → b.copyWait = p.prt.copyWait ∧ a.copyWait = 9) ∧
        (∀ x ∈ [a, b], x.window = [] ∧ x.phase = .header ∧ x.clause = none ∧ x.pts = p.prt.pts ∧ x.loops = p.prt.loops ∧
          x.stack = p.prt.stack.map (fun e => { e with rmask := e.rmask &&& laneMask x.quads, smask := e.smask &&& laneMask x.quads }) ∧
          (∀ r, r < 63 → (∀ e ∈ p.prt.window, ∀ y ∈ e.w, place y.1 = (1, r) → y.1 = .s r) →
            (x.sregs.get r).setWidth 128 = p.value (.s r)) ∧
          ((∀ e ∈ p.prt.window, ∀ y ∈ e.w, place y.1 = (1, 63) → y.1 = .s 63) →
            (x.sregs.get 63).setWidth 128 = p.value (.s 63) &&& (laneMask x.quads).setWidth 128)) ∧
        ∀ r l, r < 128 → (∀ e ∈ p.prt.window, ∀ y ∈ e.w, place y.1 = place (.v r l) → y.1 = .v r l) →
          (w.vregs.get (vkey r l)).setWidth 128 = p.value (.v r l)

/-- Taking a trap: the part that raises it stands at its clause's header with every register value in its bank, transient values too; the wave
begins to stop and reports this trap when it is the first; an FP exception sets its FPX bits, TRAP and BKPT set the pass bit, a failure of a batch
that is reported is not reported again; memory, the other waves and, unless data of the group is lost, the groups are as they were. That lost code or
a lost descriptor met before commit fails the group is the model's choice (log entry 80) (01 R22, R29, R34; 04 R119; 06 R173; 09 R231; 12 R304,
R305; 14 R338). -/
def Obligations.TrapsAreTaken : Prop :=
  (∀ (d : Device) wid w q t, d.waves.get? wid = some w → w.parts.find? (fun x => decide (x.quads = q.quads)) = some q → w.halt = none →
    ∃ w' q', (takeTrap d wid q.quads t).waves.get? wid = some w' ∧
      w'.halt = some ⟨t, some (lowQuad q.quads), false, false, false, d.clk.cycle⟩ ∧
      w'.parts.find? (fun x => decide (x.quads = q.quads)) = some q' ∧ q'.phase = .header ∧ q'.clause = none ∧ q'.pc = q.pc ∧
      q'.window = [] ∧ q'.stack = q.stack ∧ q'.loops = q.loops ∧ q'.pts = q.pts ∧ w'.flags = w.flags ∧
      q'.passBit = (q.passBit || ((t.cause == 6 || t.cause == 7) && t.slot.isSome)) ∧
      (w'.vregs, w'.qregs, q'.sregs) = ((flushWindow w q).1.vregs, (flushWindow w q).1.qregs, (flushWindow w q).2.sregs) ∧
      w'.fpx = (if t.cause = 5 then w.fpx ||| BitVec.ofNat 64 t.detail else w.fpx) ∧
      w'.failures = (if t.cause = 12 then w.failures.filter fun f => decide (f.order ≠ t.order) else w.failures) ∧
      (takeTrap d wid q.quads t).mem = d.mem ∧ (t.cause ≠ 13 → (takeTrap d wid q.quads t).groups = d.groups) ∧
      (∀ g, t.cause = 13 → d.groups.get? w.group = some g →
        (takeTrap d wid q.quads t).groups.get? w.group = some { g with failed := true }) ∧
      ∀ k, k ≠ wid → (takeTrap d wid q.quads t).waves.get? k = d.waves.get? k) ∧
  ∀ (p : Spec) loc, (∀ e ∈ p.prt.window, ∀ x ∈ e.w, place x.1 = place loc → x.1 = loc) →
    let r := flushWindow p.wav p.prt
    ({ p with wav := r.1, prt := r.2 } : Spec).value loc = p.value loc ∧ r.2.window = []

/-! ## Memory, rounding, reset -/

/-- Stored bytes: each key that a store names takes its byte, every other byte of memory stays, and the form is kept; a byte named in the bank view,
or by the device's own span index, is the byte of device memory that it stands for, the last without a port, which is
the model's choice (log entry 78) (10 R251, R254). -/
def Obligations.StoredBytes : Prop :=
  ∀ (d : Device) (keys : List Nat) (b : List Byte), (keys.map d.home).Nodup → keys.length = b.length →
    (∀ k, k ∉ keys.map d.home → (d.putBytes keys b).mem.get k = d.mem.get k) ∧
    (∀ (i : Nat) k x, keys[i]? = some k → b[i]? = some x → (d.putBytes keys b).mem.get (d.home k) = x) ∧ (d.putBytes keys b).bytes keys = b ∧
    (∀ k, k < 2 ^ 52 → d.home k = k) ∧
    (∀ pa, pa < 2 ^ 52 → d.home (2 ^ 56 + pa) = pa / 2 ^ 21 * 2 ^ 21 + pa % 2 ^ 15 / 128 * 2 ^ 13 + pa % 2 ^ 21 / 2 ^ 15 * 128 + pa % 128) ∧
    (∀ dev off, dev < 128 → off < 2 ^ 40 → d.home (2 ^ 60 + dev * 2 ^ 40 + off) = if dev = d.spanIndex then off else 2 ^ 60 + dev * 2 ^ 40 + off) ∧
    (Memory.wf d.mem = true → Memory.wf (d.putBytes keys b).mem = true)

/-- Rounding: to nearest even is never more than half a unit away and even on a tie, toward zero never above, upward and downward on the
side of the sign, SATF as nearest even, and a result is inexact exactly when a bit is lost; a magnitude of twice the largest finite one overflows to
what the table of modes gives, and one that is not above the largest does not overflow (02 R55, R56, R61). -/
def Obligations.Rounding : Prop :=
  (∀ (f : Fmt) (mode : Nat) (s : Bool) (m : Nat) (e : Int), 1 ≤ mode → mode ≤ 6 →
    let top := val f (limits f).1
    (cmpNum (.fin false m e) top ≤ 0 → (roundNum f mode (.fin s m e)).2 &&& fxOF = 0) ∧
    (0 ≤ cmpNum (.fin false m e) (mulX top (Num.ofInt 2)) → roundNum f mode (.fin s m e) =
      (if mode = 2 ∨ mode = 6 ∨ (mode = 3 ∧ s = true) ∨ (mode = 4 ∧ s = false) then largest f s else endless f s, fxOF ||| fxNX))) ∧
  ∀ neg m (n : Nat), 0 < n →
    let r (mode : Nat) : Nat := (roundShift mode neg m n).1
    (2 * m ≤ (2 * r 1 + 1) * 2 ^ n ∧ 2 * r 1 * 2 ^ n ≤ 2 * m + 2 ^ n) ∧
    ((2 * m = (2 * r 1 + 1) * 2 ^ n ∨ 2 * r 1 * 2 ^ n = 2 * m + 2 ^ n) → r 1 % 2 = 0) ∧
    (r 2 * 2 ^ n ≤ m ∧ m < (r 2 + 1) * 2 ^ n) ∧
    (r 3 = if neg then r 2 else (m + 2 ^ n - 1) / 2 ^ n) ∧ (r 4 = if neg then (m + 2 ^ n - 1) / 2 ^ n else r 2) ∧
    (r 5 = (2 * m + 2 ^ n) / 2 ^ (n + 1)) ∧ r 6 = r 1 ∧
    ∀ mode, (roundShift mode neg m n).2 = decide (m % 2 ^ n ≠ 0)

/-- What reset leaves, where the spec says it: the counts, the clock, the pulse settings, and a device that holds no wave, group, launch,
copy or register of a function; its form is the one that steps keep. That memory lists nothing, so that every byte reads as zero, is the model's
choice (log entry 3) (04 R122; 11 R280; 13 R314, R320, R330, R332). -/
def Obligations.ResetValues : Prop :=
  (let d := State.reset.dev
  d.mgmt.devstate = 0 ∧ d.clk.cycle = 0 ∧ d.clk.pulse = 0 ∧ d.clk.mhz = 2400 ∧ d.clk.period = 1 ∧ d.clk.tension = 2 ∧
    d.waves = [] ∧ d.groups = [] ∧ d.launches = [] ∧ d.reqs = [] ∧ d.ops = [] ∧ d.bmvs = [] ∧ d.mem = [] ∧ Memory.wf d.mem = true ∧
    State.reset.spec = none) ∧
  State.reset.passOk ∧ State.reset.memoryOk ∧ State.reset.partsOk
/-! ## Steps with no encoding -/

/-- Starvation, spinning, sleep, YIELD and the scalar copy: each takes place exactly when its rule says, changes its part alone, and does
nothing else. That one end ends a timed and an untimed wait is the model's choice (log entry 86) (04 R120, R128; 09 R227, R235, R236). -/
def Obligations.PartSteps : Prop :=
  ∀ i s wid k w q c q', s.arg = [wid, k] → s.dev.partOf wid k = some (w, q) → partStep s.dev w q i = some (c, q') →
    (c → exec i s = .next { s with dev := s.dev.setPart wid w q' }) ∧ (¬ c → exec i s = .next s)

/-- A part at its header starts its clause when nothing stands in its way, traps there when reaching it traps, asks for the walk that its fetch
needs, and otherwise waits; the lines of a clause that starts are loaded; a slot picks an eligible part of the lowest class, the oldest of it, for ceil(quads / 8) cycles, and the others age; a
clause held at commit runs again from its first instruction once its reason is over and it is the next to commit, which for TQTAKE is a free
value's cycles after it was held (log entry 1). That the fetch of a clause comes before its decode checks, and that a clause let go commits in its
place among those of the cycle, are the model's choices (log entries 40, 45, 51, 84); so are the limits taken at the header, what the loads of a
fetch leave (log entry 93) and the check against the allotment as it is at the pass (log entry 100) (01 R21, R28; 03 R81; 04 R126; 06 R167; 09 R224,
R232 to R235; 10 R252; 12 R299). -/
def Obligations.StartsAndPicks : Prop :=
  (∀ s wid k w q, s.arg = [wid, k] → s.dev.partOf wid k = some (w, q) → q.phase = .header → s.dev.runs w = true →
    (∀ t c d, headerOf s.dev wid w q = (.trap t, c, d) → s.dev.listens w q = true →
      exec .clauseStart s = .next { s with dev := takeTrap d wid q.quads t }) ∧
    (s.dev.stoppedAt w q = false →
      (∀ c d, headerOf s.dev wid w q = (.ready, some c, d) →
        (breakpointOf s.dev w q ≠ none → exec .clauseStart s = .next s) ∧
        (breakpointOf s.dev w q = none → (d.fetched wid w q c).mem = d.mem ∧ (d.fetched wid w q c).waves = d.waves ∧
          ∃ q', exec .clauseStart s = .next { s with dev := (d.fetched wid w q c).setPart wid w q' } ∧
          q'.phase = .issuing 0 ∧ q'.clause = some c ∧ q'.quads = q.quads ∧ q'.pc = q.pc ∧ q'.sregs = q.sregs ∧ q'.window = q.window ∧
          q'.stack = q.stack ∧ q'.loops = q.loops ∧ q'.pts = q.pts ∧ ∀ g, d.groups.get? w.group = some g → q'.mode = g.mode ∧
            (q.reached = false → q'.limSplit = g.splitd ∧ q'.limFuse = g.fusel ∧ q'.limJoin = bits g.mode 20 16) ∧
            (q.reached = true → q'.limSplit = q.limSplit ∧ q'.limFuse = q.limFuse ∧ q'.limJoin = q.limJoin))) ∧
      (∀ c d, headerOf s.dev wid w q = (.walk, c, d) → exec .clauseStart s = .next { s with dev := d }) ∧
      (∀ h c d, headerOf s.dev wid w q = (h, c, d) → h ∈ [Header.write, .flags, .join, .fuse, .allot, .tension, .asleep] →
        exec .clauseStart s = .next s))) ∧
  (∀ s core slot, s.arg = [core, slot] →
    (s.dev.clk.cycle < ((s.dev.core core).slotFree.get slot).toNat → exec .issuePick s = .next s) ∧
    ∀ wid w q n, ((s.dev.core core).slotFree.get slot).toNat ≤ s.dev.clk.cycle → s.dev.pickOf core slot = some (wid, w, q) →
      s.dev.partOf wid (lowQuad q.quads) = some (w, q) → q.phase = .issuing n →
        (∀ x ∈ s.dev.slotParts core slot, eligible x.2.2 = true → s.dev.classOf w q < s.dev.classOf x.2.1 x.2.2 ∨
          (s.dev.classOf w q = s.dev.classOf x.2.1 x.2.2 ∧ s.dev.ageOf w q ≤ s.dev.ageOf x.2.1 x.2.2)) ∧
        Event .issuePick s fun d =>
          (d.core core).slotFree.get slot = BitVec.ofNat 64 (s.dev.clk.cycle + ((quadsOf q.quads).length + 7) / 8) ∧
          (∃ w' q', d.partOf wid (lowQuad q.quads) = some (w', q') ∧ q'.phase = .issuing (n + 1) ∧ q'.starve = 0 ∧ q'.starved = false ∧
            q'.sregs = q.sregs ∧ q'.window = q.window ∧ q'.pc = q.pc) ∧
          ∀ x ∈ s.dev.slotParts core slot, eligible x.2.2 = true → (x.1 ≠ wid ∨ x.2.2.quads ≠ q.quads) →
            s.dev.partOf x.1 (lowQuad x.2.2.quads) = some x.2 →
              ∃ w', d.partOf x.1 (lowQuad x.2.2.quads) = some (w', { x.2.2 with starve := x.2.2.starve + 1 })) ∧
  (∀ s wid k w q g c, s.arg = [wid, k] → s.spec = none → s.dev.partOf wid k = some (w, q) → q.phase = .held .taskQueue →
    s.dev.groups.get? w.group = some g → q.clause = some c → s.dev.stoppedAt w q = false → q.heldAt < s.dev.clk.cycle →
      let back := q.heldAt + Config.latency (2 ^ 66 * (1 + wid * 16 + lowQuad q.quads) + q.heldAt)
      let d := s.dev.mapParts wid q.quads fun q => { q with tqReady := true }
      (s.dev.clk.cycle < back → q.tqReady = false → exec .heldAtCommitRelease s = .next s) ∧
      (back ≤ s.dev.clk.cycle → q.quads ≠ 0 →
        ((d.nextCommit.map fun x => (x.1, x.2.2.quads)) ≠ some (wid, q.quads) → exec .heldAtCommitRelease s = .next { s with dev := d }) ∧
        ((d.nextCommit.map fun x => (x.1, x.2.2.quads)) = some (wid, q.quads) →
          let p := passOf d w.group g wid w { q with tqReady := true } (if q.acqClause then w.full else w.cur)
          exec .heldAtCommitRelease s = .next { s with dev := d, spec := some p }))) ∧
  ∀ s wid k w q r g c, s.arg = [wid, k] → s.spec = none → s.dev.partOf wid k = some (w, q) → q.phase = .held r → r ≠ .fence 3 → r ≠ .taskQueue →
    s.dev.groups.get? w.group = some g → q.clause = some c → s.dev.stoppedAt w q = false → q.heldAt < s.dev.clk.cycle →
      let mine := (s.dev.nextCommit.map fun x => (x.1, x.2.2.quads)) = some (wid, q.quads)
      (s.dev.over wid w q s.dev.nextId r = false ∨ ¬ mine → exec .heldAtCommitRelease s = .next s) ∧
      (s.dev.over wid w q s.dev.nextId r = true → mine → exec .heldAtCommitRelease s =
        .next { s with spec := some (passOf s.dev w.group g wid w q (if q.acqClause then w.full else w.cur)) }) ∧
      (∀ f, r = .flag f → (s.dev.over wid w q s.dev.nextId r = true ↔ ∀ j ∈ quadsOf q.quads, w.flag j f < 15)) ∧
      (r = .matrixFull → g.mq.length < 4 → s.dev.over wid w q s.dev.nextId r = true) ∧
      (∀ n, r = .waitb n → (s.dev.over wid w q s.dev.nextId r = true ↔
        ∀ x ∈ s.dev.ops, x.2.wave = wid → (n - x.2.batch).toInt < 0)) ∧
      (r = .copyFull → (s.dev.over wid w q s.dev.nextId r = true ↔
        (s.dev.ops.filter fun x => decide (x.2.core = w.core)).length < 512 ∧ (s.dev.core w.core).board.length < 512))

/-- A part waiting for flags splits off its ready quads once they have been ready for SPLITD cycles, in a wave of fewer than four parts, the rest
waiting 8 cycles for its scalar bank; parts fuse at a join when all wait there or at a timeout, and where a width requirement needs their block; a
join wait that ends for one part alone fuses nothing and leaves its window; a fuse that does not come traps with cause 9, and none comes while
reaching the header traps in one of the parts. The block of a clause holds the quads that an instruction of it needs. What the fused part takes
of its members' sleep, waits, YIELD and grants, and that a lone end of a wait is no fuse, are the model's choices (log entries 46 to 49, 72) (01 R18, R34;
04 R112, R113; 05 R145; 07 R189; 09 R224, R226 to R230). -/
def Obligations.SplitsAndFuses : Prop :=
  (∀ w q c r, missReady w q c = some r → r ≠ 0 ∧ r ≠ q.quads ∧ bit c.hdr 11 = true ∧ q.limSplit ≠ 0 ∧ c.hasJoin = false ∧
    ∀ k, k < 16 → (bit r k = true ↔ bit q.quads k = true ∧ (∃ l, l < 4 ∧ bit (maskNow w q) (4 * k + l) = true) ∧
      ∀ f, f < 12 → bit c.hdr (12 + f) = true → w.flag k f = 0)) ∧
  (∀ s wid k w q c r n l, s.arg = [wid, k] → s.dev.standing wid k = some (w, q, .flags, c) → missReady w q c = some r →
    q.splitWait = some (r, n, l) →
      (n < l ∨ 4 ≤ w.live.length → exec .missSplit s = .next s) ∧
      (l ≤ n → w.live.length < 4 → Event .missSplit s fun d => ∃ w' a b, d.waves.get? wid = some w' ∧ a ∈ w'.parts ∧ b ∈ w'.parts ∧
        a.quads = r ∧ b.quads = q.quads &&& ~~~ r ∧ a.pc = q.pc ∧ b.pc = q.pc ∧ a.copyWait = q.copyWait ∧ b.copyWait = 9 ∧ a.window = [] ∧
        b.window = [] ∧ a.pts = q.pts ∧ b.pts = q.pts ∧ a.loops = q.loops ∧ b.loops = q.loops ∧ w'.splits = w.splits + 1 ∧ d.mem = s.dev.mem)) ∧
  (∀ s wid k w q c, s.arg = [wid, k] → s.dev.standing wid k = some (w, q, .join, c) →
    let l := s.dev.waitingAt wid w q.pc
    let alone : Device := s.dev.setPart wid w { q with joinDone := true, joinWait := none, splitWait := none }
    (l.length = w.live.length → Fuses .joinFuse s wid w (quadsOfParts l) true) ∧
    (l.length ≠ w.live.length → exec .joinFuse s = .next s) ∧
    (∀ n m, q.joinWait = some (n, some m) →
      (n < m → exec .joinTimeout s = .next s) ∧
      (m ≤ n → 2 ≤ l.length → Fuses .joinTimeout s wid w (quadsOfParts l) true) ∧
      (m ≤ n → l.length < 2 → exec .joinTimeout s = .next { s with dev := alone })) ∧
    (∀ n, q.joinWait = some (n, none) → exec .joinTimeout s = .next s) ∧
    ((∀ p ∈ w.live, p.quads = q.quads ∨ s.dev.waitsFuse wid w p = true) → exec .joinRelease s = .next { s with dev := alone }) ∧
    ((∃ p ∈ w.live, p.quads ≠ q.quads ∧ s.dev.waitsFuse wid w p = false) → exec .joinRelease s = .next s)) ∧
  (∀ s wid k w q h c, s.arg = [wid, k] → s.dev.standing wid k = some (w, q, h, c) →
    let l := blockParts w (c.block w q)
    (∀ t, h = .trap t → exec .widthFuse s = .next s) ∧
    ((∀ t, h ≠ .trap t) → c.block w q ≠ 0 → covers w q (c.block w q) = false → q ∈ l → 2 ≤ l.length → (∀ p ∈ l, p.phase = .header ∧ p.pc = q.pc) →
      ((∀ p ∈ l, s.dev.headerTraps wid w p = false) → Fuses .widthFuse s wid w (quadsOfParts l) false) ∧
      ((∃ p ∈ l, s.dev.headerTraps wid w p = true) → exec .widthFuse s = .next s)) ∧
    (c.block w q = 0 ∨ covers w q (c.block w q) = true → exec .widthFuse s = .next s)) ∧
  (∀ (c : Clause) w q k, q.quads ≠ 0 → q.quads &&& ~~~ w.allQuads = 0 → w.width ≤ 4 → k < 16 →
    (bit (c.block w q) k = true ↔ ∃ i ∈ c.instrs, ∃ n, wants w.lanes i = some n ∧ k / (n / 4) = lowQuad q.quads / (n / 4))) ∧
  ∀ s wid k w q c n l, s.arg = [wid, k] → s.dev.meets wid k = some (w, q, .fuse, c) → s.dev.listens w q = true → q.fuseWait = some (n, l) →
    (n < l → exec .fuseTimeout s = .next s) ∧
    (l ≤ n → exec .fuseTimeout s = .next { s with dev := takeTrap s.dev wid q.quads (trapOf 9 0 0 0 0) })

/-- Device memory at its home slice: a load takes the bytes of memory and its time is not before the line's last write, unless an L1 copy under a
lease gives both; a store or an atomic writes its bytes and nothing else, timed after the line's last lease; at a line that a bank product holds it
is timed and waits, memory as it was. A request is delivered after its delay, or sooner where a slower clock would carry it past 60 ns. A return writes the banks of its quads and their flag
falls by one; a store's time reaches the parts in whose program order the store stands. What is latency is a free value (log entry 1), and so is the
order in which returns arrive; the order of the accesses of one request and what a load without a lease leaves are the
model's choices (log entries 34, 74) (01 R36,
R38; 06 R164; 10 R268; 11 R283, R284). -/
def Obligations.Returns : Prop :=
  (∀ s rid r i a, s.arg = [rid] → s.dev.reqs.get? rid = some r →
    (r.ready ≤ s.dev.clk.cycle ∨ r.due < s.dev.clk.ns + (1000 / max 1 s.dev.clk.mhz + 1)) → s.dev.next? r = some (i, a) → a.dev = true →
    s.dev.behindEarlier rid r a = false → r.accs[i]? = some a →
      let t := s.dev.fromTime r.wave r.quads
      let line := (s.dev.touchL2 a.line a.page.1 a.page.2 false).lineTime a.line
      (r.kind.isLoad = true → r.pending ≠ 0 → Event .homeSliceLoad s fun d => d.mem = s.dev.mem ∧
        ∃ r' a', d.reqs.get? rid = some r' ∧ r'.accs[i]? = some a' ∧ a'.keys = a.keys ∧
          (∀ c, s.dev.l1Find (s.dev.coreOf r.wave) a.line = some c → tle s.dev.pulse t c.lease = true →
            a'.served = true ∧ a'.data = (a.keys.map fun k => c.data.getD (k % 128) 0) ∧ a'.time = tmax s.dev.pulse t c.wts) ∧
          (s.dev.l1Find (s.dev.coreOf r.wave) a.line = none → a'.time = tmax s.dev.pulse t line.wts ∧
            (s.dev.lineHeld a.line = false → a'.served = true ∧ a'.data = s.dev.bytes a.keys) ∧
            (s.dev.lineHeld a.line = true → a'.served = a.served ∧ a'.parked = true))) ∧
      (r.kind.isLoad = false → r.timed = false → r.performs = true → (a.keys.map s.dev.home).Nodup →
        let old := s.dev.bytes a.keys
        let new := atomBytes r.kind a (leNat old)
        new.length = a.keys.length → Event .homeSliceStore s fun d =>
          (s.dev.lineHeld a.line = true → d.mem = s.dev.mem) ∧
          (s.dev.lineHeld a.line = false →
            (∀ (j : Nat) k b, a.keys[j]? = some k → new[j]? = some b → d.mem.get (s.dev.home k) = b) ∧
            ∀ k, k ∉ a.keys.map s.dev.home → d.mem.get k = s.dev.mem.get k) ∧
          ∃ r' a', d.reqs.get? rid = some r' ∧ r'.accs[i]? = some a' ∧ a'.time = tmax s.dev.pulse t (line.rts + 1) ∧
            (r.kind = .store ∨ s.dev.lineHeld a.line = false → a'.served = true) ∧
            (r.kind ≠ .store → s.dev.lineHeld a.line = true → a'.served = a.served ∧ a'.parked = true) ∧
            (r.kind ≠ .store → s.dev.lineHeld a.line = false → a'.data = old))) ∧
  (∀ s rid k r w, s.arg = [rid, k] → s.dev.reqs.get? rid = some r → bit (r.returnQuads k) k = true →
    (∀ a ∈ r.accsOf (r.returnQuads k), a.served = true) → r.ready + Config.latency (2 ^ 64 + rid * 16 + k) ≤ s.dev.clk.cycle →
    s.dev.liveWave r.wave r.gen = some w → Event .longLatencyReturn s fun d =>
      d.mem = s.dev.mem ∧ (∀ r', d.reqs.get? rid = some r' → r'.pending = r.pending &&& ~~~ r.returnQuads k) ∧
      ∃ w', d.waves.get? r.wave = some w' ∧ w'.vregs = (returned w r (r.returnQuads k)).vregs ∧
        (∀ f j, r.flag = some f → f < 12 → w'.flag j f = (if j ∈ quadsOf (r.returnQuads k) then (w.flag j f + 15) % 16 else w.flag j f)) ∧
        ∀ p ∈ w.parts, ∃ p' ∈ w'.parts, p'.quads = p.quads ∧ p'.pts = p.pts ∧
          (p.quads &&& (r.after ||| r.returnQuads k) = 0 → p' = p) ∧
          (∀ z v, p.quads &&& r.returnQuads k ≠ 0 → r.kind.dest = some (z, true) → r.kind.scalars (r.accs.flatMap (·.data)) = [v] →
            p'.sregs = p.sregs.set z (if z = 63 then v &&& liveLanes w p.quads else v))) ∧
  ∀ s rid r w, s.arg = [rid] → s.dev.reqs.get? rid = some r → r.performs = true → r.timed = false → r.reached = true →
    r.ready + Config.latency (2 ^ 65 + rid) ≤ s.dev.clk.cycle → s.dev.liveWave r.wave r.gen = some w → w.saved = false → Event .storeTimeReturn s fun d =>
      d.mem = s.dev.mem ∧ (∀ r', d.reqs.get? rid = some r' → r'.timed = true) ∧ ∃ w', d.waves.get? r.wave = some w' ∧
        w'.parts = onParts w.parts r.after fun p => { p with pts := s.dev.largest r p.pts }

/-- An access of lost data is tried again once; the failure of that, or a refusal, or a destination without a port, stops its wave with cause 0x0D,
writes no register, leaves the flag up and fails its group; a wave that has stopped already keeps the failure to report it next (log entry 54). A
walk that meets no held line gives its result to every request whose walk ends at the same entry (log entry 77). A tick waits until the one before it is
complete where this device drives the pulse of its span; at a tick the count goes up, the settings take effect, the floor rises and parts follow it; a tick of the span completes; without one for 8 periods the device leaves the span (11 R280, R285; 12 R293, R298, R299, R304, R312;
13 R325). -/
def Obligations.WalksAndPulse : Prop :=
  (∀ s rid k r a i, s.arg = [rid, k, 1, 1] → s.dev.reqs.get? rid = some r → s.dev.failing r k 1 = some (a, i) → r.ready ≤ s.dev.clk.cycle →
    s.dev.behindEarlier rid r a = false → a.retried = false → exec .accessFailedAfterCommit s =
      .next { s with dev := { s.dev with reqs := s.dev.reqs.set rid { r with accs := r.accs.set i { a with retried := true } } } }) ∧
  (∀ s rid k sub r a i w, s.arg = [rid, k, sub, 0] → s.dev.reqs.get? rid = some r → s.dev.failing r k sub = some (a, i) →
    r.ready ≤ s.dev.clk.cycle → s.dev.behindEarlier rid r a = false → (a.retried = true ∨ sub ≠ 1) →
    s.dev.liveWave r.wave r.gen = some w → r.kind ≠ .store →
      Event .accessFailedAfterCommit s fun d => d.mem = s.dev.mem ∧
        (∀ g, s.dev.groups.get? w.group = some g → d.groups.get? w.group = some { g with failed := true }) ∧
        ∃ w', d.waves.get? r.wave = some w' ∧ w'.vregs = w.vregs ∧ w'.qregs = w.qregs ∧ w'.flags = w.flags ∧
          w'.parts.map (·.sregs) = w.parts.map (·.sregs) ∧
          (w.halt = none → ∃ h, w'.halt = some h ∧ h.info.cause = 13 ∧ h.info.sub = sub ∧ h.info.addr = a.va ∧ h.info.second = some r.pos) ∧
          ∀ h, w.halt = some h → h.stopped = true → w'.halt = some h ∧ ∃ x, w'.late = w.late ++ [x] ∧ x.2.cause = 13 ∧ x.2.sub = sub ∧
            x.2.addr = a.va ∧ x.2.second = some r.pos) ∧
  (∀ s core x, s.arg = [core] → s.dev.walkQ.find? (fun x => decide (x.core = core)) = some x →
    let r := walk s.dev core x.space x.va
    (∀ e, x.res = some e → Event .pageWalk s fun d => d.mem = s.dev.mem ∧ d.groups = s.dev.groups ∧ Gets s d x e) ∧
    (x.res = none → r.held s.dev = true → exec .pageWalk s = .next s) ∧
    (x.res = none → r.held s.dev = false → Event .pageWalk s fun d => d.mem = s.dev.mem ∧ d.groups = s.dev.groups ∧
      ∀ y ∈ s.dev.walkQ, (y = x ∨ y.res = none ∧ r.last ≠ none ∧ dieOf y.core = dieOf core ∧ (walk s.dev y.core y.space y.va).last = r.last) →
        Gets s d y (walk s.dev y.core y.space y.va).res)) ∧
  (∀ s, (s.dev.drivenOutside = true ∨ s.dev.clk.nextTick ≤ s.dev.clk.ns ∧ (s.dev.member = true → s.dev.clk.pulse ≤ s.dev.clk.complete)) →
    Event .pulseTick s fun d =>
    d.clk.pulse = s.dev.clk.pulse + 1 ∧ d.clk.tension = bits s.dev.clk.pulsecfg 10 8 ∧ d.mem = s.dev.mem ∧ d.groups = s.dev.groups ∧
    (bits s.dev.clk.pulsecfg 2 0 ≤ 4 → d.clk.period = bits s.dev.clk.pulsecfg 2 0) ∧
    (s.dev.drivenOutside = false → d.clk.nextTick = (if s.dev.clk.nextTick + periodNs d.clk.period ≤ s.dev.clk.ns then s.dev.clk.ns
      else s.dev.clk.nextTick) + periodNs d.clk.period) ∧
    ∀ k w, s.dev.waves.get? k = some w → w.saved = false → d.waves.get? k = some { w with parts := w.parts.map fun q =>
      { q with pts := tmax d.clk.pulse q.pts (phaseStart (d.clk.pulse - d.clk.tension - 1)), sleep := if q.sleepTick then 1 else q.sleep } }) ∧
  (∀ s, s.dev.drivenOutside = false → (s.dev.clk.ns < s.dev.clk.nextTick ∨ s.dev.member = true ∧ s.dev.clk.complete < s.dev.clk.pulse) →
    exec .pulseTick s = .next s) ∧
  (∀ s k, s.arg = [k] → s.dev.member = true → s.dev.clk.complete < k → k ≤ s.dev.clk.pulse →
    exec .tickCompletion s = .next { s with dev := { s.dev with clk := { s.dev.clk with complete := k } } }) ∧
  ∀ s, s.dev.drivenOutside = true →
    (s.dev.clk.lastSpanTick + 8 * periodNs s.dev.clk.period ≤ s.dev.clk.ns → Event .spanLeave s fun d => d.member = false ∧
      d.mgmt.route = [] ∧ d.clk.complete = s.dev.clk.pulse ∧ d.clk.pulse = s.dev.clk.pulse ∧ d.clk.leftSpan = true ∧ d.waves = s.dev.waves) ∧
    (s.dev.clk.ns < s.dev.clk.lastSpanTick + 8 * periodNs s.dev.clk.period → exec .spanLeave s = .next s)

/-- Refusal and placement. A packet is refused with the lowest cause whose rule it breaks, and only then; the next cohort of a launch goes to the
lowest consecutive cores that suit it and take its groups; the waves of a group are bound in order, each to the slot with the most free registers
among those with a free context, the lowest on a tie, in its lowest free context; and a new wave holds what creation gives it. Which cohorts are
tested for cause 6, that a row of the set table that cannot be read leaves those before it (log entry 92), that a table of more than 4,096 rows is
refused with cause 5 (log entry 59), that the enabled cores are those of the lowest numbers (log entry 6), and that a word of zeros declares no queue
(log entry 102), are the model's choices (01 R10, R12, R15; 09 R239, R240, R243, R244; 10 R260). -/
def Obligations.RefusalsAndPlacement : Prop :=
  (∀ (d : Device) sp t pk,
    (d.refusal sp t pk = none ↔ ∀ c, ¬ broken d sp t pk c) ∧
    ∀ c, d.refusal sp t pk = some c ↔ broken d sp t pk c ∧ ∀ b, b < c → ¬ broken d sp t pk b) ∧
  (∀ (d : Device) n l,
    let m := l.nextCohort
    let there (s : Nat) : Prop := sits d l.packet l.sets l.admitted m s ∧ ∀ i, i < m → ∃ b, takes d n l (s + i) b
    (d.placement n l = none → ∀ s, s < 192 → ¬ there s) ∧
    ∀ ps, d.placement n l = some ps → ∃ s, s < 192 ∧ there s ∧ (∀ s', s' < s → ¬ there s') ∧ ps.length = m ∧
      ∀ (i : Nat) y, ps[i]? = some y → y.1 = s + i ∧ takes d n l (s + i) y.2) ∧
  (∀ occ need ok l r, bindWaves occ ((need, ok) :: l) = some r → ∃ x rest, r = x :: rest ∧ x.1 < 4 ∧ x.2.1 < 16 ∧ x.2.2 = need ∧
    need ≤ slotRoom occ x.1 ∧ ok x.1 x.2.1 = true ∧ (∀ b ∈ occ, (b.1, b.2.1) ≠ (x.1, x.2.1)) ∧
    (∀ c, c < x.2.1 → ok x.1 c = false ∨ ∃ b ∈ occ, (b.1, b.2.1) = (x.1, c)) ∧
    (∀ k, k < 4 → (∃ c, c < 16 ∧ ok k c = true ∧ ∀ b ∈ occ, (b.1, b.2.1) ≠ (k, c)) →
      slotRoom occ k < slotRoom occ x.1 ∨ (slotRoom occ k = slotRoom occ x.1 ∧ x.1 ≤ k)) ∧
    bindWaves (x :: occ) l = some rest) ∧
  ∀ n gid l w core b gen t, l.args.length ≤ 16 →
    let x := newWave n gid l w core b gen t
    let r := (List.range (pkField l.packet 0 19 18 + 1)).find? fun i => decide (pkField l.packet (14 + i) 22 16 ≤ w) &&
      decide (w < pkField l.packet (14 + i) 22 16 + pkField l.packet (14 + i) 30 24)
    (∀ i, r = some i → x.role = i ∧ x.cur = pkField l.packet (14 + i) 7 0 ∧ x.full = pkField l.packet (14 + i) 15 8) ∧
    x.vregs = [] ∧ x.qregs = [] ∧ x.flags = [] ∧ x.fpx = 0 ∧ x.batch = 0 ∧ x.gen = gen ∧ x.core = core ∧ (x.slot, x.ctx) = (b.1, b.2.1) ∧
    x.width = pkField l.packet 0 12 10 ∧ ∃ q, x.parts = [q] ∧ q.quads = BitVec.ofNat 16 (2 ^ 2 ^ x.width - 1) ∧ q.pc = dw l.packet 1 ∧
      q.pts = t ∧ q.stack = [] ∧ q.loops = [] ∧ q.window = [] ∧ q.phase = .header ∧ q.acquired = l.fetched ∧
      ∀ k, q.sregs.get k = if k = 63 then laneMask q.quads else l.args.getD k 0

/-- Packets: a queue's next packet becomes the launch of the next number, refused or not, or an unreadable one stops its queue; the first
candidate's cohort is admitted; a launch ends with its status word, and what it held is freed; a wave of which nothing is left retires. When the
argument block is read, that a device queue has no interrupt, and that the fetch of a packet empties the L1s, are the model's choices (log entries
24, 57, 66, 82, 88) (04 R118; 06 R180; 09 R237, R241, R242, R244, R248; 12 R308; 13 R316). -/
def Obligations.Launching : Prop :=
  (∀ s fn k, s.arg = [fn, k] → k < 8 →
    let q := (s.dev.fn fn).queues.getD k HostQueue.reset
    let sp := (fn, bits q.ctl 11 8)
    let rd := readDwords s.dev.fetchAcquire sp (q.base + BitVec.ofNat 64 (256 * (q.read.toNat % 2 ^ bits q.ctl 4 0))) 32
    (s.dev.queueReady q = false → exec .packetAccept s = .next s) ∧
    (s.dev.queueReady q = true → rd.1 = .error .wait → exec .packetAccept s = .next s) ∧
    (∀ e, s.dev.queueReady q = true → rd.1 = .error e → e ≠ .wait →
      exec .packetAccept s = .next { s with dev := rd.2.setQueue fn k { q with stat := 0x201 } }) ∧
    (∀ pk, s.dev.queueReady q = true → rd.1 = .ok pk →
      Enters .packetAccept s (({ rd.2 with seq := (s.dev.seq + 1) % 2 ^ 48 } : Device).setQueue fn k { q with read := q.read + 1 })
        s.dev.seq fn sp.2 k pk 0)) ∧
  (∀ s fn k c l, s.arg = [fn, k] → 8 ≤ k → s.dev.devQ.getD (k - 8) [] = c :: l → s.dev.mgmt.devstate = 2 →
    Enters .packetAccept s { s.dev with devQ := s.dev.devQ.set (k - 8) l } c.seq c.space.1 c.space.2 k c.packet c.start) ∧
  (∀ (d : Device) seq l state cause t,
    let a := dw l.packet 6
    let w : Word64 := BitVec.ofNat 64 (seq * 2 ^ 16 + cause * 2 ^ 8 + state)
    let r := d.storeVa 0 (l.fn, l.as) a ((List.range 8).map fun i => BitVec.ofNat 8 (w.toNat / 2 ^ (8 * i))) t
    ((a = 0 ∨ a.toNat % 8 ≠ 0) → d.writeStatus seq l state cause t = some (d.completionIrq l)) ∧
    (a ≠ 0 → a.toNat % 8 = 0 → d.writeStatus seq l state cause t = if r.1 = some .wait then none else some (r.2.completionIrq l))) ∧
  (∀ s n l, s.arg = [n] → s.dev.launches.get? n = some l →
    (s.dev.firstCand ≠ some (.fresh n) ∨ s.dev.mgmt.table ≠ none → exec .groupAdmit s = .next s) ∧
    (s.dev.firstCand = some (.fresh n) → s.dev.mgmt.table = none →
      let met := if l.depsMet = true then (.ok (some l.start), s.dev) else s.dev.depsHold l
      (∀ e, met.1 = .error e → exec .groupAdmit s =
        .next { s with dev := { met.2 with launches := met.2.launches.set n { l with failed := true } } }) ∧
      (met.1 = .ok none → exec .groupAdmit s = .next s) ∧
      ∀ t, met.1 = .ok (some t) →
        let x : Launch := { l with depsMet := true, start := t }
        let d0 : Device := { met.2 with launches := met.2.launches.set n x }
        (d0.placement n x = none → exec .groupAdmit s = .next { s with dev := d0 }) ∧
        ∀ ps, d0.placement n x = some ps → Event .groupAdmit s fun d => d.mem = s.dev.mem ∧
          d.launches.get? n = some { x with admitted := l.admitted + ps.length } ∧
          ∀ (i : Nat) y, ps[i]? = some y →
            let gid := n * 2 ^ 32 + (l.admitted + i)
            d.groups.get? gid = some (newGroup n (l.admitted + i) y.1 y.2.2 l.packet) ∧
            ∀ (w : Nat) b, y.2.1[w]? = some b → w < 64 → y.2.1.length ≤ 64 → (∀ z ∈ ps, z.2.1.length ≤ 64) → ∃ gen,
              d.waves.get? (gid * 64 + w) = some (newWave n gid x w y.1 b gen (tmax s.dev.pulse s.dev.floor t)))) ∧
  (∀ s n l, s.arg = [n] → s.dev.launches.get? n = some l →
    let failed := l.failed || s.dev.groups.any fun g => decide (g.2.launch = n) && g.2.failed
    let st := s.dev.writeStatus n l (if failed then 2 else 1) 0 (s.dev.launchTime n)
    (s.dev.launchDone n l = false ∨ st = none → exec .launchComplete s = .next s) ∧
    ∀ d1, s.dev.launchDone n l = true → st = some d1 → Event .launchComplete s fun d =>
      d.launches.get? n = some { l with complete := true, failed := failed } ∧ d.mem = d1.mem ∧ d.out = d1.out ∧
      d.waves = s.dev.waves.filter (fun w => decide (w.2.launch ≠ n)) ∧ d.groups = s.dev.groups.filter (fun g => decide (g.2.launch ≠ n)) ∧
      d.taskQ = s.dev.taskQ.filter fun q => !bit (dw l.packet 12) q.1) ∧
  (∀ s k w, s.arg = [k] → s.dev.waves.get? k = some w → w.retired = false →
    (w.live ≠ [] ∨ s.dev.owesRegs k = true ∨ s.dev.drained k = false ∨ s.dev.profile w = none → exec .waveRetire s = .next s) ∧
    ∀ d1, w.live = [] → s.dev.owesRegs k = false → s.dev.drained k = true → s.dev.profile w = some d1 →
      Event .waveRetire s fun d => d.waves.get? k = some { w with retired := true, profiled := true, halt := none } ∧ d.mem = d1.mem) ∧
  ∀ s n k l, s.arg = [n, k] → s.dev.launches.get? n = some l →
    let ms := setMembers l n k
    let held := ms.flatMap fun m => ((s.dev.waves.get? m).map fun w => w.live.filter (atGbar k)).getD []
    ((∃ m ∈ ms, s.dev.gbarHere k m = false) → exec .gbarRelease s = .next s) ∧
    (held ≠ [] → (∀ m ∈ ms, s.dev.gbarHere k m = true) → Event .gbarRelease s fun d =>
      ∀ m w, s.dev.waves.get? m = some w → d.waves.get? m = some (if m ∈ ms then { w with parts := w.parts.map (released s.dev k held) } else w))

/-- Allotments and pre-emption: the oldest request of a list is granted when it fits, and waits otherwise; a wait of 4,096 cycles pre-empts
the youngest other group that holds resources, and one after the other until the oldest request is granted; a group asked to stop is saved once it is
quiet, its live registers with it, or the pre-emption fails after 2^20 cycles, of which the host runtime hears where it asked; a saved group that comes
first is restored with what the context area holds, and its records carry no usable chart. How the context lies in its slot beyond what the manual
gives is the model's choice, and so is how a wait is counted and what a saved wave keeps (log entries 29, 51, 69) (01 R41,
R42; 04 R124; 09 R245, R246, R249, R250; 12 R308, R309). -/
def Obligations.AllotmentsAndPreemption : Prop :=
  (∀ s c list r w q, s.arg = [c, list] → s.dev.oldest c list = some r → s.dev.partOf r.wave r.quad = some (w, q) →
    (list < 4 → r.amount ≤ s.dev.slotFreeRegs c list → Event .allotmentGrant s fun d => d.mem = s.dev.mem ∧ ∃ w', d.waves.get? r.wave = some w' ∧
      w'.acqGrant = true ∧ w'.acqReq = none ∧ w'.parts.map (·.quads) = w.parts.map (·.quads) ∧ w'.flags = w.flags ∧
      (∀ x ∈ (d.core c).breaks, x.1 ≠ list) ∧
      (∀ k l, k < 128 → w'.vregs.get (vkey k l) = if w.prologue ≤ k then 0 else w.vregs.get (vkey k l)) ∧
      ∀ p ∈ w'.parts, ∀ e ∈ p.window, ∀ x ∈ e.w, ∀ k l, x.1 = .v k l → k < w.prologue) ∧
    (list < 4 → s.dev.slotFreeRegs c list < r.amount → exec .allotmentGrant s = .next s) ∧
    (∀ f, list = 4 → s.dev.freeRun c r.amount = some f → exec .allotmentGrant s =
      .next { s with dev := (s.dev.setPart r.wave w { q with tallocGrant := q.tallocGrant ++ [(f, r.amount)] }).endBreak c list }) ∧
    (list = 4 → s.dev.freeRun c r.amount = none → exec .allotmentGrant s = .next s)) ∧
  (∀ s c list r w v g, s.arg = [c, list] → s.dev.oldest c list = some r → s.dev.waves.get? r.wave = some w →
    (∀ x ∈ s.dev.groupsOn c, x.2.preemptFor = some list → x.2.preempt = none) → s.dev.victim c list w.group = some v →
    s.dev.groups.get? v = some g → g.saved = false → g.core = some c → s.dev.saveable g = true → g.preempt = none →
      (∀ x ∈ s.dev.groups, x.2.core = some c → x.1 ≠ w.group → s.dev.holdsList c list x.1 = true → s.dev.saveable x.2 = true →
        list ∉ x.2.passed → x.1 ≤ v) ∧
      (s.dev.stuck c = true ∨ (4096 ≤ r.waited ∧ ∀ x ∈ s.dev.groupsOn c, x.1 = w.group ∨ s.dev.holdsList c list x.1 = false ∨
        s.dev.groupAsks c x.1 = true) ∨ (list, r.wave, r.quad) ∈ (s.dev.core c).breaks → Event .allotmentDeadlockPreempt s fun d =>
          d.groups.get? v = some { g with preempt := some 0, preemptFor := some list } ∧ (list, r.wave, r.quad) ∈ (d.core c).breaks ∧
          d.mem = s.dev.mem ∧ d.waves = s.dev.waves ∧ ∀ k, k ≠ v → d.groups.get? k = s.dev.groups.get? k) ∧
      (s.dev.stuck c = false → r.waited < 4096 → (list, r.wave, r.quad) ∉ (s.dev.core c).breaks →
        exec .allotmentDeadlockPreempt s = .next s)) ∧
  (∀ (d : Device) w q l, w.parts = [q] → liveLanes w q.quads ≠ 0 → liveAt d (d.spaceOf w.launch) q.pc = some l →
    let f := flushWindow w q
    let x := saveWave d w
    x.saved = true ∧ x.flags = w.flags ∧ x.fpx = w.fpx ∧ x.batch = w.batch ∧ x.gen = w.gen ∧ x.width = w.width ∧
      (∀ r n, r < 128 → bit q.quads (n / 4) = true → x.vregs.get (vkey r n) =
        if bit (dw l (2 + r / 64)) (r % 64) then f.1.vregs.get (vkey r n) else 0) ∧
      ∃ q', x.parts = [q'] ∧ q'.pc = q.pc ∧ q'.stack = q.stack ∧ q'.loops = q.loops ∧ q'.pts = q.pts ∧ q'.window = [] ∧
        ∀ r, q'.sregs.get r = if bit (dw l 1) r then f.2.sregs.get r else 0) ∧
  (∀ (d : Device) core launch index lo n val k, (∀ va, d.slotVa launch index = some va →
      ∀ l ∈ (contextLeaves d core (d.spaceOf launch) (va + BitVec.ofNat 64 lo) n).1, ∀ x, l.covers (d.spaceOf launch) x = true →
        ∀ i, i < 128 → k ≠ d.home (l.key (x + BitVec.ofNat 64 i))) → (d.contextPut core launch index lo n val).mem.get k = d.mem.get k) ∧
  ∀ s k g, s.arg = [k] → s.dev.groups.get? k = some g →
    (g.core.isSome = true → g.saved = false → g.preempt = none →
      (s.dev.packetWord g.launch 9 ≠ 0 → exec .preemptRequest s =
        .next { s with dev := s.dev.setGroup k { g with preempt := some 0, preemptFor := none } }) ∧
      (s.dev.packetWord g.launch 9 = 0 → exec .preemptRequest s =
        .next { s with dev := { s.dev with out := .preemptFailed k :: s.dev.out } })) ∧
    (g.core.isSome = true → g.saved = false → g.preempt ≠ none →
      (g.preemptFor ≠ none → g.preemptHost = none → exec .preemptRequest s =
        .next { s with dev := s.dev.setGroup k { g with preemptHost := some 0 } }) ∧
      (g.preemptFor = none ∨ g.preemptHost ≠ none → exec .preemptRequest s = .next s)) ∧
    (∀ c n, g.core = some c → g.preempt = some n →
      (s.dev.quiet k g = false → exec .preemptSave s = .next s) ∧
      (s.dev.quiet k g = true → Event .preemptSave s fun d =>
        (s.dev.slotVa g.launch g.index = none → (∀ w ∈ s.dev.waves, w.2.group = k → w.2.launch = g.launch) → d.mem = s.dev.mem) ∧
        d.groups.get? k = some { g with core := none, saved := true, images := tileImages (s.dev.core c) g, preempt := none,
                                        preemptFor := none, preemptHost := none, passed := [] } ∧
        ∀ m w, s.dev.waves.get? m = some w → d.waves.get? m =
          some (if w.group = k ∧ w.retired = false ∧ w.saved = false then saveWave s.dev w else w)) ∧
      (2 ^ 20 ≤ n → exec .preemptFail s = .next { s with
        dev := (if g.preemptFor = none then { s.dev with out := .preemptFailed k :: s.dev.out } else s.dev).setGroup k
          { g with preempt := g.preemptHost, preemptFor := none, preemptHost := none, passed := g.passed ++ g.preemptFor.toList } }) ∧
      (n < 2 ^ 20 → exec .preemptFail s = .next s)) ∧
    (∀ l c b t, s.dev.launches.get? g.launch = some l → g.saved = true → s.dev.firstCand = some (.saved k) → s.dev.restorable k = true →
      s.dev.mgmt.table = none →
      (s.dev.restoreCores g l).findSome? (s.dev.restoreFit k g l) = some (c, b, t) →
        let get := (s.dev.contextGet c g.launch g.index 0 (s.dev.slotSize g.launch)).1
        let x := groupFrom get g
        Event .groupRestore s fun d => d.mem = s.dev.mem ∧
          d.groups.get? k = some { x with core := some c, base := b.2, saved := false, images := [], spad := padFrom get x,
                                          tiles := (x.tiles.zip t).map fun y => (y.1.1, { y.1.2 with first := y.2 }) } ∧
          ∀ o r, x.recs.get? o = some r → ∀ y ∈ (d.core c).charts, y.key.ident = r.ident → y.dead ≠ none) ∧
    ((s.dev.firstCand ≠ some (.saved k) ∨ s.dev.restorable k = false ∨ s.dev.mgmt.table ≠ none ∨ g.saved = false) →
      exec .groupRestore s = .next s)

/-- Stops: a stopping wave is stopped once every part stands at a header, its windows written back, and one that is to be killed is
killed, a stopped one once no record of it can be written; then,
with room in a usable trap area, its record is written, counted and signalled, and without such an area a trapping wave is to be killed; a failure
after commit that it has kept is reported after that; breakpoints, steps and the debugger's commands, each of which answers 1 when it finds no
target. What a stopped wave's further failures do, that a trap interrupt goes to host queues alone, what a kill waits for, and what answers where
a trap area is absent for a step, or a Save does not drain in 2^20 cycles, are the model's choices (log entries 24, 52 to 56) (09 R231; 12 R304 to R308, R311; 14 R335 to R338). -/
def Obligations.StopsAndDebugging : Prop :=
  (∀ s k w h, s.arg = [k] → s.dev.waves.get? k = some w → w.halt = some h → w.retired = false →
    (w.live ≠ [] → (∀ q ∈ w.live, q.stands = true) →
      (h.kill = true → (h.stopped = false ∧ h.info.cause = 0 ∨ h.stopped = true ∧ s.dev.owesRecord w h = false) →
        exec .trapStop s = .next { s with dev := s.dev.killWave k }) ∧
      (h.stopped = true → (h.kill = false ∨ s.dev.owesRecord w h = true) → exec .trapStop s = .next s) ∧
      (h.stopped = false → (h.kill = false ∨ h.info.cause ≠ 0) → Event .trapStop s fun d => d.mem = s.dev.mem ∧ ∃ w', d.waves.get? k = some w' ∧
        w'.halt = some { h with stopped := true } ∧
        (∀ q ∈ w'.live, q.window = []) ∧ w'.flags = w.flags ∧ w'.parts.map (·.quads) = w.parts.map (·.quads) ∧
        ((w.parts.map (·.quads)).Nodup → w'.parts.map (·.pc) = w.parts.map (·.pc)))) ∧
    ((∃ q ∈ w.live, q.stands = false) → exec .trapStop s = .next s) ∧
    (h.stopped = false ∨ h.kill = true ∧ h.written = true ∨ s.dev.drained k = false → exec .trapRecordWrite s = .next s) ∧
    (h.stopped = true → s.dev.drained k = true →
      (h.written = true → h.kill = false →
        (w.late = [] → exec .trapRecordWrite s = .next s) ∧
        ∀ x l, w.late = x :: l → Event .trapRecordWrite s fun d => d.mem = s.dev.mem ∧
          d.waves.get? k = some { w with halt := some { h with info := x.2, raiser := x.1, written := false }, late := l }) ∧
      (h.written = false →
        let e := (s.dev.trapAreaOf w.launch w.core).2
        (s.dev.trapArea w.launch w.core = .waits → exec .trapRecordWrite s = .next s) ∧
        (s.dev.trapArea w.launch w.core = .absent → exec .trapRecordWrite s = .next { s with dev := e.setWave k { w with
          halt := some (if h.info.cause = 0 then { h with written := true } else { h with kill := true }) } }) ∧
        ∀ va wr room, s.dev.trapArea w.launch w.core = .usable va wr room →
          (room = false → exec .trapRecordWrite s = .next s) ∧
          (room = true →
            let sp := s.dev.spaceOf w.launch
            let d1 := (e.storeVa w.core sp va (trapRecord e k w h) (waveTime s.dev w)).2
            let d2 := (d1.storeVa w.core sp (s.dev.packetWord w.launch 7 + 8) (wordBytes [wr + 1]) (waveTime s.dev w)).2
            Event .trapRecordWrite s fun d => d.waves.get? k = some { w with halt := some { h with written := true } } ∧ d.mem = d2.mem)))) ∧
  (∀ (d : Device) w h, d.owesRecord w h = true ↔ h.written = false ∧
    (d.trapArea w.launch w.core = .waits ∨ ∃ va wr, d.trapArea w.launch w.core = .usable va wr true)) ∧
  (∀ (d : Device) launch core,
    (d.packetWord launch 7 = 0 → d.trapArea launch core = .absent) ∧
    ∀ va wr room, d.trapArea launch core = .usable va wr room → ∃ hd rd d1,
      let a := d.packetWord launch 7
      readWords d core (d.spaceOf launch) [a, a + 8, a + 16] = (.ok [hd, wr, rd], d1) ∧ 1 ≤ bits hd 31 0 ∧ bits hd 31 0 ≤ 65536 ∧
        va = a + BitVec.ofNat 64 (64 + 160 * (wr.toNat % bits hd 31 0)) ∧ (room = true ↔ (wr - rd).toNat < bits hd 31 0)) ∧
  (∀ (d : Device) w q b,
    let f := d.fn (d.spaceOf w.launch).1
    let hit (b : Nat) : Prop := bit (f.regs.get (0x2050 + 32 * b)) 0 = true ∧ f.regs.get (0x2040 + 32 * b) = objIdent d (d.spaceOf w.launch) q.pc ∧
      f.regs.get (0x2048 + 32 * b) = position d (d.spaceOf w.launch) q.pc ∧
      (bit (f.regs.get (0x2050 + 32 * b)) 1 = true → bits (f.regs.get (0x2058 + 32 * b)) 47 0 = w.launch)
    (breakpointNow d w q = some b ↔ b < 8 ∧ hit b ∧ ∀ a, a < b → ¬ hit a) ∧
    (q.bpPass = true → breakpointOf d w q = none) ∧ (q.bpPass = false → q.reached = true → breakpointOf d w q = q.bpHere) ∧
    ∀ g, q.reached = false → (d.meetHeader w g q).bpHere = breakpointNow d w q) ∧
  (∀ s k j b w q c, s.arg = [k, j, b] → s.dev.standing k j = some (w, q, .ready, c) →
    (breakpointOf s.dev w q ≠ some b → exec .breakpointMatch s = .next s) ∧
    (breakpointOf s.dev w q = some b → Event .breakpointMatch s fun d => d.mem = s.dev.mem ∧ ∃ w', d.waves.get? k = some w' ∧
      w'.halt = some ⟨trapOf 6 0 b 0 0, some j, false, false, false, s.dev.clk.cycle⟩)) ∧
  (∀ s k w, s.arg = [k] → s.dev.waves.get? k = some w → w.halt = none →
    (w.stepping = some 0 → Event .stepTimeout s fun d => d.mem = s.dev.mem ∧ ∃ w', d.waves.get? k = some w' ∧ w'.stepping = none ∧
      w'.halt = some ⟨trapOf 0 1 0 0 0, none, false, false, false, s.dev.clk.cycle⟩) ∧
    (w.stepping ≠ some 0 → exec .stepTimeout s = .next s)) ∧
  (∀ s fn n, s.arg = [fn] → (s.dev.fn fn).dbgBusy = some n →
    (n = 0 ∨ 8 ≤ n ∧ n ≤ 15 → Answers .dbgInvalidCommand s fn 1) ∧
    (s.dev.dbgWave fn = none → (n = 1 → Answers .dbgHaltWave s fn 1) ∧ (n = 3 → Answers .dbgResume s fn 1) ∧
      (n = 4 → Answers .dbgStep s fn 1) ∧ (n = 5 → Answers .dbgKillWave s fn 1) ∧ (n = 7 → Answers .dbgSave s fn 1)) ∧
    (s.dev.dbgGroup fn = none → (n = 2 → Answers .dbgHaltGroup s fn 1) ∧ (n = 6 → Answers .dbgKillGroup s fn 1)) ∧
    (∀ k w, s.dev.dbgWave fn = some (k, w) →
      let area := s.dev.trapArea w.launch w.core
      let read := (s.dev.trapAreaOf w.launch w.core).2
      ((w.halt = none ∨ ∃ h, w.halt = some h ∧ (h.info.cause = 13 ∨ w.late ≠ [])) →
        (n = 3 → Answers .dbgResume s fn 2) ∧ (n = 4 → Answers .dbgStep s fn 2) ∧ (n = 7 → Answers .dbgSave s fn 2)) ∧
      (n = 1 → w.halt = none → (area = .waits → exec .dbgHaltWave s = .next s) ∧ (area = .absent → exec .dbgHaltWave s = .next { s with dev := read.dbgDone fn 5 }) ∧
        ∀ va wr room, area = .usable va wr room → Event .dbgHaltWave s fun d =>
          d.waves.get? k = some { w with halt := some (stopAsked s.dev false) } ∧ (d.fn fn).dbgBusy = some 17) ∧
      (∀ h, n = 1 → w.halt = some h → (h.written = true → Answers .dbgHaltWave s fn 4) ∧ (h.written = false → exec .dbgHaltWave s = .next s)) ∧
      (n = 5 → Event .dbgKillWave s fun d => (d.fn fn).dbgBusy = some 21 ∧
        (w.halt = none → d.waves.get? k = some { w with halt := some (stopAsked s.dev true) }) ∧
        ∀ h, w.halt = some h → d.waves.get? k = some { w with halt := some { h with kill := true } }) ∧
      (∀ h, w.halt = some h → h.info.cause ≠ 13 → w.late = [] → h.written = false → (n = 3 → exec .dbgResume s = .next s) ∧
        (n = 4 → exec .dbgStep s = .next s) ∧ (n = 7 → exec .dbgSave s = .next s)) ∧
      (∀ h, w.halt = some h → h.written = true → h.info.cause ≠ 13 → w.late = [] → w.saved = false →
        (n = 3 → Event .dbgResume s fun d => (d.fn fn).dbgBusy = none ∧ (d.fn fn).dbgResult = 0 ∧
          ∃ w', d.waves.get? k = some w' ∧ w'.halt = none ∧ w'.stepping = none ∧ w'.vregs = w.vregs ∧ w'.flags = w.flags ∧
            w'.parts.map (·.pc) = w.parts.map (·.pc) ∧ w'.parts.map (·.passBit) = w.parts.map (·.passBit)) ∧
        (n = 4 → (area = .waits → exec .dbgStep s = .next s) ∧ (area = .absent → exec .dbgStep s = .next { s with dev := read.dbgDone fn 5 }) ∧
          ∀ va wr room, area = .usable va wr room → Event .dbgStep s fun d => (d.fn fn).dbgBusy = none ∧ (d.fn fn).dbgResult = 0 ∧
            ∃ w', d.waves.get? k = some w' ∧ w'.halt = none ∧ w'.stepping = some (2 ^ 16)) ∧
        ∀ g, n = 7 → s.dev.groups.get? w.group = some g →
          (s.dev.atMarkers w = false ∨ s.dev.packetWord w.launch 9 = 0 → Answers .dbgSave s fn 3) ∧
          (s.dev.atMarkers w = true → s.dev.packetWord w.launch 9 ≠ 0 →
            let since := (s.dev.fn fn).dbgSince
            (s.dev.owesRegs k = true ∨ g.mq ≠ [] ∨ s.dev.follows w.group = true ∨ s.dev.marksHeld w = true →
              (since = 0 → Event .dbgSave s fun d => d.waves = s.dev.waves ∧ d.mem = s.dev.mem ∧ (d.fn fn).dbgBusy = some n ∧
                (d.fn fn).dbgSince = s.dev.clk.cycle + 1) ∧
              (0 < since → s.dev.clk.cycle + 1 < since + 2 ^ 20 → exec .dbgSave s = .next s) ∧
              (0 < since → since + 2 ^ 20 ≤ s.dev.clk.cycle + 1 → Answers .dbgSave s fn 3)) ∧
            (s.dev.owesRegs k = false → g.mq = [] → s.dev.follows w.group = false → s.dev.marksHeld w = false → Event .dbgSave s fun d =>
              (d.fn fn).dbgBusy = none ∧ (d.fn fn).dbgResult = 0 ∧ d.waves.get? k = some (saveWave s.dev w))))) ∧
    ∀ g, s.dev.dbgGroup fn = some g →
      let area (w : Nat × Wave) : TrapArea := s.dev.trapArea w.2.launch w.2.core
      (n = 2 → (∀ w ∈ s.dev.wavesOf g, w.2.halt.isSome = true) → Answers .dbgHaltGroup s fn 4) ∧
      (n = 2 → (∃ w ∈ s.dev.wavesOf g, w.2.halt = none) →
        ((∃ w ∈ s.dev.wavesOf g, area w = .waits) → exec .dbgHaltGroup s = .next s) ∧
        ((∀ w ∈ s.dev.wavesOf g, area w ≠ .waits) → (∃ w ∈ s.dev.wavesOf g, area w = .absent) → Answers .dbgHaltGroup s fn 5) ∧
        ((∀ w ∈ s.dev.wavesOf g, area w ≠ .waits ∧ area w ≠ .absent) → Event .dbgHaltGroup s fun d => (d.fn fn).dbgBusy = some 18 ∧
          ∀ x ∈ s.dev.wavesOf g, x.2.halt = none → s.dev.waves.get? x.1 = some x.2 →
            d.waves.get? x.1 = some { x.2 with halt := some (stopAsked s.dev false) })) ∧
      (n = 6 → ((s.dev.wavesOf g).map (·.1)).Nodup → Event .dbgKillGroup s fun d => (d.fn fn).dbgBusy = some 22 ∧ ∀ x ∈ s.dev.wavesOf g, s.dev.waves.get? x.1 = some x.2 →
        d.waves.get? x.1 = some { x.2 with halt := some (match x.2.halt with | some h => { h with kill := true } | none => stopAsked s.dev true) })) ∧
  ∀ (d : Device) k w, d.waves.get? k = some w → w.retired = false →
    let g := d.newGen w.core w.slot w.ctx
    let x : Wave := { w with killed := true, retired := true, profiled := true, saved := false, halt := none, late := [], stepping := none }
    ((d.drained k = false ∨ g.2.profile x = none) → d.killWave k = d) ∧
    ∀ d1, d.drained k = true → g.2.profile x = some d1 → (d.killWave k).mem = d1.mem ∧
      (d.killWave k).waves.get? k = some { x with gen := g.1 } ∧
      ∀ y, d.groups.get? w.group = some y → ∃ y', (d.killWave k).groups.get? w.group = some y' ∧ y'.failed = true


/-- The matrix queue, the arrays and the chart compiler: accumulator work starts at its head and MMAs in turn, with the cycles of the rules; a
course MMA is dispatched, asks for both charts and takes both arrays; what ends takes its effect on accumulator memory and leaves, its flag clearing
twenty cycles later; writes of its clause that waited for it are made then; charts are compiled in arrival order and end ready or as dense fallbacks. That an MMA reads the scratchpad when it
ends, that a chart's pattern orders the values, which quads ACCRD and ACCWR count, the order of the round, and what a course does whose
follower group is away, are the model's choices (log entries 30, 89, 98, 99). An MMA computes the Nt columns of its half and writes their words alone
(07 R186, R191 to R194, R197 to R206). -/
def Obligations.MatrixAtWork : Prop :=
  (∀ s g grp e l, s.arg = [g] → s.dev.groups.get? g = some grp → grp.mq = e :: l →
    let starts (n : Nat) : Prop := exec .matrixQueueHeadStart s = .next { s with dev := s.dev.setHead g { e with ends := some (s.dev.clk.cycle + n) } }
    (e.ends = none →
      (∀ t x, e.work = .acczero t → grp.tiles.get? t = some x → starts x.units) ∧
      (∀ t v c m y, e.work = .accrd t v c m y → starts ((bits c 29 24 + 1) * (((quadsOf e.quads).length + 7) / 8))) ∧
      (∀ t c y, e.work = .accwr t c y → starts ((bits c 29 24 + 1) * (((quadsOf e.quads).length + 7) / 8))) ∧
      (∀ z cc sp t o sh r m a, e.work = .mma z cc sp t o sh r m a → exec .matrixQueueHeadStart s = .next s)) ∧
    (∀ core t, grp.core = some core → e.ends = some t →
      (s.dev.clk.cycle < t → exec .matrixOpComplete s = .next s) ∧
      (t ≤ s.dev.clk.cycle → Event .matrixOpComplete s fun d => d.mem = s.dev.mem ∧ (e.later = [] → d.groups.get? g = some { grp with mq := l }) ∧
        (e.later ≠ [] → ∃ x, d.groups.get? g = some x ∧ x.mq = l ∧ x.recs = grp.recs ∧ x.tiles = grp.tiles ∧ x.mode = grp.mode ∧
          x.spad = grp.spad.setAll e.later) ∧
        (∀ f, e.flag = some f → ∃ m, d.mdone.get? e.id = some m ∧ m.due = t + 20 ∧ m.quads = e.quads ∧ m.flag = some f ∧ m.gen = e.gen) ∧
        (∀ n x k, e.work = .acczero n → grp.tiles.get? n = some x → x.first * 4096 ≤ k → k < (x.first + x.units) * 4096 →
          (d.core core).acc.get k = 0) ∧
        (∀ n c y x, e.work = .accwr n c y → grp.tiles.get? n = some x →
          (d.core core).acc = (s.dev.core core).acc.setAll (accwrWrites x c y)) ∧
        (∀ n c y x ly j k, e.work = .accwr n c y → grp.tiles.get? n = some x → (y.map (·.1)).Nodup → ly ∈ y → j < (bits c 29 24 + 1) * ctlEpr c →
          placeOf x (ctlPitch c) (bits c 6 0 + ly.1) (bits c 15 7 + j) = some k → (d.core core).acc.get k = BitVec.ofNat 32
            (encTo (if x.int then .i32 else .flt .f32) (bit c 23)
              (cvtSrc (ctlTy c) false (elem (32 / ctlEpr c) (j % ctlEpr c) (ly.2.getD (j / ctlEpr c) 0))))) ∧
        (∀ n v c m sc x l i, e.work = .accrd n v c m sc → grp.tiles.get? n = some x → e.flag ≠ none → l < 64 → bit m l = true → i ≤ bits c 29 24 →
          ∃ dn w, d.mdone.get? e.id = some dn ∧ (vkey (v + i) l, w) ∈ dn.writes ∧ ∀ j, j < ctlEpr c →
            let col := bits c 15 7 + i * ctlEpr c + j
            let y := match placeOf x (ctlPitch c) (bits c 6 0 + l) col with
              | some k => accNum x.int ((s.dev.core core).acc.get k)
              | none => Machine.Num.zero
            let z := if bits c 22 21 = 1 then val .f32 (sc.get (bits c 6 0 + l)).toNat
              else if bits c 22 21 = 2 then val .f32 (sc.get col).toNat else Num.one
            elem (32 / ctlEpr c) j w = encTo (ctlTy c) (bit c 23) (mulX y z) % 2 ^ (32 / ctlEpr c)) ∧
        (∀ z sp n o sh r a x w, e.work = .mma z false sp n o sh r none a → grp.tiles.get? n = some x →
          let y := mmaRun (s.dev.core core).acc grp r x z false sh ((chartOf s.dev core e.id sp r sh).map Chart.pattern) a
          (d.core core).acc = y.1 ∧ (s.dev.liveWave e.wave e.gen = some w → ∃ w', d.waves.get? e.wave = some w' ∧
            w'.fpx = if y.2 then w.fpx ||| 0x20 else w.fpx)) ∧
        (∀ z sp n o sh r m a x k mg y, e.work = .mma z true sp n o sh r (some m) a → grp.tiles.get? n = some x → s.dev.partner g = some k →
          s.dev.groups.get? k = some mg → mg.tiles.get? n = some y →
          (d.core core).acc = (mmaRun (s.dev.core core).acc grp r x z true sh ((chartOf s.dev core e.id sp r sh).map Chart.pattern) a).1 ∧
          (d.core (otherCore core)).acc = (mmaRun (s.dev.core (otherCore core)).acc mg m.1 y z true sh
            ((chartOf s.dev (otherCore core) e.id sp m.1 sh).map Chart.pattern) a).1 ∧ (d.core (otherCore core)).slaved = none)))) ∧
  (∀ g r nt pat, (colsOf g r nt pat).1.length = nt) ∧
  (∀ acc g r t z c sh pat a k, (∀ m n, m < a.length → n < ntOf c sh → k ≠ t.first * 4096 + m * ntOf c sh + n) →
    (mmaRun acc g r t z c sh pat a).1.get k = acc.get k) ∧
  (∀ s k m, s.arg = [k] → s.dev.mdone.get? k = some m →
    (s.dev.clk.cycle < m.due → exec .matrixFlagClear s = .next s) ∧
    ∀ w f, m.due ≤ s.dev.clk.cycle → s.dev.liveWave m.wave m.gen = some w → m.flag = some f → f < 12 → Event .matrixFlagClear s fun d =>
      d.mem = s.dev.mem ∧ d.mdone = s.dev.mdone.del k ∧ ∃ w', d.waves.get? m.wave = some w' ∧ w'.vregs = w.vregs.setAll m.writes ∧
        ∀ j, w'.flag j f = if j ∈ quadsOf m.quads then (w.flag j f + 15) % 16 else w.flag j f) ∧
  (∀ s c g grp e l z sp t o sh r m a, s.arg = [c] → (s.dev.core c).slaved = none →
    (∀ x ∈ s.dev.groups, x.2.core = some c → ∀ y z, x.2.mq = y :: z → y.dispatched = false) →
    (s.dev.clk.cycle < (s.dev.core c).arrayFree → exec .mmaArrayStart s = .next s) ∧
    ((s.dev.core c).arrayFree ≤ s.dev.clk.cycle → nextGroup s.dev c = some g → s.dev.groups.get? g = some grp → grp.mq = e :: l →
      e.work = .mma z false sp t o sh r m a → Event .mmaArrayStart s fun d =>
        let n := arrayCycles s.dev c e.id false sp r sh
        let twice := if s.dev.clk.halved then 2 else 1
        (sp = false → n = twice * (mOf sh * ntOf false sh / 256)) ∧
        (∀ x, sp = true → (s.dev.core c).chartFor (keyFor r sh) e.id = some x →
          (x.reason = 0 → n = twice * ((mOf sh * x.nnz + macsOf r.fmt - 1) / macsOf r.fmt + 2)) ∧
          (x.reason ≠ 0 → n = twice * (mOf sh * ntOf false sh / 256)) ∧ (d.core c).charts = x :: (s.dev.core c).charts.erase x) ∧
        (d.core c).arrayFree = s.dev.clk.cycle + n ∧ (d.core c).lastGroup = g ∧ (d.core c).acc = (s.dev.core c).acc ∧
        d.groups.get? g = some { grp with mq := { e with ends := some (s.dev.clk.cycle + n) } :: l })) ∧
  (∀ s g grp c e l z sp t o sh r m a, s.arg = [g] → s.dev.groups.get? g = some grp → grp.core = some c → grp.mq = e :: l →
    e.work = .mma z true sp t o sh r m a → arrayFree s.dev c = true → nextGroup s.dev c = some g →
    (s.dev.core (otherCore c)).slaved = none → Event .courseMmaDispatch s fun d => (d.core (otherCore c)).slaved = some g ∧
      d.groups.get? g = some { grp with mq := { e with dispatched := true } :: l } ∧ d.mem = s.dev.mem ∧
      (sp = false → (d.core c).chartQ = (s.dev.core c).chartQ ∧ (d.core (otherCore c)).chartQ = (s.dev.core (otherCore c)).chartQ) ∧
      (sp = true → (s.dev.core c).chart? (keyFor r sh) = none → (s.dev.core c).inCompile (keyFor r sh) = false →
        (d.core c).chartQ = (s.dev.core c).chartQ ++ [⟨keyFor r sh, g, r, ntOf true sh, false, e.id⟩])) ∧
  (∀ s f g grp c e l z sp t o sh r m a, s.arg = [f] → (s.dev.core f).slaved = some g → s.dev.groups.get? g = some grp → grp.core = some c →
    f = otherCore c → grp.mq = e :: l → e.work = .mma z true sp t o sh r (some m) a → e.dispatched = true → e.ends = none →
    (s.dev.clk.cycle < (s.dev.core c).arrayFree ∨ s.dev.clk.cycle < (s.dev.core f).arrayFree ∨ chartReady s.dev c e.id sp r sh = false ∨
      chartReady s.dev f e.id sp m.1 sh = false → exec .mmaArrayStart s = .next s) ∧
    ((s.dev.core c).arrayFree ≤ s.dev.clk.cycle → (s.dev.core f).arrayFree ≤ s.dev.clk.cycle → chartReady s.dev c e.id sp r sh = true →
      chartReady s.dev f e.id sp m.1 sh = true → s.dev.stalls g e.id false (mmaReads true sh r) = false →
      (∀ k, s.dev.partner g = some k → s.dev.stalls k e.id false (mmaReads true sh m.1) = false) → Event .mmaArrayStart s fun d =>
        let n := s.dev.clk.cycle + max (arrayCycles s.dev c e.id true sp r sh) (arrayCycles s.dev f e.id true sp m.1 sh)
        (d.core c).arrayFree = n ∧ (d.core f).arrayFree = n ∧ d.groups.get? g = some { grp with mq := { e with ends := some n } :: l })) ∧
  ∀ s c, s.arg = [c] →
    (∀ q l g, (s.dev.core c).compiling = none → (s.dev.core c).chartQ = q :: l → s.dev.groups.get? q.group = some g →
      (s.dev.bitmapStalls q = true → exec .chartCompileStart s = .next s) ∧
      (s.dev.bitmapStalls q = false →
        exec .chartCompileStart s = .next { s with dev := s.dev.setCore c { s.dev.core c with
          chartQ := l, compiling := some (q, s.dev.clk.cycle + (24 + (nnzOf (q.pattern g) + 15) / 16 + 2 * q.nt)) } })) ∧
    ∀ q t, (s.dev.core c).compiling = some (q, t) →
      (s.dev.clk.cycle < t → exec .chartCompileEnd s = .next s) ∧
      ∀ g, t ≤ s.dev.clk.cycle → s.dev.groups.get? q.group = some g →
        let pat := q.pattern g
        let x : Chart := ⟨q.key, if q.nt * kOf q.obrec.fmt < 2 * nnzOf pat then 1 else if 2048 < microOps pat then 2 else 0, nnzOf pat, microOps pat,
          pat, none⟩
        let old := (s.dev.core c).charts
        let becomes (l : List Chart) : Prop :=
          exec .chartCompileEnd s = .next { s with dev := s.dev.setCore c { s.dev.core c with charts := l, compiling := none } }
        (chartsFit (x :: old) = true → becomes (x :: old)) ∧
        (chartsFit (x :: old) = false → (∀ y ∈ old, s.dev.pinners c y ≠ []) → exec .chartCompileEnd s = .next s) ∧
        ∀ y, chartsFit (x :: old) = false → old.reverse.find? (fun y => (s.dev.pinners c y).isEmpty) = some y → chartsFit (x :: old.erase y) = true →
          becomes (x :: old.erase y)

/-- The engines: a granule moves and is counted, with the bytes of the row that the copy has reached, and the last ends the operation and retires
its ranges; a lasting fault ends it with what it has done kept for WAITB; a gather's element is written or zero-filled; a signal follows its payload;
a bank unit takes the groups that fall to it in the order of the operations, and writes a group's 16 rows or its failure status; a finished product
releases y and its flag clears (06 R170 to R175, R183; 10 R257, R267, R268). The times of what an engine does, the order in which the units
of one operation run, that an engine waits for what its part has stored before, what a signal's failure is and what a failed walk counts as are the
model's choices (log entries 17, 31 to 35, 95, 96). The sum of a row and the bytes of a group are written out, and so are the bytes and the status bit
of an element (02 R53, R73). -/
def Obligations.EnginesAtWork : Prop :=
  (∀ s id o, s.arg = [id] → s.dev.ops.get? id = some o → o.order = id →
    (s.dev.clk.cycle < o.ready → exec .copyGranule s = .next s) ∧
    (tryGranule s.dev o = .wait → exec .copyGranule s = .next s) ∧
    (∀ n t r d0 x, o.ready ≤ s.dev.clk.cycle → tryGranule s.dev o = .ok (n, t, r, d0) → o.barrier = none → o.kind = .copy x →
      let o' := { o with done := o.done + 1, counted := o.counted + n, sent := none, time := tmax s.dev.pulse o.time t, row := r.1, pos := r.2, port := none }
      Event .copyGranule s fun d => d.mem = d0.mem ∧ d.groups = d0.groups ∧
        (moreGranules o' = true → d.ops.get? id = some o') ∧
        (moreGranules o' = false → d.ops.get? id = none ∧ ∀ c, ∀ r ∈ (d.core c).board, r.op ≠ id) ∧
        (∀ g, convOf x = 0 → sspOf x = true → dspOf x = true → s.dev.groups.get? o.group = some g → o.pos < copyRowBytes x →
          let src := srcOf x + (rowOff (dimsOf x).tail o.row).1 + o.pos
          let dst := dstOf x + (rowOff (dimsOf x).tail o.row).2 + o.pos
          0 ≤ src → src + 32 ≤ g.size → 0 ≤ dst → dst + 32 ≤ g.size → ∃ g', d.groups.get? o.group = some g' ∧
            ∀ i : Nat, i < copyRowBytes x - o.pos → i < 32 - (dst % 32).toNat →
              (∀ r' b, o.row < r' → r' < copyRows x → b < copyRowBytes x → dstOf x + (rowOff (dimsOf x).tail r').2 + (b : Nat) ≠ dst + i) → g'.spad.get (dst + i).toNat = g.spad.get (src + i).toNat)) ∧
    (∀ x, o.kind = .putsig x →
      (o.pos < putsigN x → exec .putsigSignal s = .next s) ∧
      ∀ t d0, trySignal s.dev o x = .ok (t, d0) → Event .putsigSignal s fun d => d.mem = d0.mem ∧ d.ops.get? id = none)) ∧
  (∀ s id c o va e w, s.arg = [id, c] → s.dev.ops.get? id = some o → o.order = id → opFailure s.dev o = some (c, va, e) → o.barrier = none →
    s.dev.liveWave o.wave o.gen = some w → Event .copyFailure s fun d => d.mem = s.dev.mem ∧ d.ops.get? id = none ∧
      (∀ k g, s.dev.groups.get? k = some g → ∃ g', d.groups.get? k = some g' ∧ g'.spad = g.spad) ∧
      ∃ w', d.waves.get? o.wave = some w' ∧ w'.failures = w.failures ++ [⟨o.batch, id, c, va, o.done, o.hdrAt⟩] ∧ w'.flags = w.flags) ∧
  (∀ s id k o x, s.arg = [id, k] → s.dev.ops.get? id = some o → o.order = id → o.kind = .gather x → o.done < gatherN x →
    o.ready ≤ s.dev.clk.cycle →
      (∀ b t d0 d1, k = 1 → gatherRead s.dev o x = .ok (b, t, d0) → gatherPut d0 o x b t true = .ok d1 →
        exec .gatherElement s = .next { s with dev := d1 } ∧ (o.barrier = none → Puts .gatherElement s o x b true)) ∧
      (∀ c va e d1, k = 0 → gatherRead s.dev o x = .fail c va e → gatherPut e o x (List.replicate (gatherSize x) 0) o.c false = .ok d1 →
        exec .gatherElement s = .next { s with dev := d1 } ∧ (o.barrier = none → Puts .gatherElement s o x [] false)) ∧
      (∀ b t d0 g, gatherRead s.dev o x = .ok (b, t, d0) → s.dev.groups.get? o.group = some g →
        let m := if bit (dw x 1) 36 then 8 else 4
        let at' := bits (dw x 2) 18 0 + o.done * m
        at' + m ≤ g.size → ∃ e ks, gatherVa s.dev o x o.done =
            .ok (dw x 0 + BitVec.ofInt 64 (sextNat (8 * m) (spadNat g at' m) * (2 ^ bits (dw x 1) 40 37 : Nat)), e) ∧
          (reach e o.core o.space .engRead (dw x 0 + BitVec.ofInt 64 (sextNat (8 * m) (spadNat g at' m) * (2 ^ bits (dw x 1) 40 37 : Nat)))
            (2 ^ bits (dw x 1) 35 32)).1 = .ok ks ∧ b = s.dev.bytes ks.keys ∧ d0.mem = s.dev.mem) ∧
      (gatherRead s.dev o x = .wait → exec .gatherElement s = .next s)) ∧
  bankSums ∧
  ∀ s id o, s.arg = [id] → s.dev.bmvs.get? id = some o →
    (∀ x i j, o.x = none → x ∈ s.dev.bmvs → x.1 < id → bmvStack s.dev x.2 = bmvStack s.dev o → i < bmvGroups o.desc → o.status.get i = 0 →
      j < bmvGroups x.2.desc → x.2.status.get j = 0 → (bmvFirst x.2.desc / 16 + j) % 64 = (bmvFirst o.desc / 16 + i) % 64 →
        exec .bankUnitGroup s = .next s) ∧
    (s.dev.clk.cycle < o.ready ∨ bmvNext s.dev id o = none → exec .bankUnitGroup s = .next s) ∧
    (∀ i, bmvNext s.dev id o = some i → i < bmvGroups o.desc ∧ o.status.get i = 0 ∧
      ∀ x ∈ s.dev.bmvs, x.1 < id → bmvStack s.dev x.2 = bmvStack s.dev o → ∀ j, j < bmvGroups x.2.desc → x.2.status.get j = 0 →
        (bmvFirst x.2.desc / 16 + j) % 64 ≠ (bmvFirst o.desc / 16 + i) % 64) ∧
    (∀ xs i, bmvNext s.dev id o = some i → o.ready ≤ s.dev.clk.cycle → o.x = some xs →
      (∀ d2, bmvGroup s.dev o i = (.wait, d2) → exec .bankUnitGroup s = .next s) ∧
      (∀ e d2, bmvGroup s.dev o i = (.fail e, d2) → exec .bankUnitGroup s = .next { s with dev := { d2 with
        bmvs := d2.bmvs.set id { o with status := o.status.set i (BitVec.ofNat 8 e) } } }) ∧
      ∀ ks bs fe d2, bmvGroup s.dev o i = (.ok (ks, bs, fe), d2) → RowsOf s.dev o i xs ks bs ∧
        ((ks.map s.dev.home).Nodup → ks.length = bs.length → Event .bankUnitGroup s fun d =>
        (∀ (n : Nat) k b, ks[n]? = some k → bs[n]? = some b → d.mem.get (s.dev.home k) = b) ∧
        (∀ k, k ∉ ks.map s.dev.home → d.mem.get k = s.dev.mem.get k) ∧
        d.bmvs.get? id = some { o with status := o.status.set i (if fe then 3 else 1), fe := o.fe || fe })) ∧
    (∀ i, i < bmvGroups o.desc → o.status.get i = 0 → exec .bmvComplete s = .next s) ∧
    ∀ w f, (∀ i, i < bmvGroups o.desc → o.status.get i ≠ 0) → statusWaits s.dev o = false → o.parked = [] →
      s.dev.liveWave o.wave o.gen = some w → w.saved = false → o.flag = some f → f < 12 → Event .bmvComplete s fun d =>
        d.bmvs.get? id = none ∧ ∃ w', d.waves.get? o.wave = some w' ∧ w'.vregs = w.vregs ∧
          w'.fpx = (if o.fe then w.fpx ||| 0x20 else w.fpx) ∧
          ∀ j, w'.flag j f = if j ∈ quadsOf o.quads then (w.flag j f + 15) % 16 else w.flag j f

/-- The host port: queue control and doorbells, invalidation, the BAR2 aperture, the pulse, power, span and counter registers, other registers,
requests of the span, and MSI-X. A read through BAR2 or of the span, or an atomic of the span, waits at a line that a product holds; a write of a held
line waits there. A doorbell before DEVSTATE 2 is held, and a counter that is cleared keeps what it has counted in the same cycle. A doorbell that both passes the ring and
names a space that is not valid stops for the first, a register keeps what lies in its fields, lost data reads as refused, a write of DBGCMD while a
command is busy is ignored and a command acts on what DBGLNCH and DBGWAVE held at its write: the model's choices (log entries 39, 52, 55, 61, 62, 76, 90,
91) (11 R280; 12 R300; 13 R314 to R318, R320, R322, R323,
R325, R330, R332; 14 R335, R343). -/
def Obligations.HostRegisters : Prop :=
  (∀ s fn k v, s.arg = [fn, k, v] → s.dev.responds = true → fn ≤ 16 → k < 8 →
    let x : Word64 := BitVec.ofNat 64 v
    let q := (s.dev.fn fn).queues.getD k HostQueue.reset
    (Event .qctlWrite s fun d => ∃ r, (d.fn fn).queues.get? k = some r ∧ r.base = q.base ∧ d.mem = s.dev.mem ∧
      (∀ i ∈ [31, 30, 28, 27, 26, 25, 24, 20, 19, 18, 17, 16], bit r.ctl i = bit x i) ∧
      (∀ i ∈ [11, 10, 9, 8, 4, 3, 2, 1, 0], bit r.ctl i = bit (if bit q.ctl 31 then q.ctl else x) i) ∧
      (r.read, r.write, r.stat) = (if bit q.ctl 31 = false ∧ bit x 31 = true then (0, 0, 0) else (q.read, q.write, q.stat))) ∧
    (Event .qdoorbellWrite s fun d => ∃ r, (d.fn fn).queues.get? k = some r ∧ r.ctl = q.ctl ∧ r.read = q.read ∧
      (s.dev.mgmt.devstate ≠ 2 → r = { q with held := q.held ++ [x.setWidth 32] }) ∧ (s.dev.mgmt.devstate = 2 → r.write = x.setWidth 32) ∧
      r.stat = (if s.dev.mgmt.devstate ≠ 2 ∨ bit q.ctl 31 = false ∨ bit q.stat 0 = true then q.stat
        else if 2 ^ bits q.ctl 4 0 < (x.setWidth 32 - q.read).toNat then 0x101
        else if bit ((s.dev.fn fn).asroot.get (bits q.ctl 11 8)) 0 = false then 0x301 else q.stat))) ∧
  (∀ s fn v, s.arg = [fn, v] → s.dev.responds = true → fn ≤ 16 →
    let x : Word64 := BitVec.ofNat 64 v
    let f := s.dev.fn fn
    (exec .invcmdWrite s = .next { s with dev := s.dev.setFn fn (if f.inv.isSome then f else { f with inv := some (bits x 3 0) }) }) ∧
    (x = 0 → exec .apfaultWrite s = .next { s with dev := s.dev.setFn fn (f.put 0x28 0) }) ∧
    (x ≠ 0 → exec .apfaultWrite s = .next s) ∧
    (x ≠ 0 → exec .cntdataWrite s = .next s) ∧
    (∀ u, x = 0 → f.regs.get 0x2480 = BitVec.ofNat 64 (2 * 2 ^ 24 + u * 2 ^ 8 + 1) → u < 192 →
      exec .cntdataWrite s = .next { s with dev := s.dev.setCore u { s.dev.core u with
        splits := if s.dev.tallyAt = s.dev.clk.cycle + 1 then s.dev.tally.get (Device.tallyKey 2 u 1) else 0 } }) ∧
    (∀ u, x = 0 → f.regs.get 0x2480 = BitVec.ofNat 64 (2 * 2 ^ 24 + u * 2 ^ 8) → u < 192 → Event .cntdataWrite s fun d =>
      (d.core u).stale = if (s.dev.core u).staleAt = s.dev.clk.cycle + 1 then (s.dev.core u).staleNew else 0)) ∧
  (∀ s fn as, s.arg = [fn] → (s.dev.fn fn).inv = some as → Event .invalidationComplete s fun d => (d.fn fn).inv = none ∧ d.mem = s.dev.mem ∧
    let outside (l : Leaf) : Prop := l.space ≠ (fn, as) ∨
      inInvRange ((s.dev.fn fn).regs.get 0x800) ((s.dev.fn fn).regs.get 0x808) l.vbase (l.vbase + l.size) = false
    (∀ c, ∀ l ∈ (d.core c).tlb, outside l) ∧ ∀ t ∈ d.tlb2, ∀ l ∈ t.2, outside l) ∧
  (∀ s v, s.arg = [0, v] → s.dev.responds = true →
    let x : Word64 := BitVec.ofNat 64 v
    (Event .pulsecfgWrite s fun d => bits d.clk.pulsecfg 10 8 = bits x 10 8 ∧ (bits x 2 0 ≤ 4 → bits d.clk.pulsecfg 2 0 = bits x 2 0) ∧
      (4 < bits x 2 0 → bits d.clk.pulsecfg 2 0 = bits s.dev.clk.pulsecfg 2 0) ∧ d.clk.period = s.dev.clk.period ∧ d.clk.pulse = s.dev.clk.pulse) ∧
    (exec .pwrcapWrite s = .next { s with dev := s.dev.putMgmt 0x8008 (BitVec.ofNat 64 (min 2800 (max 1200 (bits x 11 0)))) }) ∧
    (Event .spanctlWrite s fun d => d.clk.pulse = s.dev.clk.pulse ∧ d.waves = s.dev.waves ∧
      (∀ i, i < 64 → i ≠ 7 → bit (d.mgmt.regs.get 0x8100) i = (decide (i ≤ 8) && bit x i)) ∧
      (bit (d.mgmt.regs.get 0x8100) 7 = true ↔ bit x 7 = true ∧ (s.dev.clk.leftSpan = false ∨ bit x 8 = true ∨
        s.dev.clk.ns < s.dev.clk.lastSpanTick + 8 * periodNs s.dev.clk.period)) ∧
      (bit (d.mgmt.regs.get 0x8100) 7 = true → d.clk.leftSpan = false))) ∧
  (∀ s fn v, s.arg = [fn, v] → fn ≠ 0 → exec .pulsecfgWrite s = .next s ∧ exec .pwrcapWrite s = .next s ∧ exec .spanctlWrite s = .next s) ∧
  (∀ s fn off v, s.arg = [fn, off, v] → s.dev.responds = true → fn ≤ 16 →
    let x : Word64 := BitVec.ofNat 64 v
    let f := s.dev.fn fn
    (∀ k, k < 16 → off = 0x100 + 16 * k → Event .registerWrite s fun d => (d.fn fn).asroot.get k = x &&& 0xFFFFFFFFFF001 ∧ d.mem = s.dev.mem) ∧
    (off = 0x2000 → Event .registerWrite s fun d =>
      (d.fn fn).dbgBusy = (if f.dbgBusy.isSome then f.dbgBusy else some (bits x 3 0)) ∧
      (d.fn fn).dbgTarget = (if f.dbgBusy.isSome then f.dbgTarget else f.target)) ∧
    (∀ y, fnValue off x = some y → off ∉ [0x2000, 0x2448] → (off < 0x100 ∨ 0x200 ≤ off ∧ off < 0x1000 ∨ 0x1800 ≤ off ∧ off < 0x8000) →
      exec .registerWrite s = .next { s with dev := s.dev.setFn fn (f.put off y) })) ∧
  (∀ s, s.dev.responds = false → exec .registerWrite s = .next s ∧ exec .spanRequest s = .next s) ∧
  (∀ s fn off n, s.arg = [fn, off, n] → s.dev.responds = true → fn ≤ 16 →
    (∀ d0, s.dev.barTargets fn .barRead ((s.dev.fn fn).apVa off) n = (.error .wait, d0) → exec .bar2Read s = .next s) ∧
    (∀ e d0, s.dev.barTargets fn .barRead ((s.dev.fn fn).apVa off) n = (.error e, d0) → e ≠ .wait → Event .bar2Read s fun d =>
      d.out = .bar2Refused :: s.dev.out ∧ d.mem = s.dev.mem ∧
      (∀ sub, e = .pm sub ∨ (∃ lvl, e = .tr sub lvl) → bit ((s.dev.fn fn).regs.get 0x28) 63 = false →
        (d.fn fn).regs.get 0x28 = BitVec.ofNat 64 (2 ^ 63 + sub * 2 ^ 8 + (if e = .pm sub then 4 else 3)) ∧
        (d.fn fn).regs.get 0x30 = (s.dev.fn fn).apVa off) ∧
      (bit ((s.dev.fn fn).regs.get 0x28) 63 = true ∨ (∃ c, e = .gone c) → (d.fn fn).regs = (s.dev.fn fn).regs)) ∧
    (∀ b d0, s.dev.barTargets fn .barRead ((s.dev.fn fn).apVa off) n = (.ok b, d0) → Event .bar2Read s fun d =>
      d.out = .bar2 (b.keys.map fun k => s.dev.mem.get (s.dev.home k)) :: s.dev.out ∧ d.mem = s.dev.mem)) ∧
  (∀ s fn off n v, s.arg = [fn, off, n, v] → s.dev.responds = true → fn ≤ 16 →
    (∀ e d0, s.dev.barTargets fn .barWrite ((s.dev.fn fn).apVa off) n = (.error e, d0) → Event .bar2Write s fun d => d.mem = s.dev.mem) ∧
    (∀ b d0, s.dev.barTargets fn .barWrite ((s.dev.fn fn).apVa off) n = (.ok b, d0) → b.keys.length = n → (b.keys.map s.dev.home).Nodup →
      (∀ l ∈ linesOf b.keys, s.dev.lineHeld l = false) → Event .bar2Write s fun d =>
      (∀ (i : Nat) k x, b.keys[i]? = some k → (leBytes n (BitVec.ofNat 64 v).toNat)[i]? = some x → d.mem.get (s.dev.home k) = x) ∧
      ∀ k, k ∉ b.keys.map s.dev.home → d.mem.get k = s.dev.mem.get k)) ∧
  (∀ s src c off n v w, s.arg = [src, c, off, n, v, w] → s.dev.responds = true →
    ((128 ≤ src ∨ s.dev.admits src = false ∨ s.dev.capacity < off + n) →
      exec .spanRequest s = .next { s with dev := { s.dev with out := .spanRefused :: s.dev.out } }) ∧
    (src < 128 → s.dev.admits src = true → off + n ≤ s.dev.capacity → off + n ≤ 2 ^ 40 →
      let ks := (List.range n).map (off + ·)
      (∀ l ∈ linesOf ks, l ∉ s.dev.refused) →
      let old := ks.map s.dev.mem.get
      let held : Prop := ∃ l ∈ linesOf ks, s.dev.lineHeld l = true
      let lost : Prop := ∃ l ∈ linesOf ks, s.dev.lostLine l = true
      (c ≠ 1 → held → exec .spanRequest s = .next s) ∧
      (c ≠ 1 → ¬ held → lost → exec .spanRequest s = .next { s with dev := { s.dev with out := .spanRefused :: s.dev.out } }) ∧
      (c = 0 → ¬ held → ¬ lost → Event .spanRequest s fun d => d.out = .spanReply old :: s.dev.out ∧ d.mem = s.dev.mem) ∧
      (c = 1 → ¬ held → Event .spanRequest s fun d => d.out = .spanReply [] :: s.dev.out ∧ ∀ (i : Nat),
        (i < n → d.mem.get (off + i) = (leBytes n (BitVec.ofNat 64 v).toNat).getD i 0) ∧ (i < off ∨ off + n ≤ i → d.mem.get i = s.dev.mem.get i)) ∧
      (2 ≤ c → ¬ held → ¬ lost → Event .spanRequest s fun d => d.out = .spanReply old :: s.dev.out ∧ ∀ (i : Nat),
        (i < n → d.mem.get (off + i) = (leBytes n (atomNew (c - 2) (8 * n) (leNat old) ((BitVec.ofNat 64 v).toNat % 2 ^ (8 * n))
          ((BitVec.ofNat 64 w).toNat % 2 ^ (8 * n)))).getD i 0) ∧ (i < off ∨ off + n ≤ i → d.mem.get i = s.dev.mem.get i)))) ∧
  ∀ s fn v, s.arg = [fn, v] → fn ≤ 16 → v < 32 → (s.dev.responds = false → exec .msixVectorUnmask s = .next s) ∧
    (s.dev.responds = true → Event .msixVectorUnmask s fun d => bit (d.fn fn).masked v = false ∧ bit (d.fn fn).pendingMsix v = false ∧
      d.mem = s.dev.mem ∧ d.out = if bit (s.dev.fn fn).pendingMsix v then .msix fn v :: s.dev.out else s.dev.out)

/-- Management: what each reset clears and keeps, boot stage by stage, with the doorbells that a device which becomes ready has held, decode tables,
throttling, thermal stop, wear, errors and retirement, the waves and accesses whose data is lost, entries that parity drops, span ports and the
operations that fail on them, on the port where each was sent, core clocks, stall samples of every function that takes them, and SPDM replies. Words of
replies that the spec does not give are free. What device memory reads as after a reset is the model's choice (log entry 3), and so are the operands of
BOOT_COMPLETE (log entry 6), when a table takes effect and the units of records of types 4 to 6 (log entries 25, 63, 66), what a lasting error of a
storage that parity protects retires (log entry 101), and of the replies the codes 0x84, 0xE1, 0xE3, 0x81, 0x82, 0x83, 0xE0 and 0x7F, which the model
takes from SPDM, and the words of a version, capability, algorithm and measurement reply (log entry 7) (03 R92, R93; 13 R320, R322, R324,
R326 to R330, R333, R334; 14 R342, R346). -/
def Obligations.Management : Prop :=
  (∀ s, ∃ d, exec .fundamentalReset s = .next { s with dev := d, spec := none } ∧ d.clk = Clocks.reset ∧ d.mgmt.devstate = 0 ∧
    d.waves = [] ∧ d.groups = [] ∧ d.launches = [] ∧ d.reqs = [] ∧ d.ops = [] ∧ d.bmvs = [] ∧ d.fns = [] ∧ d.mgmt.wear = s.dev.mgmt.wear ∧
    d.mgmt.rows = s.dev.mgmt.rows ∧ d.mgmt.minor = s.dev.mgmt.minor ∧ d.mgmt.patch = s.dev.mgmt.patch ∧
    (∀ k, sysBase ≤ k → d.mem.get k = s.dev.mem.get k) ∧ ∀ c ∈ d.cores, c.2.retired = true) ∧
  (∀ s cause cores gib ports good bad rest,
    let m := s.dev.mgmt
    let holds (x : Stage) : Prop := x.signed = true ∧ x.key = m.fuseKey ∧ m.fuseVersion ≤ x.version
    let words (l : List Stage) : List Nat := l.flatMap fun x => [x.digest, if x.signed then 1 else 0, x.version, x.key]
    (∀ x ∈ good, holds x) → ¬ holds bad → cause ≤ 4 →
    (s.arg = [cause, cores, gib, ports] ++ words good →
      (m.devstate ≠ 1 → exec .bootComplete s = .next s) ∧
      (m.devstate = 1 → Event .bootComplete s fun d => d.mgmt.measures = m.measures ++ good.map (·.digest) ∧ d.mgmt.bootCause = cause ∧
        (cause = 0 → d.mgmt.devstate = 2 ∧ d.mgmt.cores = min 192 cores ∧ d.mgmt.gib = gib % 2 ^ 16 ∧ d.mgmt.portUp = BitVec.ofNat 18 ports ∧
          ∀ fn f k q, s.dev.fns.get? fn = some f → f.queues.get? k = some q → ∃ f' q', d.fns.get? fn = some f' ∧ f'.queues.get? k = some q' ∧
            q'.held = [] ∧ q'.ctl = q.ctl ∧ q'.read = q.read ∧ q'.write = q.held.getLast?.getD q.write ∧ (q.held = [] → q' = q) ∧
            (q.held ≠ [] → bit q.ctl 31 = true → bit q.stat 0 = false → bit (f.asroot.get (bits q.ctl 11 8)) 0 = false → bit q'.stat 0 = true)) ∧
        (cause ≠ 0 → d.mgmt.devstate = 3))) ∧
    (s.arg = [cause, cores, gib, ports] ++ words (good ++ bad :: rest) → m.devstate = 1 → Event .bootComplete s fun d =>
      d.mgmt.measures = m.measures ++ good.map (·.digest) ∧ d.mgmt.bootCause = 1 ∧ d.mgmt.devstate = 3)) ∧
  (∀ s fn, s.arg = [fn] →
    (fn = 0 ∨ 16 < fn → exec .functionLevelReset s = .next s) ∧
    (1 ≤ fn → fn ≤ 16 → Event .functionLevelReset s fun d => d.fns.get? fn = none ∧
      (∀ n l, d.launches.get? n = some l → l.fn = fn → l.failed = true) ∧ (∀ c, ∀ l ∈ (d.core c).tlb, l.space.1 ≠ fn) ∧
      ∀ k w, s.dev.waves.get? k = some w → w.retired = false → (∃ l, s.dev.launches.get? w.launch = some l ∧ l.fn = fn) →
        ∃ w' h, d.waves.get? k = some w' ∧ w'.halt = some h ∧ h.kill = true)) ∧
  (∀ s ma mi pa sg dg ver key, s.arg = [ma, mi, pa, sg, dg, ver, key] →
    let m := s.dev.mgmt
    (sg = 0 ∨ key ≠ m.fuseKey ∨ ver < m.fuseVersion ∨ ma ≠ 3 ∨ mi < m.minor ∨ m.devstate ≠ 2 → exec .decodeTableUpdate s = .next s) ∧
    (sg ≠ 0 → key = m.fuseKey → m.fuseVersion ≤ ver → ma = 3 → m.minor ≤ mi → m.devstate = 2 → Event .decodeTableUpdate s fun d =>
      (s.dev.anyResident = true → d.mgmt.table = some (mi, pa, dg) ∧ d.mgmt.minor = m.minor) ∧
      (s.dev.anyResident = false → d.mgmt.table = none ∧ d.mgmt.minor = mi ∧ d.mgmt.patch = pa ∧ d.mgmt.measures = m.measures.dropLast ++ [dg]))) ∧
  (∀ s watts temp now, s.arg = [watts, temp, now] → s.dev.clk.stopped = false →
    let cap := (s.dev.mgmt.regs.get 0x8008).toNat
    let lim := bits (s.dev.mgmt.regs.get 0x8018) 31 16
    (1150 ≤ temp → Event .powerWindow s fun d => d.clk.stopped = true ∧ d.mgmt.devstate = 3) ∧
    (temp < 1150 → cap < watts ∨ 10 * lim ≤ temp → Event .powerWindow s fun d => d.clk.stopped = false ∧
      (1200 < s.dev.clk.mhz → d.clk.mhz = max 1200 (s.dev.clk.mhz - 100)) ∧ (s.dev.clk.mhz ≤ 1200 → d.clk.halved = true ∧
        d.clk.mhz = s.dev.clk.mhz)) ∧
    (temp < 1150 → 100 * watts ≤ 97 * cap → temp < 10 * lim → watts ≤ cap → Event .powerWindow s fun d => d.clk.stopped = false ∧
      (s.dev.clk.halved = true → d.clk.halved = false ∧ d.clk.mhz = s.dev.clk.mhz) ∧
      (s.dev.clk.halved = false → d.clk.mhz = min 2400 (s.dev.clk.mhz + 100)))) ∧
  (∀ s temp, s.arg = [temp] →
    (temp < 1150 ∨ s.dev.clk.stopped = true → exec .thermalStop s = .next s) ∧
    (1150 ≤ temp → s.dev.clk.stopped = false → Event .thermalStop s fun d => d.clk.stopped = true ∧ d.mgmt.devstate = 3)) ∧
  (∀ s i days m, s.arg = [i, days, m] → i < 46 → Event .wearUpdate s fun d =>
    d.mgmt.wear.get? i = some (BitVec.ofNat 64 (m % 2 ^ 32 * 2 ^ 16 + min 65535 days)) ∧ d.mem = s.dev.mem) ∧
  (∀ s cls u lasting pa l, s.arg = cls :: u :: lasting :: pa :: l →
    let key := (16 + cls) * 2 ^ 32 + u % 2 ^ 32
    let lost (k : Nat) (w : Wave) (d : Device) : Prop :=
      (∃ w', d.waves.get? k = some w' ∧ ((∃ h, w'.halt = some h ∧ h.info.cause = 13 ∧ h.info.sub = 1) ∨ ∃ x ∈ w'.late, x.2.cause = 13 ∧ x.2.sub = 1)) ∧
      ∀ g, s.dev.groups.get? w.group = some g → ∃ g', d.groups.get? w.group = some g' ∧ g'.failed = true
    (unitOk cls u = true →
      (lasting = 0 → Event .uncorrectableError s fun d => d.mem = s.dev.mem ∧ d.mgmt.errCount.get key = s.dev.mgmt.errCount.get key + 1) ∧
      (lasting ≠ 0 → cls = 1 → Event .uncorrectableError s fun d => d.mgmt.rows = s.dev.mgmt.rows ++ [pa] ∧
        (2 ^ bits (s.dev.mgmt.regs.get 0x8048) 4 0 ≤
            (bits (s.dev.mgmt.regs.get 0x8048) 63 32 + 2 ^ 24 - bits (s.dev.mgmt.regs.get 0x8048) 31 8) % 2 ^ 24 →
          ∀ a ∈ pa :: l, a < sysBase → a / 128 ∈ d.bad)) ∧
      (lasting ≠ 0 → cls = 2 → Event .uncorrectableError s fun d => (d.banks.getD u BankUnit.reset).retired = true) ∧
      (lasting ≠ 0 → cls = 3 → Event .uncorrectableError s fun d => (d.core u).retired = true ∧
        ∀ k w, l = [k] → s.dev.waves.get? k = some w → w.core = u → w.retired = false → lost k w d) ∧
      (lasting ≠ 0 → cls = 4 → Event .uncorrectableError s fun d => d.l2dead = s.dev.l2dead ++ [pa / 128] ∧
        ∀ k r w, l = [k] → s.dev.reqs.get? k = some r → (∃ a ∈ r.accs, a.reached = false ∧ a.line = pa / 128) → r.kind ≠ .store →
          s.dev.liveWave r.wave r.gen = some w → lost r.wave w d) ∧
      (lasting ≠ 0 → cls = 5 → Event .uncorrectableError s fun d => bit d.mgmt.portDown u = true ∧ bit d.mgmt.portUp u = false)) ∧
    (parityOk cls u = true → lasting = 0 → Event .uncorrectableError s fun d => d.mem = s.dev.mem ∧
      d.mgmt.errCount.get key = s.dev.mgmt.errCount.get key + 1 ∧ d.waves = s.dev.waves ∧
      (d.core u).l1 = (if cls = 7 then (s.dev.core u).l1.eraseIdx pa else (s.dev.core u).l1) ∧
      (d.core u).tlb = (if cls = 8 then (s.dev.core u).tlb.eraseIdx pa else (s.dev.core u).tlb) ∧
      d.tlb2.getD u [] = (if cls = 9 then (s.dev.tlb2.getD u []).eraseIdx pa else s.dev.tlb2.getD u []) ∧
      d.walks.getD u [] = (if cls = 10 then (s.dev.walks.getD u []).eraseIdx pa else s.dev.walks.getD u [])) ∧
    (parityOk cls u = true → lasting ≠ 0 → Event .uncorrectableError s fun d =>
      (cls ∈ [7, 8, 11] → (d.core u).retired = true ∧
        ∀ k w, l = [k] → s.dev.waves.get? k = some w → w.core = u → w.retired = false → lost k w d) ∧
      (cls ∈ [9, 10] → d.waves = s.dev.waves ∧ ∀ c, (d.core c).retired = (s.dev.core c).retired))) ∧
  (∀ s cls u n, s.arg = [cls, u, n] → unitOk cls u = true →
    let k := cls * 2 ^ 32 + u % 2 ^ 32
    let last := s.dev.mgmt.errStamp.getD k 0
    (0 < last → s.dev.clk.ns + 1 < last + 10 ^ 9 → Event .correctedErrorRecord s fun d => d.mem = s.dev.mem ∧ d.mgmt.errStamp = s.dev.mgmt.errStamp ∧
      d.mgmt.errCount.get k = s.dev.mgmt.errCount.get k + BitVec.ofNat 64 n) ∧
    (last = 0 → s.dev.mgmt.errCount.get k + BitVec.ofNat 64 n ≠ 0 → Event .correctedErrorRecord s fun d =>
      d.mgmt.errCount.get k = 0 ∧ d.mgmt.errStamp.getD k 0 = s.dev.clk.ns + 1)) ∧
  (∀ s p, s.arg = [p] → p < 18 →
    (Event .linkReplay s fun d => d.mgmt.replays.get p = s.dev.mgmt.replays.get p + 1 ∧ d.mgmt.portUp = s.dev.mgmt.portUp) ∧
    (Event .portRetrain s fun d => bit d.mgmt.portUp p = true ∧ bit d.mgmt.portDown p = false)) ∧
  (∀ s id quad, let down (p : Nat) (d : Device) : Prop := bit d.mgmt.portDown p = true ∧ bit d.mgmt.portUp p = false
    (∀ r a i, s.dev.reqs.get? id = some r → s.dev.onSpan id r quad = some (a, i) →
      (s.arg = [0, id, quad, 0] → a.port = none → exec .linkOperationFailure s = .next { s with dev := { s.dev with
        reqs := s.dev.reqs.set id { r with accs := r.accs.set i { a with port := a.sent.orElse fun _ => s.dev.portOf a.line } } } }) ∧
      (s.arg = [0, id, quad, 0] → a.port ≠ none → exec .linkOperationFailure s = .next s) ∧
      (∀ p w, s.arg = [0, id, quad, 1] → a.port = some p → p < 18 → s.dev.liveWave r.wave r.gen = some w → r.kind ≠ .store →
        Event .linkOperationFailure s fun d => down p d ∧ ∃ w', d.waves.get? r.wave = some w' ∧
          ((∃ h, w'.halt = some h ∧ h.info.cause = 13 ∧ h.info.sub = 2) ∨ ∃ x ∈ w'.late, x.2.cause = 13 ∧ x.2.sub = 2)) ∧
      (s.arg = [0, id, quad, 1] → a.port = none → exec .linkOperationFailure s = .next s)) ∧
    ∀ o line va, s.dev.ops.get? id = some o → o.order = id → opSpan s.dev o = some (line, va) →
      (s.arg = [1, id, quad, 0] → o.port = none →
        exec .linkOperationFailure s = .next { s with dev := { s.dev with ops := s.dev.ops.set id { o with port := o.sent.orElse fun _ => s.dev.portOf line } } }) ∧
      (∀ p w, s.arg = [1, id, quad, 1] → o.port = some p → p < 18 → s.dev.liveWave o.wave o.gen = some w → (∃ x, o.kind = .copy x ∨ o.kind = .putsig x) →
        Event .linkOperationFailure s fun d => down p d ∧ d.ops.get? id = none ∧ ∃ w', d.waves.get? o.wave = some w' ∧
          w'.failures = w.failures ++ [⟨o.batch, id, 4, va, o.done, o.hdrAt⟩]) ∧
      ∀ p x d1, s.arg = [1, id, quad, 1] → o.port = some p → p < 18 → o.kind = .gather x → gatherFail (s.dev.portFails p) o x = .ok d1 →
        exec .linkOperationFailure s = .next { s with dev := d1 } ∧ down p d1 ∧ (o.barrier = none → Puts .linkOperationFailure s o x [] false)) ∧
  (∀ s c, s.arg = [c] → c < 192 →
    (Event .coreClockStop s fun d => (d.core c).stopped = true ∧ d.mem = s.dev.mem ∧ d.waves = s.dev.waves) ∧
    (Event .coreClockRestart s fun d => (d.core c).stopped = false ∧ d.mem = s.dev.mem ∧ d.waves = s.dev.waves)) ∧
  (∀ s c, s.arg = [c] → ((∀ f ∈ s.dev.fns, s.dev.sampleDue f.1 c = false) → exec .stallSample s = .next s)) ∧
  (∀ s c fn f, s.arg = [c] → s.dev.fns.get? fn = some f → (s.dev.fns.map (·.1)).Nodup →
    (s.dev.sampleDue fn c = false → Event .stallSample s fun d => d.fn fn = f) ∧
    ∀ x, s.dev.sampleDue fn c = true → (s.dev.core c).stopped = false → s.dev.clk.stopped = false →
      nextSample (s.dev.sampleable c fn) (f.sampled.getD c 0) = some x → Event .stallSample s fun d =>
        (d.fn fn).sampled.getD c 0 = x.1 + 1 ∧ (d.fn fn).sampleCycle.getD c 0 = s.dev.clk.cycle + 1 ∧ d.waves = s.dev.waves ∧
        ((d.fn fn).regs.get 0x2410 = f.regs.get 0x2410 + 1 ∨ (d.fn fn).regs.get 0x2420 = f.regs.get 0x2420 + 1)) ∧
  (∀ s, let replies (i : Instr) (f : Nat × List Nat → Prop) : Prop := Event i s fun d => ∃ x, d.mgmt.spdm = x :: s.dev.mgmt.spdm ∧ f x
    let slot0 (n : Nat) (x : Nat × List Nat) : Prop := if s.arg.getD 0 0 = 0 then x.1 = n else x.1 = 0x7F
    replies .getVersion (fun x => x = (0x84, [0x12, 0x13])) ∧ replies .getCapabilities (fun x => x = (0xE1, [0x16])) ∧
    replies .negotiateAlgorithms (fun x => x = (0xE3, [0x80, 2, 0, 0])) ∧ replies .getDigests (fun x => x.1 = 0x81) ∧
    replies .getCertificate (slot0 0x82) ∧ replies .challenge (slot0 0x83)) ∧
  ∀ s i, s.arg = [i] → Event .getMeasurements s fun d => d.mgmt.spdm = (let all := s.dev.measurements
    if i = 0 then (0xE0, [all.length]) else if i = 255 then (0xE0, all)
    else if i ≤ all.length then (0xE0, [all.getD (i - 1) 0]) else (0x7F, [0xE0])) :: s.dev.mgmt.spdm

/-- The device's own cycle: when no pass runs, no input has arrived and nothing is due, the step is one cycle. The clock advances, one nanosecond at a
time where it is stopped; a wave that runs counts its residence and each of its parts, retired and halted ones apart, in the counter of the reason
that keeps it; sleep, YIELD, demotion and the scalar copy count down, and the waits for a join, a fuse and a ready set count up while the part is not
stopped, against the limits that the part took on reaching its header; a pre-emption ages. The counters of a line, a walk and a clause not yet
fetched, that the counts of sleep, YIELD, demotion and copy run on in a halted wave, and that a join's timeout runs once the flags are clear, are
the model's choices (log entries 27, 49, 65, 73, 77, 87, 91) (04 R112, R120, R128; 09 R223, R226, R228, R231, R232, R236, R249; 13 R331; 14 R340). -/
def Obligations.DeviceCycle : Prop :=
  (∀ s, s.spec = none →
    (∀ t, inputStep s = some t → step s = .next t) ∧
    (∀ t, inputStep s = none → firstKind s kinds = some t → step s = .next t) ∧
    (inputStep s = none → firstKind s kinds = none → step s = .next { s with dev := s.dev.cycle })) ∧
  (∀ d : Device,
    (d.cycle.clk.ns = if d.clk.stopped = true ∨ d.clk.mhz = 0 then d.clk.ns + 1 else d.clk.ns + (d.clk.frac + 1000) / d.clk.mhz) ∧
    (d.cycle.clk.frac = if d.clk.stopped = true ∨ d.clk.mhz = 0 then d.clk.frac else (d.clk.frac + 1000) % d.clk.mhz) ∧
    (d.cycle.clk.cycle = if d.clk.stopped = true ∨ d.clk.mhz = 0 then d.clk.cycle else d.clk.cycle + 1) ∧
    (d.cycle.mgmt.devstate = if d.mgmt.devstate = 0 then 1 else d.mgmt.devstate) ∧
    d.cycle.waves.map (·.1) = d.waves.map (·.1) ∧ ∀ wid, d.cycle.waves.get? wid = d.cycleWork.waves.get? wid) ∧
  (∀ (d : Device) wid w, d.waves.get? wid = some w →
    (d.runs w = false → d.cycleWork.waves.get? wid = some w) ∧
    ∀ g, d.runs w = true → d.groups.get? w.group = some g → ∃ w', d.cycleWork.waves.get? wid = some w' ∧
      w'.vregs = w.vregs ∧ w'.flags = w.flags ∧ w'.fpx = w.fpx ∧ w'.halt = w.halt ∧
      w'.counters.get 10 = w.counters.get 10 + 1 ∧
      (∀ k, k < 10 → w'.counters.get k = w.counters.get k +
        BitVec.ofNat 64 (w.live.filter fun q => decide (d.stallClass wid w q = some k)).length) ∧
      w'.parts.length = w.parts.length ∧
      ∀ (n : Nat) q, w.parts[n]? = some q → ∃ q', w'.parts[n]? = some q' ∧
        q'.quads = q.quads ∧ q'.pc = q.pc ∧ q'.phase = q.phase ∧ q'.sregs = q.sregs ∧ q'.window = q.window ∧ q'.stack = q.stack ∧ q'.loops = q.loops ∧
        (liveLanes w q.quads = 0 → q' = q) ∧
        (liveLanes w q.quads ≠ 0 →
          let less (n : Nat) : Nat := if 1 < n then n - 1 else n
          let split := if q.reached then q.limSplit else g.splitd
          let joint := if q.reached then q.limJoin else bits g.mode 20 16
          let waits : Prop := q.phase = .header ∧ w.halt = none ∧ g.preempt = none
          q'.sleep = less q.sleep ∧ q'.yieldLeft = less q.yieldLeft ∧ q'.demoted = less q.demoted ∧ q'.copyWait = less q.copyWait ∧
          (q.phase = .header → q'.limSplit = split ∧ q'.limFuse = (if q.reached then q.limFuse else g.fusel) ∧ q'.limJoin = joint) ∧
          (q.phase ≠ .header ∨ w.halt.isSome = true ∨ g.preempt.isSome = true →
            q'.joinWait = q.joinWait ∧ q'.fuseWait = q.fuseWait ∧ q'.splitWait = q.splitWait ∧ q'.allotWait = q.allotWait) ∧
          ∀ h c d0, waits → headerOf d wid w q = (h, some c, d0) →
            (h ≠ .allot → q'.allotWait = 0) ∧
            (h = .join → q'.splitWait = none ∧
              (∀ m l, q.joinWait = some (m, l) → q'.joinWait = some (m + 1, l)) ∧
              (q.joinWait = none → q'.joinWait = some (1, let k := if c.joinCode = 0 then joint else c.joinCode
                if k = 31 then none else some (2 ^ k)))) ∧
            (h = .fuse → q'.splitWait = none ∧
              (∀ m l, q.fuseWait = some (m, l) → q'.fuseWait = some (m + 1, l)) ∧
              (q.fuseWait = none → q'.fuseWait = some (1, if q.reached then q.limFuse else g.fusel))) ∧
            (h = .flags → ∀ q0, q0 = { q with limSplit := split } →
              (missReady w q0 c = none → q'.splitWait = none) ∧
              (∀ r, missReady w q0 c = some r →
                (∀ m l, q.splitWait = some (r, m, l) → q'.splitWait = some (r, m + 1, l)) ∧
                (∀ r' m l, q.splitWait = some (r', m, l) → r' ≠ r → q'.splitWait = some (r, 1, split)) ∧
                (q.splitWait = none → q'.splitWait = some (r, 1, split)))) ∧
            (h = .allot → q'.splitWait = none ∧ q'.allotWait = q.allotWait + 1))) ∧
  (∀ (d : Device) wid w q,
    (w.halt.isSome = true → q.phase = .header → d.stallClass wid w q = none) ∧
    (∀ r, w.halt = none → (∀ g, d.groups.get? w.group = some g → g.preempt = none) → q.phase = .held r →
      d.stallClass wid w q = some (match r with
        | .flag _ => 0
        | .taskQueue | .launchFull | .copyFull => 3
        | .matrixFull | .chartLimit | .record _ | .tile _ | .bmvLimit | .partner => 5
        | _ => 4)) ∧
    (∀ n, q.phase = .issuing n → d.stallClass wid w q = some (if d.clk.cycle < q.issueEnd then 8 else 6)) ∧
    ∀ h c d0, w.halt = none → (∀ g, d.groups.get? w.group = some g → g.preempt = none) → q.phase = .header → headerOf d wid w q = (h, c, d0) →
      d.stallClass wid w q = some (match h with
        | .flags => 0 | .fuse => 1 | .join => 2 | .allot => 3 | .tension => 7 | .asleep => 9 | .write => 4 | _ => 6)) ∧
  ∀ (d : Device) k g, d.clk.stopped = false → d.groups.get? k = some g → ∃ g', d.cycleWork.groups.get? k = some g' ∧ g'.spad = g.spad ∧
    let aged (n : Option Nat) : Option Nat := match g.core with
      | some c => if (d.core c).stopped then n else n.map (· + 1)
      | none => n
    g'.preempt = aged g.preempt ∧ g'.preemptHost = aged g.preemptHost

/-- The trace ring: an event is noted for the streams of its function when TRCCTL and its mask enable it; a split on a miss, a fuse and a trap carry
the context, the masks or causes, and the position; the records of a nanosecond are written clock first, then group, wave, split and fuse, and trap; a
record takes its delta from the last, behind a STAMP where the delta would be too large, and records that were lost are told of first. A record goes
to the slot that the write offset names, and is dropped where the next would meet the read offset. What an offset outside the ring names, the
order of events of one type, and that a join wait which ends for one part alone writes no FUSE are the model's choices (log entries 21, 22, 55, 58, 72)
(14 R344 to R346). -/
def Obligations.TraceRecords : Prop :=
  (∀ (d : Device) fn core ty payload arg,
    let c := (d.fn fn).trcctl
    let on : Prop := bit c 31 = true ∧ (ty = 0x10 ∨ ty = 0x11 → bit c 8 = true) ∧ (ty = 0x20 → bit c 9 = true) ∧
      (ty = 0x21 ∨ ty = 0x22 → bit c 10 = true) ∧ (ty = 0x30 → bit c 11 = true)
    (on → d.note fn core ty payload arg = { d with trace := ⟨fn, core, ty, payload, arg⟩ :: d.trace }) ∧
    (¬ on → d.note fn core ty payload arg = d)) ∧
  (∀ s wid k w q h c, s.arg = [wid, k] → s.dev.standing wid k = some (w, q, h, c) →
    let sp := s.dev.spaceOf w.launch
    let at' := position s.dev sp q.pc
    let tells (i : Instr) (ty payload : Nat) : Prop := (s.dev.fn sp.1).traces ty = true → Event i s fun d =>
      d.trace = ⟨sp.1, w.core, ty, payload, at'⟩ :: s.dev.trace
    (∀ r n l, h = .flags → missReady w q c = some r → q.splitWait = some (r, n, l) → l ≤ n → w.live.length < 4 →
      tells .missSplit 0x21 (w.context * 2 ^ 34 + 2 ^ 32 + r.toNat * 2 ^ 16 + (q.quads &&& ~~~ r).toNat)) ∧
    (∀ n l, h = .join → q.joinWait = some (n, some l) → l ≤ n → (s.dev.waitingAt wid w q.pc).length < 2 → Event .joinTimeout s fun d =>
      d.trace = s.dev.trace) ∧
    (∀ n l, h = .join → q.joinWait = some (n, some l) → l ≤ n → 2 ≤ (s.dev.waitingAt wid w q.pc).length → w.parts.Pairwise (fun a b => a.quads &&& b.quads = 0) →
      tells .joinTimeout 0x22 (w.context * 2 ^ 34 + 2 ^ 16 + (quadsOfParts (s.dev.waitingAt wid w q.pc)).toNat))) ∧
  (∀ s wid w x, s.arg = [wid] → s.dev.waves.get? wid = some w → w.halt = some x → w.retired = false → w.live ≠ [] → (∀ q ∈ w.live, q.stands = true) →
    x.kill = false → x.stopped = false →
    let sp := s.dev.spaceOf w.launch
    (x.info.cause = 0 → Event .trapStop s fun d => d.trace = s.dev.trace) ∧
    ∀ q, x.info.cause ≠ 0 → (s.dev.fn sp.1).traces 0x30 = true → x.raiser = some (lowQuad q.quads) →
      w.live.find? (fun p => x.raiser == some (lowQuad p.quads)) = some q → Event .trapStop s fun d =>
        d.trace = ⟨sp.1, w.core, 0x30, w.context * 2 ^ 34 + x.info.sub * 2 ^ 8 + x.info.cause, position s.dev sp q.pc⟩ :: s.dev.trace) ∧
  (∀ s c fn f, s.arg = [c] → c < 192 → s.dev.fns = [(fn, f)] → f.traces 2 = true → (f.streams.get? c).isSome = true →
    ((s.dev.core c).stopped = false → Event .coreClockStop s fun d => d.trace = ⟨fn, c, 2, 0, 0⟩ :: s.dev.trace) ∧
    ((s.dev.core c).stopped = true → s.dev.clk.mhz ≠ 0 → Event .coreClockRestart s fun d => d.trace =
      ⟨fn, c, 2, (if s.dev.clk.thermThr then 2 ^ 17 else 0) + (if s.dev.clk.powerThr then 2 ^ 16 else 0) + s.dev.clk.mhz, 0⟩ :: s.dev.trace)) ∧
  (∀ (d : Device) a b, d.trace = [b, a] →
    let place (x : TraceEv) : Nat := if x.ty = 2 then 0 else if x.ty = 0x10 ∨ x.ty = 0x11 then 1 else if x.ty = 0x20 then 2
      else if x.ty = 0x21 ∨ x.ty = 0x22 then 3 else 4
    d.flushTrace = if place b < place a then (({ d with trace := [] } : Device).traceOne b).traceOne a
      else (({ d with trace := [] } : Device).traceOne a).traceOne b) ∧
  (∀ (d : Device) e s, (d.fn e.fn).streams.get? e.core = some s →
    let word (delta ty payload : Nat) : Word64 := BitVec.ofNat 64 (delta * 2 ^ 48 + ty * 2 ^ 40 + payload % 2 ^ 40)
    let now : Word64 := BitVec.ofNat 64 d.clk.ns
    let after (d : Device) (x : Stream) : Device := d.setFn e.fn { d.fn e.fn with streams := (d.fn e.fn).streams.set e.core x }
    let delta := d.clk.ns - s.last
    (s.lost = 0 → e.ty ≠ 2 → delta ≤ 65535 →
      (∀ d1, d.ringPut e.fn e.core (word delta e.ty e.payload) e.arg = (true, d1) → d.traceOne e = after d1 ⟨d.clk.ns, 0⟩) ∧
      (∀ d1, d.ringPut e.fn e.core (word delta e.ty e.payload) e.arg = (false, d1) → d.traceOne e = after d1 ⟨s.last, 1⟩)) ∧
    (s.lost = 0 → e.ty = 2 → ∀ d1, d.ringPut e.fn e.core (word 0 2 e.payload) now = (true, d1) → d.traceOne e = after d1 ⟨d.clk.ns, 0⟩) ∧
    (s.lost = 0 → e.ty ≠ 2 → 65535 < delta → ∀ d1 d2, d.ringPut e.fn e.core (word 0 1 0) now = (true, d1) →
      d1.ringPut e.fn e.core (word 0 e.ty e.payload) e.arg = (true, d2) → d.traceOne e = after d2 ⟨d.clk.ns, 0⟩) ∧
    (s.lost ≠ 0 → ∀ d1, d.ringSlot e.fn e.core = (none, d1) → d.traceOne e = after (d1.ringDrop e.fn e.core) ⟨s.last, s.lost + 1⟩) ∧
    (s.lost ≠ 0 → e.ty ≠ 2 → delta ≤ 65535 → ∀ x d0 d1 d2 d3, d.ringSlot e.fn e.core = (some x, d0) →
      d.ringPut e.fn e.core (word delta 0x3F s.lost) 0 = (true, d1) → d1.ringPut e.fn e.core (word 0 1 0) now = (true, d2) →
      d2.ringPut e.fn e.core (word 0 e.ty e.payload) e.arg = (true, d3) → d.traceOne e = after d3 ⟨d.clk.ns, 0⟩)) ∧
  (∀ (d : Device) fn core wo ro d0,
    let f := d.fn fn
    let size := 2 ^ bits f.trcctl 4 0
    let base := f.regs.get 0x2440 + BitVec.ofNat 64 (core * size)
    let here (w : Word64) : Nat := if w.toNat < 64 ∨ size ≤ w.toNat then 64 else w.toNat / 16 * 16
    let next := if size ≤ here wo + 16 then 64 else here wo + 16
    (bit f.trcctl 30 = false → readWords d core (fn, 0) [base, base + 8] = (.ok [wo, ro], d0) →
      d.ringSlot fn core = (if next = here ro then none else some (here wo, next), d0)) ∧
    (bit f.trcctl 30 = true → readWords d core (fn, 0) [base] = (.ok [wo], d0) → d.ringSlot fn core = (some (here wo, next), d0)) ∧
    ∀ w0 w1,
      (d.ringSlot fn core = (none, d0) → d.ringPut fn core w0 w1 = (false, d0.ringDrop fn core)) ∧
      ∀ w n d1, d.ringSlot fn core = (some (w, n), d0) → d.ringPut fn core w0 w1 = (true, d1) →
        ∃ d2, d0.storeVa core (fn, 0) (base + BitVec.ofNat 64 w) (leBytes 8 w0.toNat ++ leBytes 8 w1.toNat) d0.floor = (none, d2) ∧
          d2.storeVa core (fn, 0) base (leBytes 8 n) d2.floor = (none, d1)) ∧
  ∀ (d : Device) core sp va (b : List Byte) t d1, d.storeVa core sp va b t = (none, d1) →
    ∃ x d2, Sys2Proof.Machine.reach d core sp .store va b.length = (.ok x, d2) ∧
      ((x.keys.map d.home).Nodup → x.keys.length = b.length → (∀ l ∈ linesOf x.keys, d.lineHeld l = false) →
        (∀ (i : Nat) k y, x.keys[i]? = some k → b[i]? = some y → d1.mem.get (d.home k) = y) ∧
        ∀ k, k ∉ x.keys.map d.home → d1.mem.get k = d.mem.get k)
end

