-- ==== Sys2Proof/Laws/Body.lean ====
section
/-! SUPPORT. The body of every encoded instruction, and that `exec` issues it: one lemma through which a proof reaches any meaning. -/

namespace Sys2Proof.Machine

/-- What an encoded instruction does to a pass; the steps of the machine have none. -/
def body : Instr → Spec → Res
  | .vmov16 fs fd => opV1 (fun a => a) fs.toNat fd.toNat false
  | .vadd16 fs fd => opV3 (fun a b _ => a + b) fs.toNat fd.toNat fd.toNat false
  | .vsub16 fs fd => opV3 (fun a b _ => a - b) fs.toNat fd.toNat fd.toNat false
  | .vmullo16 fs fd => opV3 (fun a b _ => a * b) fs.toNat fd.toNat fd.toNat false
  | .vand16 fs fd => opV3 (fun a b _ => a &&& b) fs.toNat fd.toNat fd.toNat false
  | .vor16 fs fd => opV3 (fun a b _ => a ||| b) fs.toNat fd.toNat fd.toNat false
  | .vxor16 fs fd => opV3 (fun a b _ => a ^^^ b) fs.toNat fd.toNat fd.toNat false
  | .vshl16 fs fd => opV3 (fun a b _ => a <<< amt b) fs.toNat fd.toNat fd.toNat false
  | .vshrl16 fs fd => opV3 (fun a b _ => a >>> amt b) fs.toNat fd.toNat fd.toNat false
  | .vshra16 fs fd => opV3 (fun a b _ => a.sshiftRight (amt b)) fs.toNat fd.toNat fd.toNat false
  | .vaddF3216 fs fd => opF32 0 0 fs.toNat fd.toNat fd.toNat false
  | .vsubF3216 fs fd => opF32 1 0 fs.toNat fd.toNat fd.toNat false
  | .vmulF3216 fs fd => opF32 2 0 fs.toNat fd.toNat fd.toNat false
  | .vmaxF3216 fs fd => opMinMaxF32 true fs.toNat fd.toNat fd.toNat false
  | .vminF3216 fs fd => opMinMaxF32 false fs.toNat fd.toNat fd.toNat false
  | .vmax16 fs fd => opV3 (fun a b _ => if a.toInt < b.toInt then b else a) fs.toNat fd.toNat fd.toNat false
  | .vaddF32 fr fb fa fd ft => opF32 0 fr.toNat fb.toNat fa.toNat fd.toNat (isT ft)
  | .vsubF32 fr fb fa fd ft => opF32 1 fr.toNat fb.toNat fa.toNat fd.toNat (isT ft)
  | .vmulF32 fr fb fa fd ft => opF32 2 fr.toNat fb.toNat fa.toNat fd.toNat (isT ft)
  | .vfmaF32 fr fb fa fd ft => opF32 3 fr.toNat fb.toNat fa.toNat fd.toNat (isT ft)
  | .vaddF16x2 fr fb fa fd ft => opX2 .f16 0 fr.toNat fb.toNat fa.toNat fd.toNat (isT ft)
  | .vsubF16x2 fr fb fa fd ft => opX2 .f16 1 fr.toNat fb.toNat fa.toNat fd.toNat (isT ft)
  | .vmulF16x2 fr fb fa fd ft => opX2 .f16 2 fr.toNat fb.toNat fa.toNat fd.toNat (isT ft)
  | .vfmaF16x2 fr fb fa fd ft => opX2 .f16 3 fr.toNat fb.toNat fa.toNat fd.toNat (isT ft)
  | .vaddBf16x2 fr fb fa fd ft => opX2 .bf16 0 fr.toNat fb.toNat fa.toNat fd.toNat (isT ft)
  | .vsubBf16x2 fr fb fa fd ft => opX2 .bf16 1 fr.toNat fb.toNat fa.toNat fd.toNat (isT ft)
  | .vmulBf16x2 fr fb fa fd ft => opX2 .bf16 2 fr.toNat fb.toNat fa.toNat fd.toNat (isT ft)
  | .vfmaBf16x2 fr fb fa fd ft => opX2 .bf16 3 fr.toNat fb.toNat fa.toNat fd.toNat (isT ft)
  | .vaddF64 fr fb fa fd ft => opF64 0 fr.toNat fb.toNat fa.toNat fd.toNat (isT ft)
  | .vsubF64 fr fb fa fd ft => opF64 1 fr.toNat fb.toNat fa.toNat fd.toNat (isT ft)
  | .vmulF64 fr fb fa fd ft => opF64 2 fr.toNat fb.toNat fa.toNat fd.toNat (isT ft)
  | .vfmaF64 fr fb fa fd ft => opF64 3 fr.toNat fb.toNat fa.toNat fd.toNat (isT ft)
  | .vadd fb fa fd ft => opV3 (fun a b _ => a + b) fb.toNat fa.toNat fd.toNat (isT ft)
  | .vsub fb fa fd ft => opV3 (fun a b _ => a - b) fb.toNat fa.toNat fd.toNat (isT ft)
  | .vmullo fb fa fd ft => opV3 (fun a b _ => a * b) fb.toNat fa.toNat fd.toNat (isT ft)
  | .vmulhi fb fa fd ft => opV3 (fun a b _ => mulHi32 a b) fb.toNat fa.toNat fd.toNat (isT ft)
  | .vmulhu fb fa fd ft => opV3 (fun a b _ => mulHiU32 a b) fb.toNat fa.toNat fd.toNat (isT ft)
  | .vmad fb fa fd ft => opV3 (fun a b c => a * b + c) fb.toNat fa.toNat fd.toNat (isT ft)
  | .vaddsat fb fa fd ft => opV3 (fun a b _ => clamp32 (a.toInt + b.toInt)) fb.toNat fa.toNat fd.toNat (isT ft)
  | .vsubsat fb fa fd ft => opV3 (fun a b _ => clamp32 (a.toInt - b.toInt)) fb.toNat fa.toNat fd.toNat (isT ft)
  | .vmin fb fa fd ft => opV3 (fun a b _ => if b.toInt < a.toInt then b else a) fb.toNat fa.toNat fd.toNat (isT ft)
  | .vmax fb fa fd ft => opV3 (fun a b _ => if a.toInt < b.toInt then b else a) fb.toNat fa.toNat fd.toNat (isT ft)
  | .vminu fb fa fd ft => opV3 (fun a b _ => if b.toNat < a.toNat then b else a) fb.toNat fa.toNat fd.toNat (isT ft)
  | .vmaxu fb fa fd ft => opV3 (fun a b _ => if a.toNat < b.toNat then b else a) fb.toNat fa.toNat fd.toNat (isT ft)
  | .vand fb fa fd ft => opV3 (fun a b _ => a &&& b) fb.toNat fa.toNat fd.toNat (isT ft)
  | .vor fb fa fd ft => opV3 (fun a b _ => a ||| b) fb.toNat fa.toNat fd.toNat (isT ft)
  | .vxor fb fa fd ft => opV3 (fun a b _ => a ^^^ b) fb.toNat fa.toNat fd.toNat (isT ft)
  | .vandn fb fa fd ft => opV3 (fun a b _ => a &&& ~~~b) fb.toNat fa.toNat fd.toNat (isT ft)
  | .vshl fb fa fd ft => opV3 (fun a b _ => a <<< amt b) fb.toNat fa.toNat fd.toNat (isT ft)
  | .vshrl fb fa fd ft => opV3 (fun a b _ => a >>> amt b) fb.toNat fa.toNat fd.toNat (isT ft)
  | .vshra fb fa fd ft => opV3 (fun a b _ => a.sshiftRight (amt b)) fb.toNat fa.toNat fd.toNat (isT ft)
  | .vrotl fb fa fd ft => opV3 (fun a b _ => a.rotateLeft (amt b)) fb.toNat fa.toNat fd.toNat (isT ft)
  | .vpopc fa fd ft => opV1 (fun a => BitVec.ofNat 32 (popcount a)) fa.toNat fd.toNat (isT ft)
  | .vclz fa fd ft => opV1 (fun a => BitVec.ofNat 32 (clz a)) fa.toNat fd.toNat (isT ft)
  | .vbrev fa fd ft => opV1 (fun a => brev a) fa.toNat fd.toNat (isT ft)
  | .vabs fa fd ft => opV1 (fun a => abs32 a) fa.toNat fd.toNat (isT ft)
  | .vaddi fi fa fd ft => opV1 (fun a => a + simm32 fi) fa.toNat fd.toNat (isT ft)
  | .vshli fi fa fd ft => opV1 (fun a => a <<< fi.toNat) fa.toNat fd.toNat (isT ft)
  | .vshrli fi fa fd ft => opV1 (fun a => a >>> fi.toNat) fa.toNat fd.toNat (isT ft)
  | .vshrai fi fa fd ft => opV1 (fun a => a.sshiftRight fi.toNat) fa.toNat fd.toNat (isT ft)
  | .vandi fi fa fd ft => opV1 (fun a => a &&& simm32 fi) fa.toNat fd.toNat (isT ft)
  | .vori fi fa fd ft => opV1 (fun a => a ||| simm32 fi) fa.toNat fd.toNat (isT ft)
  | .vxori fi fa fd ft => opV1 (fun a => a ^^^ simm32 fi) fa.toNat fd.toNat (isT ft)
  | .vmuli fi fa fd ft => opV1 (fun a => a * simm32 fi) fa.toNat fd.toNat (isT ft)
  | .vmovi fi fd ft => fun p => .ok (p.setV (isT ft) fd.toNat fun _ => simm32 fi)
  | .vmovs fa fd ft => opVmovs false fa.toNat fd.toNat (isT ft)
  | .vmovsh fa fd ft => opVmovs true fa.toNat fd.toNat (isT ft)
  | .vlane fd ft => fun p => .ok (p.setV (isT ft) fd.toNat fun l => BitVec.ofNat 32 l)
  | .vgetl fb fa fd ft => opVgetl fb.toNat fa.toNat fd.toNat (isT ft)
  | .vsetl fb fa fd ft => opVsetl fb.toNat fa.toNat fd.toNat (isT ft)
  | .vcmp fc fb fa fd ft => opVcmp fc.toNat fb.toNat fa.toNat fd.toNat (isT ft)
  | .vcmpf fc fb fa fd ft => opVcmpf fc.toNat fb.toNat fa.toNat fd.toNat (isT ft)
  | .vsel fm fb fa fd ft => opVsel fm.toNat fb.toNat fa.toNat fd.toNat (isT ft)
  | .vbfxu fw fo fa fd ft => opV1 (fun a => BitVec.ofNat 32 (bfxu 32 fw.toNat fo.toNat a.toNat)) fa.toNat fd.toNat (isT ft)
  | .vbfx fw fo fa fd ft => opV1 (fun a => BitVec.ofInt 32 (bfx 32 fw.toNat fo.toNat a.toNat)) fa.toNat fd.toNat (isT ft)
  | .vbfi fw fo fa fd ft => opV3 (fun a _ c => BitVec.ofNat 32 (bfi 32 fw.toNat fo.toNat a.toNat c.toNat)) fa.toNat fa.toNat fd.toNat (isT ft)
  | .vcvt fs fy fx fr fa fd ft => opVcvt (decide (fs = 1)) fy.toNat fx.toNat fr.toNat fa.toNat fd.toNat (isT ft)
  | .vpkF16 fb fa fd ft => opVpk .f16 fb.toNat fa.toNat fd.toNat (isT ft)
  | .vpkBf16 fb fa fd ft => opVpk .bf16 fb.toNat fa.toNat fd.toNat (isT ft)
  | .vpkb fb fa fd ft => opV3 (fun a b c => BitVec.ofNat 32 (c.toNat / 2 ^ 16 * 2 ^ 16 + b.toNat % 256 * 256 + a.toNat % 256)) fb.toNat fa.toNat fd.toNat (isT ft)
  | .vpkbh fb fa fd ft => opV3 (fun a b c => BitVec.ofNat 32 (b.toNat % 256 * 2 ^ 24 + a.toNat % 256 * 2 ^ 16 + c.toNat % 2 ^ 16)) fb.toNat fa.toNat fd.toNat (isT ft)
  | .vupkF16l fa fd ft => opVupk .f16 0 fa.toNat fd.toNat (isT ft)
  | .vupkF16h fa fd ft => opVupk .f16 1 fa.toNat fd.toNat (isT ft)
  | .vupkBf16l fa fd ft => opVupk .bf16 0 fa.toNat fd.toNat (isT ft)
  | .vupkBf16h fa fd ft => opVupk .bf16 1 fa.toNat fd.toNat (isT ft)
  | .vrcp fa fd ft => opVsfu 0 fa.toNat fd.toNat (isT ft)
  | .vrsq fa fd ft => opVsfu 1 fa.toNat fd.toNat (isT ft)
  | .vsqrt fa fd ft => opVsfu 2 fa.toNat fd.toNat (isT ft)
  | .vexp2 fa fd ft => opVsfu 3 fa.toNat fd.toNat (isT ft)
  | .vlog2 fa fd ft => opVsfu 4 fa.toNat fd.toNat (isT ft)
  | .vsin fa fd ft => opVsfu 5 fa.toNat fd.toNat (isT ft)
  | .vcos fa fd ft => opVsfu 6 fa.toNat fd.toNat (isT ft)
  | .vtanh fa fd ft => opVsfu 7 fa.toNat fd.toNat (isT ft)
  | .vminF32 fb fa fd ft => opMinMaxF32 false fb.toNat fa.toNat fd.toNat (isT ft)
  | .vmaxF32 fb fa fd ft => opMinMaxF32 true fb.toNat fa.toNat fd.toNat (isT ft)
  | .vminF16x2 fb fa fd ft => opMinMaxX2 .f16 false fb.toNat fa.toNat fd.toNat (isT ft)
  | .vmaxF16x2 fb fa fd ft => opMinMaxX2 .f16 true fb.toNat fa.toNat fd.toNat (isT ft)
  | .vminBf16x2 fb fa fd ft => opMinMaxX2 .bf16 false fb.toNat fa.toNat fd.toNat (isT ft)
  | .vmaxBf16x2 fb fa fd ft => opMinMaxX2 .bf16 true fb.toNat fa.toNat fd.toNat (isT ft)
  | .vcopysignF32 fb fa fd ft => opCopysign fb.toNat fa.toNat fd.toNat (isT ft)
  | .vclassF32 fa fd ft => opClass fa.toNat fd.toNat (isT ft)
  | .vshuf fb fa fd ft => opLane (fun p l => bits (p.vreg fb.toNat l) 5 0) fa.toNat fd.toNat (isT ft)
  | .vswz fc fa fd ft => opLane (swz fc.toNat) fa.toNat fd.toNat (isT ft)
  | .vbcast fk fa fd ft => opLane (fun _ _ => fk.toNat) fa.toNat fd.toNat (isT ft)
  | .vscanI32 fa fd ft => opScanI fa.toNat fd.toNat (isT ft)
  | .vscanF32 fa fd ft => opScanF fa.toNat fd.toNat (isT ft)
  | .vconflict fa fd ft => opConflict fa.toNat fd.toNat (isT ft)
  | .vcombineF32 fb fa fd ft => opCombineF fb.toNat fa.toNat fd.toNat (isT ft)
  | .vcombineI32 fb fa fd ft => opCombineI fb.toNat fa.toNat fd.toNat (isT ft)
  | .vredaddI32 fa fd ft => opRedI true (fun a b => a + b) 0 fa.toNat fd.toNat (isT ft)
  | .vredaddF32 fa fd ft => opRedAddF fa.toNat fd.toNat (isT ft)
  | .vredmaxF32 fa fd ft => opRedMinMaxF true fa.toNat fd.toNat (isT ft)
  | .vredminF32 fa fd ft => opRedMinMaxF false fa.toNat fd.toNat (isT ft)
  | .vredmaxI32 fa fd ft => opRedI true smax32 0x80000000#32 fa.toNat fd.toNat (isT ft)
  | .vredminI32 fa fd ft => opRedI true smin32 0x7FFFFFFF#32 fa.toNat fd.toNat (isT ft)
  | .vredand fa fd ft => opRedI false (fun a b => a &&& b) 0xFFFFFFFF#32 fa.toNat fd.toNat (isT ft)
  | .vredor fa fd ft => opRedI false (fun a b => a ||| b) 0 fa.toNat fd.toNat (isT ft)
  | .visect fb fa fd ft => opVisect fb.toNat fa.toNat fd.toNat (isT ft)
  | .smxupd fb fa fd ft => opSmxupd fb.toNat fa.toNat fd.toNat (isT ft)
  | .smxfin fb fa fd ft => opSmxfin fb.toNat fa.toNat fd.toNat (isT ft)
  | .vrand fk fa fd ft => opVrand fk.toNat fa.toNat fd.toNat (isT ft)
  | .vrandu fk fa fd ft => opVrandu fk.toNat fa.toNat fd.toNat (isT ft)
  | .vdot2F16 fb fa fd ft => opDotF .f16 2 fb.toNat fa.toNat fd.toNat (isT ft)
  | .vdot2Bf16 fb fa fd ft => opDotF .bf16 2 fb.toNat fa.toNat fd.toNat (isT ft)
  | .vdot4I8 fb fa fd ft => opDotI 4 true fb.toNat fa.toNat fd.toNat (isT ft)
  | .vdot4Ui8 fb fa fd ft => opDotI 4 false fb.toNat fa.toNat fd.toNat (isT ft)
  | .vdot4E4m3 fb fa fd ft => opDotF .e4m3 4 fb.toNat fa.toNat fd.toNat (isT ft)
  | .vdot4E5m2 fb fa fd ft => opDotF .e5m2 4 fb.toNat fa.toNat fd.toNat (isT ft)
  | .vdot8Q4x fb fa fd ft => opDotQ4x fb.toNat fa.toNat fd.toNat (isT ft)
  | .vdot8I4 fb fa fd ft => opDotI 8 true fb.toNat fa.toNat fd.toNat (isT ft)
  | .rsvinit fq ft => opRsvinit fq.toNat (isT ft)
  | .rsvupd fb fa fq ft => opRsvupd fb.toNat fa.toNat fq.toNat (isT ft)
  | .rsvmrg fb fa fq ft => opRsvmrg fb.toNat fa.toNat fq.toNat (isT ft)
  | .rsvfin fq fd ft => opRsvfin fq.toNat fd.toNat (isT ft)
  | .rsvrd fq fd ft => opRsvrd fq.toNat fd.toNat (isT ft)
  | .rsvwr fa fq ft => opRsvwr fa.toNat fq.toNat (isT ft)
  | .raytri fb fa fd ft => opRaytri fb.toNat fa.toNat fd.toNat (isT ft)
  | .raybox fb fa fd ft => opRaybox fb.toNat fa.toNat fd.toNat (isT ft)
  | .mma fz ff fc fs ft fo fa fy fp => opMma (decide (fz = 1)) (decide (ff = 1)) (decide (fc = 1)) (decide (fs = 1)) ft.toNat fo.toNat fa.toNat fy.toNat fp.toNat
  | .obres fs fo => opObres fs.toNat fo.toNat
  | .obfree fo => opObfree fo.toNat
  | .acczero ft => opAcczero ft.toNat
  | .accrd ff ft fd fs => opAccrd ft.toNat fd.toNat fs.toNat (decide (ff = 1))
  | .accwr ft fv fs => opAccwr ft.toNat fv.toNat fs.toNat
  | .sptile fs fo => opSptile fs.toNat fo.toNat
  | .chartpf fp fo => opChartpf fp.toNat fo.toNat
  | .chartinv fo => opChartinv fo.toNat
  | .chartq ff fd fp fo => opChartq fd.toNat fp.toNat fo.toNat (decide (ff = 1))
  | .talloc fi fu ft => opTalloc (decide (fi = 1)) fu.toNat ft.toNat
  | .tfree ft => opTfree ft.toNat
  | .sadd fb fa fd => opS2 (fun a b => a + b) fb.toNat fa.toNat fd.toNat
  | .ssub fb fa fd => opS2 (fun a b => a - b) fb.toNat fa.toNat fd.toNat
  | .smul fb fa fd => opS2 (fun a b => a * b) fb.toNat fa.toNat fd.toNat
  | .smulh fb fa fd => opS2 (fun a b => mulHi64 a b) fb.toNat fa.toNat fd.toNat
  | .smulhu fb fa fd => opS2 (fun a b => mulHiU64 a b) fb.toNat fa.toNat fd.toNat
  | .sand fb fa fd => opS2 (fun a b => a &&& b) fb.toNat fa.toNat fd.toNat
  | .sor fb fa fd => opS2 (fun a b => a ||| b) fb.toNat fa.toNat fd.toNat
  | .sxor fb fa fd => opS2 (fun a b => a ^^^ b) fb.toNat fa.toNat fd.toNat
  | .sandn fb fa fd => opS2 (fun a b => a &&& ~~~b) fb.toNat fa.toNat fd.toNat
  | .sshl fb fa fd => opS2 (fun a b => a <<< amt64 b) fb.toNat fa.toNat fd.toNat
  | .sshrl fb fa fd => opS2 (fun a b => a >>> amt64 b) fb.toNat fa.toNat fd.toNat
  | .sshra fb fa fd => opS2 (fun a b => a.sshiftRight (amt64 b)) fb.toNat fa.toNat fd.toNat
  | .smin fb fa fd => opS2 (fun a b => if b.toInt < a.toInt then b else a) fb.toNat fa.toNat fd.toNat
  | .smax fb fa fd => opS2 (fun a b => if a.toInt < b.toInt then b else a) fb.toNat fa.toNat fd.toNat
  | .sminu fb fa fd => opS2 (fun a b => if b.toNat < a.toNat then b else a) fb.toNat fa.toNat fd.toNat
  | .smaxu fb fa fd => opS2 (fun a b => if a.toNat < b.toNat then b else a) fb.toNat fa.toNat fd.toNat
  | .sseq fb fa fd => opS2 (fun a b => bool64 (a == b)) fb.toNat fa.toNat fd.toNat
  | .ssne fb fa fd => opS2 (fun a b => bool64 (a != b)) fb.toNat fa.toNat fd.toNat
  | .sslt fb fa fd => (opS2 (fun a b => bool64 (decide (a.toInt < b.toInt))) fb.toNat fa.toNat fd.toNat)
  | .ssltu fb fa fd => (opS2 (fun a b => bool64 (decide (a.toNat < b.toNat))) fb.toNat fa.toNat fd.toNat)
  | .ssle fb fa fd => (opS2 (fun a b => bool64 (decide (a.toInt ≤ b.toInt))) fb.toNat fa.toNat fd.toNat)
  | .ssleu fb fa fd => (opS2 (fun a b => bool64 (decide (a.toNat ≤ b.toNat))) fb.toNat fa.toNat fd.toNat)
  | .spopc fa fd => opS1 (fun a => BitVec.ofNat 64 (popcount a)) fa.toNat fd.toNat
  | .sclz fa fd => opS1 (fun a => BitVec.ofNat 64 (clz a)) fa.toNat fd.toNat
  | .sctz fa fd => opS1 (fun a => BitVec.ofNat 64 (ctz a)) fa.toNat fd.toNat
  | .sbrev fa fd => opS1 (fun a => brev a) fa.toNat fd.toNat
  | .smov fa fd => opS1 (fun a => a) fa.toNat fd.toNat
  | .slea2 fb fa fd => opS2 (fun a b => a + b <<< 2) fb.toNat fa.toNat fd.toNat
  | .slea3 fb fa fd => opS2 (fun a b => a + b <<< 3) fb.toNat fa.toNat fd.toNat
  | .saddi fi fa fd => opS1 (fun a => a + simm64 fi) fa.toNat fd.toNat
  | .sandi fi fa fd => opS1 (fun a => a &&& simm64 fi) fa.toNat fd.toNat
  | .sori fi fa fd => opS1 (fun a => a ||| simm64 fi) fa.toNat fd.toNat
  | .sxori fi fa fd => opS1 (fun a => a ^^^ simm64 fi) fa.toNat fd.toNat
  | .sshli fi fa fd => opS1 (fun a => a <<< fi.toNat) fa.toNat fd.toNat
  | .sshrli fi fa fd => opS1 (fun a => a >>> fi.toNat) fa.toNat fd.toNat
  | .sshrai fi fa fd => opS1 (fun a => a.sshiftRight fi.toNat) fa.toNat fd.toNat
  | .sslti fi fa fd => (opS1 (fun a => bool64 (decide (a.toInt < (simm64 fi).toInt))) fa.toNat fd.toNat)
  | .smuli fi fa fd => opS1 (fun a => a * simm64 fi) fa.toNat fd.toNat
  | .sinsh fi fp fd => opS1 (fun a => putBits a (16 * fp.toNat + 15) (16 * fp.toNat) fi.toNat) fd.toNat fd.toNat
  | .smovh fi fp fd => opS1 (fun _ => simm64 fi <<< (16 * fp.toNat)) fd.toNat fd.toNat
  | .sbfxu fw fo fa fd => opS1 (fun a => BitVec.ofNat 64 (bfxu 64 fw.toNat fo.toNat a.toNat)) fa.toNat fd.toNat
  | .sbfx fw fo fa fd => opS1 (fun a => BitVec.ofInt 64 (bfx 64 fw.toNat fo.toNat a.toNat)) fa.toNat fd.toNat
  | .sbfi fw fo fa fd => opSbfi fw.toNat fo.toNat fa.toNat fd.toNat
  | .bra fi => opBra fi
  | .brnz fi fa => opBrz true fi fa.toNat
  | .brz fi fa => opBrz false fi fa.toNat
  | .brm fi fa => opBrm fi fa.toNat
  | .join _ => opJoin
  | .call fi => opCall fun p => relTarget p fi
  | .callr fa => opCall fun p => p.sreg fa.toNat
  | .ret fa => opRet fa.toNat
  | .loop fe fa => opLoop fe.toNat fun p => (p.sreg fa.toNat).setWidth 32
  | .loopi fe fn => opLoop fe.toNat fun _ => fn.setWidth 32
  | .exit => opExit
  | .trap fi => opTrap 7 fi.toNat
  | .bkpt fi => opTrap 6 fi.toNat
  | .yield fi => opYield fi.toNat
  | .fuse _ => .ok
  | .nop => .ok
  | .sread fd fs => opSread fd.toNat fs.toNat
  | .swrite fa fs => opSwrite fa.toNat fs.toNat
  | .acquire => opAcquire
  | .release => opRelease
  | .tqinit fb fa => opTqinit fb.toNat fa.toNat
  | .tqtake fa fd => opTqtake fa.toNat fd.toNat
  | .launch fd fa => opLaunch fd.toNat fa.toNat
  | .sleep fi => opSleep fi.toNat
  | .gettime fd => opGettime fd.toNat
  | .vld _ fk fz fb fd ff => opVld fk.toNat fz.toNat fb.toNat fd.toNat (decide (ff = 1))
  | .vst _ fk fz fb fs => opVst fk.toNat fz.toNat fb.toNat fs.toNat
  | .sld fi fz fa fd => opSld fi.toNat fz.toNat fa.toNat fd.toNat
  | .sst fi fz fa fd => opSst fi.toNat fz.toNat fa.toNat fd.toNat
  | .ldl fi fz fa fd ff => opLdl fi.toNat fz.toNat fa.toNat fd.toNat (decide (ff = 1))
  | .stl fi fz fa fs => opStl fi.toNat fz.toNat fa.toNat fs.toNat
  | .atoml fo fb fa fd ff => opAtoml fo.toNat fb.toNat fa.toNat fd.toNat (decide (ff = 1))
  | .atomg fc fz fo fb fa fd ff => opAtomg fc.toNat fz.toNat fo.toNat fb.toNat fa.toNat fd.toNat (decide (ff = 1))
  | .atomgv fb fo fk fd ff => opAtomgv fb.toNat fo.toNat fk.toNat fd.toNat (decide (ff = 1))
  | .fence fk fs => opFence fk.toNat fs.toNat
  | .bfence => opBfence
  | .tcopy fv fb fa => opTcopy (decide (fv = 1)) fb.toNat fa.toNat
  | .sealBatch fd => opSeal fd.toNat
  | .waitb fa => opWaitb fa.toNat
  | .gather fv fb fa => opGather (decide (fv = 1)) fb.toNat fa.toNat
  | .putsig fa => opPutsig fa.toNat
  | .pref fl fn fa => opPref (decide (fl = 1)) fn.toNat fa.toNat
  | .barinit fb fa => opBarinit fb.toNat fa.toNat
  | .bararr fd fa => opBararr fd.toNat fa.toNat
  | .bartx fb fa => opBartx fb.toNat fa.toNat
  | .barwait fb fa => opBarwait fb.toNat fa.toNat
  | .bartry fd fb fa => opBartry fd.toNat fb.toNat fa.toNat
  | .gbar fs => opGbar fs.toNat
  | .bmv ff fa => opBmv false fa.toNat (decide (ff = 1))
  | .bmvacc ff fa => opBmv true fa.toNat (decide (ff = 1))
  | .bstat ff fa fd => opBstat fa.toNat fd.toNat (decide (ff = 1))
  | _ => .ok

/-- The instructions that have an encoding. -/
def encoded : Instr → Bool
  | .clauseStart => false
  | .commit => false
  | .heldAtCommitRelease => false
  | .pageWalk => false
  | .longLatencyReturn => false
  | .accessFailedAfterCommit => false
  | .issuePick => false
  | .starvationPromote => false
  | .spinDemote => false
  | .spinDemotionExpiry => false
  | .sleepExpiry => false
  | .yieldExpiry => false
  | .missSplit => false
  | .scalarCopyDone => false
  | .joinFuse => false
  | .joinTimeout => false
  | .joinRelease => false
  | .widthFuse => false
  | .fuseTimeout => false
  | .allotmentGrant => false
  | .allotmentDeadlockPreempt => false
  | .gbarRelease => false
  | .trapStop => false
  | .trapRecordWrite => false
  | .breakpointMatch => false
  | .stepTimeout => false
  | .waveRetire => false
  | .matrixQueueHeadStart => false
  | .mmaArrayStart => false
  | .matrixOpComplete => false
  | .matrixFlagClear => false
  | .courseMmaDispatch => false
  | .chartCompileStart => false
  | .chartCompileEnd => false
  | .copyGranule => false
  | .copyFailure => false
  | .gatherElement => false
  | .putsigSignal => false
  | .bankUnitGroup => false
  | .bmvComplete => false
  | .homeSliceStore => false
  | .homeSliceLoad => false
  | .pulseTick => false
  | .spanLeave => false
  | .packetAccept => false
  | .groupAdmit => false
  | .launchComplete => false
  | .preemptRequest => false
  | .preemptSave => false
  | .preemptFail => false
  | .groupRestore => false
  | .qctlWrite => false
  | .qdoorbellWrite => false
  | .invcmdWrite => false
  | .invalidationComplete => false
  | .apfaultWrite => false
  | .bar2Read => false
  | .bar2Write => false
  | .pulsecfgWrite => false
  | .pwrcapWrite => false
  | .spanctlWrite => false
  | .cntdataWrite => false
  | .registerWrite => false
  | .fundamentalReset => false
  | .bootComplete => false
  | .functionLevelReset => false
  | .decodeTableUpdate => false
  | .powerWindow => false
  | .thermalStop => false
  | .wearUpdate => false
  | .uncorrectableError => false
  | .correctedErrorRecord => false
  | .linkReplay => false
  | .linkOperationFailure => false
  | .spanRequest => false
  | .stallSample => false
  | .dbgHaltWave => false
  | .dbgHaltGroup => false
  | .dbgResume => false
  | .dbgStep => false
  | .dbgKillWave => false
  | .dbgKillGroup => false
  | .dbgSave => false
  | .dbgInvalidCommand => false
  | .getVersion => false
  | .getCapabilities => false
  | .negotiateAlgorithms => false
  | .getDigests => false
  | .getCertificate => false
  | .challenge => false
  | .getMeasurements => false
  | .storeTimeReturn => false
  | .tickCompletion => false
  | .portRetrain => false
  | .msixVectorUnmask => false
  | .coreClockStop => false
  | .coreClockRestart => false
  | _ => true

/-- Every encoded instruction is issued with its body. -/
theorem exec_issue (i : Instr) (s : State) (h : encoded i = true) : exec i s = issue i s (body i) := by
  cases i <;> first
    | rfl
    | exact absurd h (by decide)

end Sys2Proof.Machine
end

