-- ==== Sys2Proof/Laws/Sparse.lean ====
section
/-! SUPPORT. Laws of sparse maps: a read after a write, other keys left alone, and the canonical form kept. The laws of reading
hold of every list; only equality of maps needs the canonical form. -/

namespace Sys2Proof.Machine

namespace SMap

@[simp] theorem get_nil {w : Nat} (a : Nat) : SMap.get ([] : SMap w) a = 0 := rfl

theorem get_keep {w : Nat} (f : Nat → Bool) (a : Nat) : ∀ m : SMap w, (m.keep f).get a = if f a then m.get a else 0
  | [] => by simp [keep]
  | (k, v) :: m => by
    have ih := get_keep f a m
    simp only [keep] at ih ⊢
    by_cases hk : f k
    · by_cases ha : a = k
      · subst ha; simp [hk, get]
      · simp [hk, get, ha, ih]
    · by_cases ha : a = k
      · subst ha; simp [hk, ih]
      · simp [hk, get, ha, ih]

theorem get_cons {w : Nat} (a b : Nat) (x : BitVec w) (m : SMap w) :
    (cons a x m).get b = if b = a then x else m.get b := by
  unfold cons
  split
  · rename_i hx
    rw [get_keep]
    by_cases h : b = a <;> simp [h, hx]
  · simp [get]

/-- A write changes the word at its key and no other. -/
theorem get_set {w : Nat} (a b : Nat) (x : BitVec w) : ∀ m : SMap w, (m.set a x).get b = if b = a then x else m.get b
  | [] => by simp [set, get_cons]
  | (k, v) :: m => by
    unfold set
    split
    · rename_i h; subst h; rw [get_cons]
      by_cases h : b = a <;> simp [h, get]
    · split
      · rw [get_cons]
      · rename_i h _
        simp only [get, get_set a b x m]
        by_cases hb : b = k
        · subst hb; simp [Ne.symm h]
        · simp [hb]

theorem wfFrom_le {w : Nat} : ∀ (m : SMap w) (b c : Nat), b ≤ c → m.wfFrom c = true → m.wfFrom b = true
  | [], _, _, _, _ => rfl
  | (k, v) :: m, b, c, h, hm => by
    simp only [wfFrom, Bool.and_eq_true, decide_eq_true_eq] at hm ⊢
    exact ⟨⟨by omega, hm.1.2⟩, hm.2⟩

theorem wfFrom_keep {w : Nat} (f : Nat → Bool) : ∀ (m : SMap w) (b : Nat), m.wfFrom b = true → (m.keep f).wfFrom b = true
  | [], _, _ => rfl
  | (k, v) :: m, b, h => by
    simp only [wfFrom, Bool.and_eq_true, decide_eq_true_eq] at h
    have ih := wfFrom_keep f m (k + 1) h.2
    unfold keep at ih ⊢
    rw [List.filter_cons]
    split
    · simp only [wfFrom, Bool.and_eq_true, decide_eq_true_eq]
      exact ⟨⟨h.1.1, h.1.2⟩, ih⟩
    · exact wfFrom_le _ _ _ (by omega) ih

theorem wfFrom_cons {w : Nat} (a b : Nat) (x : BitVec w) (m : SMap w) (hb : b ≤ a) (h : m.wfFrom (a + 1) = true) :
    (cons a x m).wfFrom b = true := by
  unfold cons
  split
  · exact wfFrom_le _ _ _ (by omega) (wfFrom_keep _ _ _ h)
  · rename_i hx
    simp only [wfFrom, Bool.and_eq_true, decide_eq_true_eq]
    exact ⟨⟨hb, by simpa using hx⟩, h⟩

theorem wfFrom_set {w : Nat} (a : Nat) (x : BitVec w) :
    ∀ (m : SMap w) (b : Nat), b ≤ a → m.wfFrom b = true → (m.set a x).wfFrom b = true
  | [], b, hb, _ => wfFrom_cons a b x [] hb rfl
  | (k, v) :: m, b, hb, h => by
    simp only [wfFrom, Bool.and_eq_true, decide_eq_true_eq] at h
    unfold set
    split
    · rename_i hk; subst hk; exact wfFrom_cons a b x m hb h.2
    · split
      · rename_i hk
        refine wfFrom_cons a b x _ hb ?_
        simp only [wfFrom, Bool.and_eq_true, decide_eq_true_eq]
        exact ⟨⟨by omega, h.1.2⟩, h.2⟩
      · simp only [wfFrom, Bool.and_eq_true, decide_eq_true_eq]
        exact ⟨⟨h.1.1, h.1.2⟩, wfFrom_set a x m (k + 1) (by omega) h.2⟩

/-- A write keeps the canonical form. -/
theorem wf_set {w : Nat} (m : SMap w) (a : Nat) (x : BitVec w) (h : m.wf = true) : (m.set a x).wf = true :=
  wfFrom_set a x m 0 (Nat.zero_le a) h

/-- Removing entries keeps the canonical form. -/
theorem wf_keep {w : Nat} (m : SMap w) (f : Nat → Bool) (h : m.wf = true) : (m.keep f).wf = true := wfFrom_keep f m 0 h

/-- Writes one after the other keep the canonical form. -/
theorem wf_setAll {w : Nat} : ∀ (l : List (Nat × BitVec w)) (m : SMap w), m.wf = true → (m.setAll l).wf = true
  | [], _, h => h
  | p :: l, m, h => wf_setAll l (m.set p.1 p.2) (wf_set m p.1 p.2 h)

/-- A key that no write names keeps its word. -/
theorem get_setAll {w : Nat} (b : Nat) : ∀ (l : List (Nat × BitVec w)) (m : SMap w), b ∉ l.map Prod.fst → (m.setAll l).get b = m.get b
  | [], _, _ => rfl
  | p :: l, m, h => by
    simp only [List.map_cons, List.mem_cons, not_or] at h
    have := get_setAll b l (m.set p.1 p.2) h.2
    simp only [setAll, List.foldl_cons] at this ⊢
    rw [this, get_set, if_neg h.1]

end SMap

namespace AMap

theorem get?_set {α : Type} (a b : Nat) (x : α) : ∀ m : AMap α, (AMap.set m a x).get? b = if b = a then some x else m.get? b
  | [] => by simp [set, get?]
  | (k, v) :: m => by
    unfold set
    split
    · rename_i h; subst h; by_cases h : b = a <;> simp [get?, h]
    · split
      · simp [get?]
      · rename_i h _
        simp only [get?, get?_set a b x m]
        by_cases hb : b = k
        · subst hb; simp [Ne.symm h]
        · simp [hb]

theorem get?_del {α : Type} (a b : Nat) : ∀ m : AMap α, (m.del a).get? b = if b = a then none else m.get? b
  | [] => by simp [del, get?]
  | (k, v) :: m => by
    have ih := get?_del a b m
    simp only [del] at ih ⊢
    by_cases hk : k = a
    · subst hk
      by_cases hb : b = k
      · subst hb; simpa using ih
      · simp [get?, hb, ih]
    · by_cases hb : b = k
      · subst hb; simp [get?, hk]
      · simp [get?, hk, hb, ih]

theorem getD_set {α : Type} (m : AMap α) (a b : Nat) (x d : α) :
    (AMap.set m a x).getD b d = if b = a then x else m.getD b d := by
  simp only [getD, get?_set]; by_cases h : b = a <;> simp [h]

end AMap

end Sys2Proof.Machine
end

