-- ==== Sys2Proof/Laws/Frame.lean ====
section
/-! SUPPORT. What each shared operation on the device can change, said once: timing changes line times and the L2, translation changes TLBs, walk
caches and waiting walks besides, a write changes memory besides, and nothing else of the device. -/

namespace Sys2Proof.Machine

/-! ## Tables -/

namespace AMap

theorem get?_map {α β : Type} (f : Nat → α → β) (a : Nat) : ∀ m : AMap α,
    get? (m.map fun x => (x.1, f x.1 x.2)) a = (get? m a).map (f a)
  | [] => rfl
  | (k, v) :: m => by
    simp only [List.map_cons, get?]
    split
    · rename_i h; subst h; rfl
    · exact get?_map f a m

theorem get?_upd {α : Type} (m : AMap α) (k a : Nat) (f : α → α) :
    (upd m k f).get? a = if a = k then (m.get? a).map f else m.get? a := by
  have h : upd m k f = m.map fun x => (x.1, (fun i y => if i = k then f y else y) x.1 x.2) :=
    List.map_congr_left fun x _ => by by_cases hx : x.1 = k <;> simp [hx]
  rw [h, get?_map (fun i y => if i = k then f y else y)]
  by_cases hk : a = k <;> simp [hk]

end AMap

namespace Device

/-! ## Times and the L2 (10 R262; 11 R282 to R284) -/

/-- Only times of lines and the L2 with its counts differ. -/
def Times (d d' : Device) : Prop := ∃ l e c n y z, d' = { d with lines := l, er := e, l2 := c, l2cnt := n, tally := y, tallyAt := z }

theorem Times.refl (d : Device) : d.Times d := ⟨_, _, _, _, _, _, rfl⟩

theorem Times.trans {a b c : Device} (h : a.Times b) (g : b.Times c) : a.Times c := by
  obtain ⟨_, _, _, _, _, _, rfl⟩ := h
  obtain ⟨_, _, _, _, _, _, rfl⟩ := g
  exact ⟨_, _, _, _, _, _, rfl⟩

theorem times_raiseEr (d : Device) (line : Nat) (t : Word64) : d.Times (d.raiseEr line t) := ⟨_, _, _, _, _, _, rfl⟩

theorem times_setLineTime (d : Device) (line : Nat) (x : LineTime) : d.Times (d.setLineTime line x) := by
  unfold setLineTime
  dsimp only
  have h : d.Times (if d.inL2 (d.homeLine line) then { d with lines := d.lines.set (d.homeLine line) x }
      else d.raiseEr (d.homeLine line) x.rts) := by
    split
    · exact ⟨_, _, _, _, _, _, rfl⟩
    · exact times_raiseEr d _ _
  split
  · exact h
  · exact h.trans (times_raiseEr _ _ _)

theorem times_dropL2 (d : Device) (line : Nat) : d.Times (d.dropL2 line) := by
  unfold dropL2
  split
  · split
    · exact ⟨_, _, _, _, _, _, rfl⟩
    · exact ⟨_, _, _, _, _, _, rfl⟩
  · exact .refl d

theorem times_evictL2 (s st : Nat) : ∀ n (d : Device), d.Times (evictL2 s st n d)
  | 0, d => .refl d
  | n + 1, d => by
    unfold evictL2
    dsimp only
    split
    · exact .refl d
    · split
      · exact (times_dropL2 d _).trans (times_evictL2 s st n _)
      · exact .refl d

theorem times_bumpL2 (d : Device) (s c : Nat) : d.Times (d.bumpL2 s c) := ⟨_, _, _, _, _, _, rfl⟩

theorem times_bumpIf (d : Device) (b : Bool) (s c : Nat) : d.Times (if b then d.bumpL2 s c else d) := by
  split
  · exact times_bumpL2 d s c
  · exact .refl d

theorem times_fillL2 (d : Device) (line : Nat) (ca write : Bool) (far : Option FarCopy) : d.Times (d.fillL2 line ca write far) := by
  unfold fillL2
  exact .trans (.trans (.trans ⟨_, _, _, _, _, _, rfl⟩ (times_bumpL2 _ _ _)) (times_bumpIf _ _ _ _)) (times_evictL2 _ _ _ _)

/-- A line taken into the L2 changes times and the L2 only. -/
theorem times_touchL2 (d : Device) (line policy : Nat) (ca write : Bool) : d.Times (d.touchL2 line policy ca write) := by
  unfold touchL2
  dsimp only
  split
  · split
    · exact .refl d
    · exact times_fillL2 d _ _ _ _
  · split
    · exact times_fillL2 d _ _ _ _
    · exact ⟨_, _, _, _, _, _, rfl⟩

theorem times_retouch (d : Device) (line : Nat) : d.Times (d.retouch line) := by
  unfold retouch
  split
  · exact .refl d
  · split
    · exact times_touchL2 d _ _ _ _
    · exact .refl d

theorem times_readTime (d : Device) (line : Nat) (t : Word64) : d.Times (d.readTime line t).2 := times_setLineTime d _ _

theorem times_loadTime (d : Device) (line : Nat) (t : Word64) : d.Times (d.loadTime line t).2.2 := by
  by_cases h : 1 ≤ behind d.pulse (tmax d.pulse t (d.lineTime line).wts)
  · simp only [loadTime, if_pos h]
    exact times_setLineTime d _ _
  · simp only [loadTime, if_neg h]
    exact times_readTime d _ _

theorem times_storeTime (d : Device) (line : Nat) (t : Word64) : d.Times (d.storeTime line t).2 := times_setLineTime d _ _

theorem times_readAt (d : Device) (line : Nat) (pg : Nat × Bool) (t : Word64) : d.Times (d.readAt line pg t).2 :=
  (times_touchL2 d _ _ _ _).trans (times_readTime _ _ _)

theorem times_loadAt (d : Device) (line : Nat) (pg : Nat × Bool) (t : Word64) : d.Times (d.loadAt line pg t).2.2 :=
  (times_touchL2 d _ _ _ _).trans (times_loadTime _ _ _)

theorem times_timeAt (d : Device) (line : Nat) (pg : Nat × Bool) (t : Word64) : d.Times (d.timeAt line pg t).2 :=
  (times_touchL2 d _ _ _ _).trans (times_storeTime _ _ _)

/-! ## What accesses leave -/

/-- What an access may leave behind: memory, with what is known to be lost and what is parked for bank products, times of lines and the L2, the
L1s, the TLBs, the walk caches and the walks asked for. Memory keeps its canonical form. -/
def Touch (d d' : Device) : Prop :=
  (∃ m b l e c n y z x k t w q, d' = { d with
      mem := m, bad := b, lines := l, er := e, l2 := c, l2cnt := n, tally := y, tallyAt := z, bmvs := x, cores := k, tlb2 := t, walks := w
      walkQ := q }) ∧
  (∀ k, ∃ t l, d'.core k = { d.core k with tlb := t, l1 := l }) ∧ (Memory.wf d.mem = true → Memory.wf d'.mem = true)

theorem Touch.refl (d : Device) : d.Touch d :=
  ⟨⟨_, _, _, _, _, _, _, _, _, _, _, _, _, rfl⟩, fun _ => ⟨_, _, rfl⟩, id⟩

theorem Touch.trans {a b c : Device} (h : a.Touch b) (g : b.Touch c) : a.Touch c := by
  obtain ⟨⟨m, bd, l, e, c2, n, y, z, x, k, t, w, q, rfl⟩, h2, h3⟩ := h
  obtain ⟨⟨m', bd', l', e', c2', n', y', z', x', k', t', w', q', rfl⟩, g2, g3⟩ := g
  refine ⟨⟨m', bd', l', e', c2', n', y', z', x', k', t', w', q', rfl⟩, fun k => ?_, fun hm => g3 (h3 hm)⟩
  obtain ⟨t, l, ht⟩ := h2 k
  obtain ⟨u, v, hu⟩ := g2 k
  exact ⟨u, v, by rw [hu, ht]⟩

/-- An access that changes no memory leaves it as it was. -/
theorem Touch.of_eq {d d' : Device} (h : ∃ m b l e c n y z x t w q, d' = { d with
      mem := m, bad := b, lines := l, er := e, l2 := c, l2cnt := n, tally := y, tallyAt := z, bmvs := x, tlb2 := t, walks := w, walkQ := q }) (hm : Memory.wf d.mem = true → Memory.wf d'.mem = true) : d.Touch d' := by
  obtain ⟨_, _, _, _, _, _, _, _, _, _, _, _, rfl⟩ := h
  exact ⟨⟨_, _, _, _, _, _, _, _, _, _, _, _, _, rfl⟩, fun _ => ⟨_, _, rfl⟩, hm⟩

theorem Times.touch {a b : Device} (h : a.Times b) : a.Touch b := by
  obtain ⟨_, _, _, _, _, _, rfl⟩ := h
  exact .of_eq ⟨_, _, _, _, _, _, _, _, _, _, _, _, rfl⟩ id

theorem touch_foldl {α : Type} (f : Device → α → Device) (h : ∀ d x, Touch d (f d x)) : ∀ (l : List α) (d : Device), d.Touch (l.foldl f d)
  | [], d => .refl d
  | x :: l, d => (h d x).trans (touch_foldl f h l (f d x))

theorem core_setCore (d : Device) (c k : Nat) (x : Core) : (d.setCore c x).core k = if k = c then x else d.core k := by
  simp [core, setCore, AMap.getD_set]

theorem touch_setCore (d : Device) (c : Nat) (t : List Leaf) (l : List L1Line) :
    d.Touch (d.setCore c { d.core c with tlb := t, l1 := l }) := by
  refine ⟨⟨_, _, _, _, _, _, _, _, _, _, _, _, _, rfl⟩, fun k => ?_, id⟩
  rw [core_setCore]
  split
  · rename_i h; subst h; exact ⟨_, _, rfl⟩
  · exact ⟨_, _, rfl⟩

/-! ### Translation (12 R293 to R299) -/

theorem touch_fillTlb1 (d : Device) (c : Nat) (l : Leaf) : d.Touch (fillTlb1 d c l) := touch_setCore d c _ _

theorem touch_fillTlb (d : Device) (c : Nat) (l : Leaf) : d.Touch (fillTlb d c l) :=
  (touch_fillTlb1 d c l).trans (.of_eq ⟨_, _, _, _, _, _, _, _, _, _, _, _, rfl⟩ id)

theorem touch_afterWalk (d : Device) (c : Nat) (w : Walk) : d.Touch (d.afterWalk c w) :=
  (touch_foldl readEntry (fun d _ => ((times_touchL2 d _ _ _ _).trans (times_readTime _ _ _)).touch) w.reads d).trans
    (.of_eq ⟨_, _, _, _, _, _, _, _, _, _, _, _, rfl⟩ id)

theorem touch_share (d : Device) (c : Nat) (w : Walk) (e : Device) : e.Touch (d.share c w e) :=
  .of_eq ⟨_, _, _, _, _, _, _, _, _, _, _, _, rfl⟩ id

/-- A translation leaves what lookups and a walk leave: memory is as it was. -/
theorem touch_translate (d : Device) (who : Asker) (c : Nat) (sp : Nat × Nat) (va : Word64) : d.Touch (translate d who c sp va).2 := by
  unfold translate missTlb
  split
  · exact .refl d
  · split
    · exact .refl d
    · split
      · exact touch_fillTlb1 d c _
      · split
        · exact touch_fillTlb d c _
        · split
          · split
            · exact .refl d
            · unfold ask
              split
              · exact .refl d
              · exact .of_eq ⟨_, _, _, _, _, _, _, _, _, _, _, _, rfl⟩ id
          · dsimp only
            split
            · exact .refl d
            · have h := (touch_afterWalk d c (walk d c sp va)).trans (touch_share d c (walk d c sp va) _)
              split
              · exact h.trans (touch_fillTlb _ c _)
              · exact h

theorem touch_element (d : Device) (who : Asker) (c : Nat) (sp : Nat × Nat) (a : Acc) (mis : Bool) (va : Word64) (n : Nat) :
    d.Touch (element d who c sp a mis va n).2 := by
  have h := touch_translate d who c sp va
  have g (b : Bool) : d.Touch (if b then translate d who c sp va
      else translate (translate d who c sp va).2 who c sp (va + BitVec.ofNat 64 (n - 1))).2 := by
    split
    · exact h
    · exact h.trans (touch_translate _ who c sp _)
  exact g _

theorem touch_reachGo (who : Asker) (c : Nat) (sp : Nat × Nat) (a : Acc) :
    ∀ (l : List (Word64 × Nat)) (d : Device), d.Touch (reachGo who c sp a l d).2
  | [], d => .refl d
  | x :: l, d => by
    have h := touch_element d who c sp a false x.1 x.2
    unfold reachGo
    rcases he : element d who c sp a false x.1 x.2 with ⟨_ | b, d1⟩ <;> rw [he] at h
    · exact h
    · have g := touch_reachGo who c sp a l d1
      dsimp only
      rcases hr : reachGo who c sp a l d1 with ⟨_ | r, d2⟩ <;> rw [hr] at g <;> exact h.trans g

theorem touch_reach (d : Device) (c : Nat) (sp : Nat × Nat) (a : Acc) (va : Word64) (n : Nat) : d.Touch (reach d c sp a va n).2 :=
  touch_reachGo _ c sp a _ d

theorem touch_l1Put (d : Device) (core : Nat) (x : L1Line) : d.Touch (d.l1Put core x) := touch_setCore d _ _ _

theorem touch_farFill (d : Device) (core line policy : Nat) (ca : Bool) : d.Touch (d.farFill core line policy ca) := by
  have h (e : Device) (he : d.Touch e) : d.Touch (if decide (policy = 0) || (e.l1Find core line).isSome then
      e.l1Put core (e.copyOf line (BitVec.ofNat 64 e.pulse) 0) else e) := by
    split
    · exact he.trans (touch_l1Put _ _ _)
    · exact he
  refine h _ ?_
  split
  · exact (times_fillL2 d _ _ _ _).touch
  · exact .refl d

theorem touch_readLine (d : Device) (c : Nat) (t : Word64) (x : Nat × Leaf) : d.Touch (d.readLine c t x).2 := by
  unfold readLine
  dsimp only
  split
  · have h := (times_readAt d x.1 (pageAt x.1 x.2.kind x.2.policy x.2.ca) t).touch
    dsimp only
    split
    · exact h
    · exact h.trans (touch_farFill _ _ _ _ _)
  · exact touch_farFill _ _ _ _ _

theorem touch_readLines (c : Nat) (d : Device) (t : Word64) (l : List (Nat × Leaf)) : d.Touch (d.readLines c t l).2 := by
  unfold readLines
  suffices h : ∀ (l : List (Nat × Leaf)) (x : Word64 × Device), x.2.Touch ((l.foldl (fun x y =>
      let r := x.2.readLine c t y; (tmax d.pulse x.1 r.1, r.2)) x).2) from h l (t, d)
  intro l
  induction l with
  | nil => exact fun x => .refl _
  | cons y l ih =>
    intro x
    exact (touch_readLine x.2 c t y).trans (ih (tmax d.pulse x.1 (x.2.readLine c t y).1, (x.2.readLine c t y).2))

/-- A read of the device's own leaves what lookups and loads leave. -/
theorem touch_readVa (d : Device) (c : Nat) (sp : Nat × Nat) (a : Acc) (va : Word64) (n : Nat) : d.Touch (readVa d c sp a va n).2 := by
  have h := touch_reach d c sp a va n
  unfold readVa
  rcases he : reach d c sp a va n with ⟨_ | b, d1⟩ <;> rw [he] at h
  · exact h
  · dsimp only
    split
    · exact h
    · exact h.trans (touch_readLines c d1 _ _)

theorem touch_readWord (d : Device) (c : Nat) (sp : Nat × Nat) (va : Word64) : d.Touch (readWord d c sp va).2 := touch_readVa d c sp _ va 8

theorem touch_readWords (c : Nat) (sp : Nat × Nat) : ∀ (l : List Word64) (d : Device), d.Touch (readWords d c sp l).2
  | [], d => .refl d
  | va :: l, d => by
    have h := touch_readWord d c sp va
    unfold readWords
    rcases he : readWord d c sp va with ⟨_ | w, d1⟩ <;> rw [he] at h
    · exact h
    · have g := touch_readWords c sp l d1
      dsimp only
      rcases hr : readWords d1 c sp l with ⟨_ | r, d2⟩ <;> rw [hr] at g <;> exact h.trans g

/-! ### Writes -/

theorem touch_putBytes (d : Device) (keys : List Nat) (b : List Byte) : d.Touch (d.putBytes keys b) :=
  .of_eq ⟨_, _, _, _, _, _, _, _, _, _, _, _, rfl⟩ fun h => SMap.wf_setAll _ d.mem h

theorem touch_park (d : Device) (line : Nat) (x : Parked) : d.Touch (d.park line x) := by
  unfold park
  dsimp only
  split
  · exact .of_eq ⟨_, _, _, _, _, _, _, _, _, _, _, _, rfl⟩ id
  · exact .refl d

theorem touch_writeAt (d : Device) (line : Nat) (pg : Nat × Bool) (keys : List Nat) (b : List Byte) : d.Touch (d.writeAt line pg keys b) :=
  (times_touchL2 d _ _ _ _).touch.trans ((touch_putBytes _ keys b).trans
    ((times_touchL2 _ _ _ _ _).touch.trans (times_retouch _ _).touch))

theorem touch_storeAt (d : Device) (line : Nat) (pg : Nat × Bool) (t : Word64) (keys : List Nat) (b : List Byte) :
    d.Touch (d.storeAt line pg t keys b).2 := by
  unfold storeAt
  dsimp only
  have h := (times_timeAt d line pg t).touch
  split
  · exact h.trans (touch_park _ _ _)
  · exact h.trans (touch_writeAt _ _ _ _ _)

theorem touch_l1Drop (d : Device) (core line : Nat) : d.Touch (d.l1Drop core line) := touch_setCore d _ _ _

theorem touch_farStore (d : Device) (core : Option Nat) (line : Nat) (t : Word64) (keys : List Nat) (b : List Byte) :
    d.Touch (d.farStore core line t keys b).2 := by
  have h : d.Touch (match core with | some c => (d.dropL2 line).l1Drop c line | none => d.dropL2 line) := by
    split
    · exact (times_dropL2 d line).touch.trans (touch_l1Drop _ _ _)
    · exact (times_dropL2 d line).touch
  have g (e : Device) (he : d.Touch e) : d.Touch (if e.ownKey (line * 128) then e.storeAt line (1, true) t keys b else (t, e.putBytes keys b)).2 := by
    split
    · exact he.trans (touch_storeAt ..)
    · exact he.trans (touch_putBytes ..)
  exact g _ h

theorem touch_storeLine (core : Option Nat) (t : Word64) (line : Nat) (pg : Nat × Bool) (keys : List Nat) (b : List Byte) (d : Device) :
    d.Touch (d.storeLine core t line pg keys b) := by
  unfold storeLine
  split
  · exact touch_storeAt _ _ _ _ _ _
  · exact touch_farStore _ _ _ _ _ _

/-- A store of the device's own leaves what an access leaves. -/
theorem touch_storeVa (d : Device) (core : Nat) (sp : Nat × Nat) (va : Word64) (b : List Byte) (t : Word64) :
    d.Touch (d.storeVa core sp va b t).2 := by
  have h := touch_reach d core sp .store va b.length
  unfold storeVa
  rcases he : reach d core sp .store va b.length with ⟨_ | x, d1⟩ <;> rw [he] at h
  · exact h
  · dsimp only
    split
    · exact h
    · exact h.trans (touch_foldl _ (fun d l => touch_storeLine _ _ _ _ _ _ d) _ _)

/-! ## Notes and messages -/

/-- Only what is to be traced differs. -/
def Notes (d d' : Device) : Prop := ∃ t, d' = { d with trace := t }

theorem notes_note (d : Device) (fn core ty payload : Nat) (arg : Word64) : d.Notes (d.note fn core ty payload arg) := by
  unfold note; split <;> exact ⟨_, rfl⟩

theorem notes_noteWave (d : Device) (w : Wave) (ty payload : Nat) (arg : Word64) : d.Notes (d.noteWave w ty payload arg) :=
  notes_note d _ _ _ _ _

theorem notes_noteLife (d : Device) (w : Wave) (how : Nat) : d.Notes (d.noteLife w how) := notes_note d _ _ _ _ _

theorem Notes.refl (d : Device) : d.Notes d := ⟨_, rfl⟩

theorem Notes.trans {a b c : Device} (h : a.Notes b) (g : b.Notes c) : a.Notes c := by
  obtain ⟨_, rfl⟩ := h; obtain ⟨_, rfl⟩ := g; exact ⟨_, rfl⟩

theorem notes_foldl {α : Type} (f : Device → α → Device) (h : ∀ d x, Notes d (f d x)) : ∀ (l : List α) (d : Device), d.Notes (l.foldl f d)
  | [], d => .refl d
  | x :: l, d => (h d x).trans (notes_foldl f h l (f d x))

theorem notes_noteClock (d : Device) (core mhz : Nat) : d.Notes (d.noteClock core mhz) :=
  notes_foldl _ (fun d x => by split; exact notes_note d _ _ _ _ _; exact .refl d) _ _

theorem notes_noteClocks (d : Device) (mhz : Nat) : d.Notes (d.noteClocks mhz) :=
  notes_foldl _ (fun d x => notes_noteClock d x mhz) _ _

/-- An MSI-X message leaves, or becomes pending. -/
theorem msix_frame (d : Device) (fn v : Nat) : ∃ f o, d.msix fn v = { d with fns := f, out := o } := by
  unfold msix setFn
  dsimp only
  split
  · exact ⟨_, d.out, rfl⟩
  · exact ⟨d.fns, _, rfl⟩

/-- A reliability record leaves what a store leaves, two registers and what leaves the device. -/
theorem errorRecord_frame (d : Device) (ty cls unit : Nat) (pa : Word64) (count : Nat) :
    ∃ e r f o, d.Touch e ∧ d.errorRecord ty cls unit pa count = { e with mgmt := { e.mgmt with regs := r }, fns := f, out := o } := by
  unfold errorRecord
  dsimp only
  split
  · exact ⟨d, _, _, _, .refl d, rfl⟩
  · generalize hs : d.storeVa 0 (0, 0) _ _ d.floor = s
    have h : d.Touch s.2 := hs ▸ touch_storeVa ..
    rcases s with ⟨_ | e, d1⟩
    · dsimp only
      obtain ⟨_, _, hm⟩ := msix_frame { d1 with mgmt := _ } 0 0
      rw [hm]
      exact ⟨d1, _, _, _, h, rfl⟩
    · exact ⟨d1, _, _, _, h, rfl⟩

/-! ## The context area and profile records -/

/-- The leaves of a context are found by lookups. -/
theorem touch_contextLeaves (d : Device) (core : Nat) (sp : Nat × Nat) (va : Word64) (n : Nat) : d.Touch (contextLeaves d core sp va n).2 := by
  unfold contextLeaves
  suffices h : ∀ (l : List (Word64 × Nat)) (r : List Leaf × Device), r.2.Touch ((l.foldl (fun r x =>
      if r.1.any (·.covers sp x.1) then r
      else
        match translate r.2 .unit core sp x.1 with
        | (.ok l, d) => (if (perm .store false [l]).isNone then r.1 ++ [l] else r.1, d)
        | (.error _, d) => (r.1, d)) r).2) from h _ _
  intro l
  induction l with
  | nil => exact fun r => .refl _
  | cons x l ih =>
    intro r
    refine .trans ?_ (ih _)
    dsimp only
    split
    · exact .refl _
    · have h := touch_translate r.2 .unit core sp x.1
      rcases he : translate r.2 .unit core sp x.1 with ⟨_ | l, d1⟩ <;> rw [he] at h <;> exact h

/-- A context written to its slot leaves what stores leave, and the count of free values. -/
theorem contextPut_frame (d : Device) (core launch index lo n : Nat) (val : Nat → Option Byte) :
    ∃ e k, d.Touch e ∧ d.contextPut core launch index lo n val = { e with draws := k } := by
  unfold contextPut
  split
  · exact ⟨d, _, .refl d, rfl⟩
  · rename_i va _
    have h := touch_contextLeaves d core (d.spaceOf launch) (va + BitVec.ofNat 64 lo) n
    dsimp only
    split
    · exact ⟨_, _, h, rfl⟩
    · refine ⟨_, _, h.trans (touch_foldl _ (fun d x => ?_) _ _), rfl⟩
      split
      · exact .refl d
      · split
        · exact .refl d
        · exact touch_storeLine _ _ _ _ _ _ d

theorem touch_countWord (d : Device) (core : Nat) (sp : Nat × Nat) (va t : Word64) : d.Touch (d.countWord core sp va t) := by
  have h := touch_readWord d core sp va
  unfold countWord
  rcases he : readWord d core sp va with ⟨_ | w, d1⟩ <;> rw [he] at h
  · exact h
  · exact h.trans (touch_storeVa _ _ _ _ _ _)

theorem touch_profileAt {d d' : Device} {w : Wave} {buf hd wr rd t : Word64} (h : d.profileAt w buf hd wr rd t = some d') : d.Touch d' := by
  unfold profileAt at h
  dsimp only at h
  split at h
  · cases h; exact touch_countWord ..
  · generalize hs : Device.storeVa _ _ _ _ _ _ = s at h
    have u : d.Touch s.2 := hs ▸ touch_storeVa ..
    rcases s with ⟨_ | e, d1⟩
    · cases h; exact u.trans (touch_storeVa ..)
    · dsimp only at h
      split at h
      · cases h
      · cases h; exact u

/-- A wave's profile record leaves what stores leave. -/
theorem touch_profile {d d' : Device} {w : Wave} (h : d.profile w = some d') : d.Touch d' := by
  unfold profile at h
  dsimp only at h
  split at h
  · cases h; exact .refl d
  · have t := touch_readWords w.core (d.spaceOf w.launch) [d.packetWord w.launch 8, d.packetWord w.launch 8 + 8, d.packetWord w.launch 8 + 16] d
    revert h t
    rcases readWords d w.core (d.spaceOf w.launch) _ with ⟨e | l, d1⟩ <;> intro h t
    · cases e <;> cases h <;> exact t
    · rcases l with _ | ⟨a, _ | ⟨b, _ | ⟨c, _ | ⟨x, y⟩⟩⟩⟩
      case cons.cons.cons.nil => exact t.trans (touch_profileAt h)
      all_goals cases h; exact t

end Device

end Sys2Proof.Machine
end

