-- ==== Sys2Proof/Laws/Window.lean ====
section
/-! SUPPORT. Laws of the forwarding window: what a register holds after a result has entered it (01 R32, R33, R38). -/

namespace Sys2Proof.Machine

/-! ## Banks -/

/-- The bits of a register's value that its bank keeps. -/
def clip : RegLoc → Word128 → Word128
  | .v _ _, v => (v.setWidth 32).setWidth 128
  | .s _, v => (v.setWidth 64).setWidth 128
  | .q _ _, v => v

theorem clip_clip (loc : RegLoc) (v : Word128) : clip loc (clip loc v) = clip loc v := by
  cases loc <;> simp [clip]

theorem value_eq (p : Spec) (loc : RegLoc) : p.value loc = clip loc (p.read loc) := by
  cases loc <;> rfl

/-- A bank write changes the place it names and no other. -/
theorem bankRead_bankWrite (wq : Wave × Part) (x : RegLoc × Word128) (loc : RegLoc) (h : place x.1 = place loc → x.1 = loc) :
    bankRead (bankWrite wq x).1 (bankWrite wq x).2 loc = if loc = x.1 then clip loc x.2 else bankRead wq.1 wq.2 loc := by
  obtain ⟨k, v⟩ := x
  cases k with
  | v r l =>
    cases loc with
    | v r' l' =>
      simp only [bankWrite, bankRead, SMap.get_set, place, clip, RegLoc.v.injEq, Prod.mk.injEq, true_and] at h ⊢
      by_cases hk : vkey r' l' = vkey r l
      · obtain ⟨rfl, rfl⟩ := h hk.symm; simp
      · have : ¬(r' = r ∧ l' = l) := fun e => hk (by rw [e.1, e.2])
        simp [hk, this]
    | s r' => simp [bankWrite, bankRead]
    | q r' l' => simp [bankWrite, bankRead]
  | s r =>
    cases loc with
    | s r' =>
      simp only [bankWrite, bankRead, SMap.get_set, clip, RegLoc.s.injEq]
      by_cases hk : r' = r <;> simp [hk]
    | v r' l' => simp [bankWrite, bankRead]
    | q r' l' => simp [bankWrite, bankRead]
  | q r l =>
    cases loc with
    | q r' l' =>
      simp only [bankWrite, bankRead, SMap.get_set, place, clip, RegLoc.q.injEq, Prod.mk.injEq, true_and] at h ⊢
      by_cases hk : l' * 2 + r' = l * 2 + r
      · obtain ⟨rfl, rfl⟩ := h hk.symm; simp
      · have : ¬(r' = r ∧ l' = l) := fun e => hk (by rw [e.1, e.2])
        simp [hk, this]
    | v r' l' => simp [bankWrite, bankRead]
    | s r' => simp [bankWrite, bankRead]

/-- A wave and a part without registers: what a bank write leaves alone. -/
def bare (wq : Wave × Part) : Wave × Part := (wq.1.bare, wq.2.bare)

theorem bare_bankWrite (wq : Wave × Part) (x : RegLoc × Word128) : bare (bankWrite wq x) = bare wq := by
  obtain ⟨k, v⟩ := x
  cases k <;> rfl

/-- The registers of one entry written to the banks. -/
def writeOut (wq : Wave × Part) (l : List (RegLoc × Word128)) : Wave × Part := l.foldr (fun x wq => bankWrite wq x) wq

theorem bare_writeOut (wq : Wave × Part) : ∀ l, bare (writeOut wq l) = bare wq
  | [] => rfl
  | x :: l => by
    have ih := bare_writeOut wq l
    simp only [writeOut, List.foldr_cons] at ih ⊢
    rw [bare_bankWrite, ih]

theorem bankRead_writeOut (wq : Wave × Part) (loc : RegLoc) :
    ∀ l : List (RegLoc × Word128), (∀ x ∈ l, place x.1 = place loc → x.1 = loc) →
      bankRead (writeOut wq l).1 (writeOut wq l).2 loc =
        match assoc loc l with
        | some v => clip loc v
        | none => bankRead wq.1 wq.2 loc
  | [], _ => rfl
  | (k, v) :: l, h => by
    have ih := bankRead_writeOut wq loc l (fun x hx => h x (List.mem_cons_of_mem _ hx))
    simp only [writeOut, List.foldr_cons] at ih ⊢
    rw [bankRead_bankWrite _ _ _ (h (k, v) List.mem_cons_self), ih]
    by_cases hk : loc = k
    · subst hk; simp [assoc]
    · simp [assoc, hk, Ne.symm hk]

theorem leave_cons (all : Bool) (wq : Wave × Part) (e : WEntry) (l : List WEntry) :
    leave all wq (e :: l) = if e.t && !all then leave all wq l else writeOut (leave all wq l) e.w := rfl

theorem bare_leave (all : Bool) (wq : Wave × Part) : ∀ l, bare (leave all wq l) = bare wq
  | [] => rfl
  | e :: l => by
    rw [leave_cons]
    split
    · exact bare_leave all wq l
    · rw [bare_writeOut, bare_leave all wq l]

/-- What the banks hold after entries have left, for a register that no elided entry names and that no other name aliases. -/
theorem bankRead_leave (all : Bool) (wq : Wave × Part) (loc : RegLoc) :
    ∀ l : List WEntry,
      (∀ e ∈ l, ∀ x ∈ e.w, if e.t && !all then x.1 ≠ loc else place x.1 = place loc → x.1 = loc) →
      bankRead (leave all wq l).1 (leave all wq l).2 loc =
        match look loc l with
        | some v => clip loc v
        | none => bankRead wq.1 wq.2 loc
  | [], _ => rfl
  | e :: l, h => by
    have ih := bankRead_leave all wq loc l (fun e' he => h e' (List.mem_cons_of_mem _ he))
    have h0 := h e List.mem_cons_self
    rw [leave_cons]
    by_cases ht : (e.t && !all) = true
    · simp only [ht, if_true] at h0 ⊢
      have hn : assoc loc e.w = none := by
        generalize e.w = w at h0
        induction w with
        | nil => rfl
        | cons x w ihw =>
          obtain ⟨k, v⟩ := x
          have hk : k ≠ loc := h0 (k, v) List.mem_cons_self
          simp only [assoc, if_neg hk]
          exact ihw (fun y hy => h0 y (List.mem_cons_of_mem _ hy))
      rw [ih, look, hn]
    · simp only [ht] at h0 ⊢
      simp only [Bool.false_eq_true, if_false] at h0 ⊢
      rw [bankRead_writeOut _ _ _ h0, ih, look]
      cases assoc loc e.w <;> rfl

/-! ## A result enters -/

theorem look_append (loc : RegLoc) : ∀ l m : List WEntry, look loc (l ++ m) = (look loc l).or (look loc m)
  | [], _ => rfl
  | e :: l, m => by
    simp only [List.cons_append, look]
    cases assoc loc e.w with
    | some v => rfl
    | none => exact look_append loc l m

theorem assoc_none {loc : RegLoc} : ∀ {l : List (RegLoc × Word128)}, loc ∉ l.map Prod.fst → assoc loc l = none
  | [], _ => rfl
  | (k, v) :: l, h => by
    simp only [List.map_cons, List.mem_cons, not_or] at h
    simp [assoc, Ne.symm h.1, assoc_none h.2]

theorem assoc_mem {x : RegLoc × Word128} : ∀ {l : List (RegLoc × Word128)}, (l.map Prod.fst).Nodup → x ∈ l → assoc x.1 l = some x.2
  | (k, v) :: l, hd, hx => by
    simp only [List.map_cons, List.nodup_cons] at hd
    rcases List.mem_cons.1 hx with rfl | hx
    · simp [assoc]
    · have : k ≠ x.1 := fun e => hd.1 (e ▸ List.mem_map_of_mem hx)
      simp [assoc, this, assoc_mem hd.2 hx]

theorem clip_bankRead (w : Wave) (q : Part) (loc : RegLoc) : clip loc (bankRead w q loc) = bankRead w q loc := by
  cases loc <;> simp [clip, bankRead]

/-- A pushed result is what the register then holds. -/
theorem Spec.push_value_mem (p : Spec) (t : Bool) (ws : List (RegLoc × Word128)) (hd : (ws.map Prod.fst).Nodup)
    (x : RegLoc × Word128) (hx : x ∈ ws) : (p.push t ws).value x.1 = clip x.1 x.2 := by
  rw [value_eq]
  simp [Spec.push, Spec.read, look, assoc_mem hd hx]

/-- A register that a pushed result does not name keeps its value, unless the entry that leaves loses it (01 R33). -/
theorem Spec.push_value (p : Spec) (t : Bool) (ws : List (RegLoc × Word128)) (loc : RegLoc) (h : loc ∉ ws.map Prod.fst)
    (hl : p.loses loc = false) : (p.push t ws).value loc = p.value loc := by
  have hd : ∀ e ∈ p.prt.window.drop 7, ∀ x ∈ e.w, if e.t && !false then x.1 ≠ loc else place x.1 = place loc → x.1 = loc := by
    intro e he x hx
    have h1 := List.any_eq_false.1 hl e he
    rw [Bool.not_eq_true] at h1
    have h2 := List.any_eq_false.1 h1 x hx
    cases ht : e.t with
    | false =>
      simp only [ht, Bool.false_eq_true, if_false, Bool.and_eq_true, decide_eq_true_eq, not_and, Bool.false_and] at h2 ⊢
      exact fun hp => Classical.byContradiction fun hne => h2 hne hp
    | true =>
      simp only [ht, if_true, decide_eq_true_eq, Bool.not_false, Bool.and_true] at h2 ⊢
      exact h2
  rw [value_eq, value_eq]
  have hw : (p.push t ws).prt.window = ⟨t, ws⟩ :: p.prt.window.take 7 := by simp [Spec.push]
  have hb := bankRead_leave false (p.wav, p.prt) loc (p.prt.window.drop 7) hd
  have hs : look loc p.prt.window = (look loc (p.prt.window.take 7)).or (look loc (p.prt.window.drop 7)) := by
    rw [← look_append, List.take_append_drop]
  have hr : bankRead (p.push t ws).wav (p.push t ws).prt loc =
      bankRead (Machine.leave false (p.wav, p.prt) (p.prt.window.drop 7)).1
        (Machine.leave false (p.wav, p.prt) (p.prt.window.drop 7)).2 loc := by
    cases loc <;> simp [Spec.push, bankRead]
  unfold Spec.read
  rw [hw, look, assoc_none h, hs, hr, hb]
  cases look loc (p.prt.window.take 7) with
  | some v => rfl
  | none =>
    cases look loc (p.prt.window.drop 7) with
    | some v => simp [clip_clip]
    | none => rfl

/-- A pushed result changes nothing but registers. -/
theorem Spec.push_rest (p : Spec) (t : Bool) (ws : List (RegLoc × Word128)) : (p.push t ws).rest = p.rest := by
  have h := bare_leave false (p.wav, p.prt) (((⟨t, ws⟩ : WEntry) :: p.prt.window).drop 8)
  have h1 : (p.push t ws).wav.bare = p.wav.bare := congrArg Prod.fst h
  have h2 : (p.push t ws).prt.bare = p.prt.bare := congrArg Prod.snd h
  unfold Spec.rest
  rw [h1, h2]
  rfl

end Sys2Proof.Machine
end

