-- ==== Sys2Proof/Laws/Issue.lean ====
section
/-! SUPPORT. What `issue` does, once for every encoded instruction, and what the operations that write registers give. -/

namespace Sys2Proof.Machine

/-! ## Issue -/

theorem issue_ok {i : Instr} {s : State} {p p' : Spec} {body : Spec → Res} (h : Ready i s p) (hb : body p = .ok p') :
    issue i s body = .next { s with spec := some (p.advance (width i / 8) p') } := by
  simp only [issue, h.1, h.2, hb, if_true]

theorem issue_error {i : Instr} {s : State} {p : Spec} {t : TrapInfo} {body : Spec → Res} (h : Ready i s p) (hb : body p = .error t) :
    issue i s body = .next (p.trapped i s t) := by
  simp only [issue, h.1, h.2, hb, if_true]

theorem issue_illegal {i : Instr} {s : State} {p : Spec} {body : Spec → Res} (h : s.spec = some p) (hl : legalAt p i = false) :
    issue i s body = .next (p.trapped i s illegalTrap) := by
  simp only [issue, h, hl, Bool.false_eq_true, if_false]

/-- Every instruction that is issued either goes on in the pass or ends it at a trap; the device outside the pass stays as it
stood, but for the trap and what lookups leave (01 R28, R29; 12 R298). -/
theorem issue_cases (i : Instr) (s : State) (p : Spec) (body : Spec → Res) (h : s.spec = some p) :
    (∃ p', issue i s body = .next { s with spec := some (p.advance (width i / 8) p') }) ∨
    (∃ t : TrapInfo, issue i s body = .next (p.trapped i s t)) := by
  by_cases hl : legalAt p i = true
  · cases hb : body p with
    | ok p' => exact .inl ⟨p', issue_ok ⟨h, hl⟩ hb⟩
    | error t => exact .inr ⟨t, issue_error ⟨h, hl⟩ hb⟩
  · exact .inr ⟨illegalTrap, issue_illegal h (by simpa using hl)⟩

@[simp] theorem advance_slot (p q : Spec) (n : Nat) : (p.advance n q).slot = p.slot + 1 := rfl
@[simp] theorem advance_off (p q : Spec) (n : Nat) : (p.advance n q).off = p.off + n := rfl
@[simp] theorem advance_wid (p q : Spec) (n : Nat) : (p.advance n q).wid = p.wid := rfl
@[simp] theorem advance_gid (p q : Spec) (n : Nat) : (p.advance n q).gid = p.gid := rfl
@[simp] theorem advance_quads (p q : Spec) (n : Nat) : (p.advance n q).prt.quads = p.prt.quads := rfl
@[simp] theorem advance_clause (p q : Spec) (n : Nat) : (p.advance n q).prt.clause = p.prt.clause := rfl
@[simp] theorem advance_window (p q : Spec) (n : Nat) : (p.advance n q).prt.window = q.prt.window := rfl
@[simp] theorem advance_hold (p q : Spec) (n : Nat) : (p.advance n q).hold = q.hold := rfl
@[simp] theorem advance_wav (p q : Spec) (n : Nat) : (p.advance n q).wav = q.wav := rfl
@[simp] theorem advance_grp (p q : Spec) (n : Nat) : (p.advance n q).grp = q.grp := rfl
@[simp] theorem advance_dev (p q : Spec) (n : Nat) : (p.advance n q).dev = q.dev := rfl

@[simp] theorem advance_value (p q : Spec) (n : Nat) (loc : RegLoc) : (p.advance n q).value loc = q.value loc := by
  cases loc <;> rfl

/-- A body keeps the part's quads and clause and the keys of the pass; so does every instruction of the model. -/
def Spec.SameFrame (p q : Spec) : Prop := q.gid = p.gid ∧ q.wid = p.wid ∧ q.prt.quads = p.prt.quads ∧ q.prt.clause = p.prt.clause

theorem advance_rest {p q : Spec} (n : Nat) (h : p.SameFrame q) : (p.advance n q).rest = q.rest := by
  obtain ⟨h1, h2, h3, h4⟩ := h
  simp only [Spec.advance, Spec.rest, Part.bare, ← h1, ← h2, ← h3, ← h4]

theorem SameFrame.of_rest {p q : Spec} (h : q.rest = p.rest) : p.SameFrame q := by
  have h1 : q.rest.gid = p.rest.gid := by rw [h]
  have h2 : q.rest.wid = p.rest.wid := by rw [h]
  have h3 : q.rest.prt.quads = p.rest.prt.quads := by rw [h]
  have h4 : q.rest.prt.clause = p.rest.prt.clause := by rw [h]
  exact ⟨h1, h2, h3, h4⟩

/-- A body that pushes one result gives it, and changes nothing else. -/
theorem gives_push {i : Instr} {s : State} {p : Spec} {body : Spec → Res} {t : Bool} {ws vs : List (RegLoc × Word128)}
    (h : Ready i s p) (he : exec i s = issue i s body) (hb : body p = .ok (p.push t ws)) (hd : (ws.map Prod.fst).Nodup)
    (hv : vs = ws.map fun x => (x.1, clip x.1 x.2)) : Gives i s p p vs := by
  refine ⟨_, ⟨he.trans (issue_ok h hb), rfl, rfl⟩, ?_, ?_, ?_⟩
  · rw [advance_rest _ (SameFrame.of_rest (p.push_rest t ws)), p.push_rest]
  · subst hv
    intro x hx
    obtain ⟨y, hy, rfl⟩ := List.mem_map.1 hx
    rw [advance_value, p.push_value_mem t ws hd y hy]
  · subst hv
    intro loc hn hl
    rw [advance_value, p.push_value t ws loc (by simpa using hn) hl]

/-- A body that pushes one result and sets FPX bits. -/
theorem gives_push_fpx {i : Instr} {s : State} {p : Spec} {body : Spec → Res} {t : Bool} {ws vs : List (RegLoc × Word128)} {x : Fx}
    (h : Ready i s p) (he : exec i s = issue i s body) (hb : body p = .ok ((p.push t ws).setFpx x)) (hd : (ws.map Prod.fst).Nodup)
    (hv : vs = ws.map fun x => (x.1, clip x.1 x.2)) : Gives i s p (p.setFpx x) vs := by
  have hr : ((p.push t ws).setFpx x).rest = (p.setFpx x).rest := by
    have h0 := p.push_rest t ws
    have h1 : (p.push t ws).wav.bare = p.wav.bare := congrArg (fun q : Spec => q.wav) h0
    have h2 : (p.push t ws).prt.bare = p.prt.bare := congrArg (fun q : Spec => q.prt) h0
    have h3 : (p.push t ws).wav.bare.fpx = p.wav.bare.fpx := by rw [h1]
    replace h3 : (p.push t ws).wav.fpx = p.wav.fpx := h3
    have h4 : ({ (p.push t ws).wav with fpx := (p.push t ws).wav.fpx ||| x.setWidth 64 } : Wave).bare =
        ({ p.wav with fpx := p.wav.fpx ||| x.setWidth 64 } : Wave).bare := by
      rw [h3]
      exact congrArg (fun w : Wave => { w with fpx := p.wav.fpx ||| x.setWidth 64 }) h1
    unfold Spec.setFpx Spec.rest
    simp only [h2, h4]
    rfl
  have hf : p.SameFrame ((p.push t ws).setFpx x) := SameFrame.of_rest (p := p.setFpx x) hr
  have hval : ∀ loc, ((p.push t ws).setFpx x).value loc = (p.push t ws).value loc := fun loc => by cases loc <;> rfl
  refine ⟨_, ⟨he.trans (issue_ok h hb), rfl, rfl⟩, ?_, ?_, ?_⟩
  · rw [advance_rest _ hf, hr]
  · subst hv
    intro y hy
    obtain ⟨z, hz, rfl⟩ := List.mem_map.1 hy
    rw [advance_value, hval, p.push_value_mem t ws hd z hz]
  · subst hv
    intro loc hn hl
    rw [advance_value, hval, p.push_value t ws loc (by simpa using hn) hl]

end Sys2Proof.Machine
end

