-- ==== Sys2Proof/Laws/PerInstr.lean ====
section
/-! SUPPORT. One lemma per instruction: the words that the encoding tables give fit their length (03 R85, R86). -/

namespace Sys2Proof.Laws

namespace WordFits

/-- The word of an instruction fits its length. -/
def Statement (i : Instr) : Prop := word i < 2 ^ width i

theorem vmov16 (fs : BitVec 5) (fd : BitVec 6) : Statement (.vmov16 fs fd) := by
  have h : 0x0 + fs.toNat * 0x800 + fd.toNat * 0x20 < 65536 := by omega
  exact h

theorem vadd16 (fs : BitVec 5) (fd : BitVec 6) : Statement (.vadd16 fs fd) := by
  have h : 0x2 + fs.toNat * 0x800 + fd.toNat * 0x20 < 65536 := by omega
  exact h

theorem vsub16 (fs : BitVec 5) (fd : BitVec 6) : Statement (.vsub16 fs fd) := by
  have h : 0x4 + fs.toNat * 0x800 + fd.toNat * 0x20 < 65536 := by omega
  exact h

theorem vmullo16 (fs : BitVec 5) (fd : BitVec 6) : Statement (.vmullo16 fs fd) := by
  have h : 0x6 + fs.toNat * 0x800 + fd.toNat * 0x20 < 65536 := by omega
  exact h

theorem vand16 (fs : BitVec 5) (fd : BitVec 6) : Statement (.vand16 fs fd) := by
  have h : 0x8 + fs.toNat * 0x800 + fd.toNat * 0x20 < 65536 := by omega
  exact h

theorem vor16 (fs : BitVec 5) (fd : BitVec 6) : Statement (.vor16 fs fd) := by
  have h : 0xa + fs.toNat * 0x800 + fd.toNat * 0x20 < 65536 := by omega
  exact h

theorem vxor16 (fs : BitVec 5) (fd : BitVec 6) : Statement (.vxor16 fs fd) := by
  have h : 0xc + fs.toNat * 0x800 + fd.toNat * 0x20 < 65536 := by omega
  exact h

theorem vshl16 (fs : BitVec 5) (fd : BitVec 6) : Statement (.vshl16 fs fd) := by
  have h : 0xe + fs.toNat * 0x800 + fd.toNat * 0x20 < 65536 := by omega
  exact h

theorem vshrl16 (fs : BitVec 5) (fd : BitVec 6) : Statement (.vshrl16 fs fd) := by
  have h : 0x10 + fs.toNat * 0x800 + fd.toNat * 0x20 < 65536 := by omega
  exact h

theorem vshra16 (fs : BitVec 5) (fd : BitVec 6) : Statement (.vshra16 fs fd) := by
  have h : 0x12 + fs.toNat * 0x800 + fd.toNat * 0x20 < 65536 := by omega
  exact h

theorem vaddF3216 (fs : BitVec 5) (fd : BitVec 6) : Statement (.vaddF3216 fs fd) := by
  have h : 0x14 + fs.toNat * 0x800 + fd.toNat * 0x20 < 65536 := by omega
  exact h

theorem vsubF3216 (fs : BitVec 5) (fd : BitVec 6) : Statement (.vsubF3216 fs fd) := by
  have h : 0x16 + fs.toNat * 0x800 + fd.toNat * 0x20 < 65536 := by omega
  exact h

theorem vmulF3216 (fs : BitVec 5) (fd : BitVec 6) : Statement (.vmulF3216 fs fd) := by
  have h : 0x18 + fs.toNat * 0x800 + fd.toNat * 0x20 < 65536 := by omega
  exact h

theorem vmaxF3216 (fs : BitVec 5) (fd : BitVec 6) : Statement (.vmaxF3216 fs fd) := by
  have h : 0x1a + fs.toNat * 0x800 + fd.toNat * 0x20 < 65536 := by omega
  exact h

theorem vminF3216 (fs : BitVec 5) (fd : BitVec 6) : Statement (.vminF3216 fs fd) := by
  have h : 0x1c + fs.toNat * 0x800 + fd.toNat * 0x20 < 65536 := by omega
  exact h

theorem vmax16 (fs : BitVec 5) (fd : BitVec 6) : Statement (.vmax16 fs fd) := by
  have h : 0x1e + fs.toNat * 0x800 + fd.toNat * 0x20 < 65536 := by omega
  exact h

theorem vaddF32 (fr : BitVec 3) (fb : BitVec 7) (fa : BitVec 7) (fd : BitVec 7) (ft : BitVec 1) : Statement (.vaddF32 fr fb fa fd ft) := by
  have h : 0x1 + fr.toNat * 0x20000000 + fb.toNat * 0x400000 + fa.toNat * 0x8000 + fd.toNat * 0x100 + ft.toNat * 0x80 < 4294967296 := by omega
  exact h

theorem vsubF32 (fr : BitVec 3) (fb : BitVec 7) (fa : BitVec 7) (fd : BitVec 7) (ft : BitVec 1) : Statement (.vsubF32 fr fb fa fd ft) := by
  have h : 0x3 + fr.toNat * 0x20000000 + fb.toNat * 0x400000 + fa.toNat * 0x8000 + fd.toNat * 0x100 + ft.toNat * 0x80 < 4294967296 := by omega
  exact h

theorem vmulF32 (fr : BitVec 3) (fb : BitVec 7) (fa : BitVec 7) (fd : BitVec 7) (ft : BitVec 1) : Statement (.vmulF32 fr fb fa fd ft) := by
  have h : 0x5 + fr.toNat * 0x20000000 + fb.toNat * 0x400000 + fa.toNat * 0x8000 + fd.toNat * 0x100 + ft.toNat * 0x80 < 4294967296 := by omega
  exact h

theorem vfmaF32 (fr : BitVec 3) (fb : BitVec 7) (fa : BitVec 7) (fd : BitVec 7) (ft : BitVec 1) : Statement (.vfmaF32 fr fb fa fd ft) := by
  have h : 0x7 + fr.toNat * 0x20000000 + fb.toNat * 0x400000 + fa.toNat * 0x8000 + fd.toNat * 0x100 + ft.toNat * 0x80 < 4294967296 := by omega
  exact h

theorem vaddF16x2 (fr : BitVec 3) (fb : BitVec 7) (fa : BitVec 7) (fd : BitVec 7) (ft : BitVec 1) : Statement (.vaddF16x2 fr fb fa fd ft) := by
  have h : 0x9 + fr.toNat * 0x20000000 + fb.toNat * 0x400000 + fa.toNat * 0x8000 + fd.toNat * 0x100 + ft.toNat * 0x80 < 4294967296 := by omega
  exact h

theorem vsubF16x2 (fr : BitVec 3) (fb : BitVec 7) (fa : BitVec 7) (fd : BitVec 7) (ft : BitVec 1) : Statement (.vsubF16x2 fr fb fa fd ft) := by
  have h : 0xb + fr.toNat * 0x20000000 + fb.toNat * 0x400000 + fa.toNat * 0x8000 + fd.toNat * 0x100 + ft.toNat * 0x80 < 4294967296 := by omega
  exact h

theorem vmulF16x2 (fr : BitVec 3) (fb : BitVec 7) (fa : BitVec 7) (fd : BitVec 7) (ft : BitVec 1) : Statement (.vmulF16x2 fr fb fa fd ft) := by
  have h : 0xd + fr.toNat * 0x20000000 + fb.toNat * 0x400000 + fa.toNat * 0x8000 + fd.toNat * 0x100 + ft.toNat * 0x80 < 4294967296 := by omega
  exact h

theorem vfmaF16x2 (fr : BitVec 3) (fb : BitVec 7) (fa : BitVec 7) (fd : BitVec 7) (ft : BitVec 1) : Statement (.vfmaF16x2 fr fb fa fd ft) := by
  have h : 0xf + fr.toNat * 0x20000000 + fb.toNat * 0x400000 + fa.toNat * 0x8000 + fd.toNat * 0x100 + ft.toNat * 0x80 < 4294967296 := by omega
  exact h

theorem vaddBf16x2 (fr : BitVec 3) (fb : BitVec 7) (fa : BitVec 7) (fd : BitVec 7) (ft : BitVec 1) : Statement (.vaddBf16x2 fr fb fa fd ft) := by
  have h : 0x11 + fr.toNat * 0x20000000 + fb.toNat * 0x400000 + fa.toNat * 0x8000 + fd.toNat * 0x100 + ft.toNat * 0x80 < 4294967296 := by omega
  exact h

theorem vsubBf16x2 (fr : BitVec 3) (fb : BitVec 7) (fa : BitVec 7) (fd : BitVec 7) (ft : BitVec 1) : Statement (.vsubBf16x2 fr fb fa fd ft) := by
  have h : 0x13 + fr.toNat * 0x20000000 + fb.toNat * 0x400000 + fa.toNat * 0x8000 + fd.toNat * 0x100 + ft.toNat * 0x80 < 4294967296 := by omega
  exact h

theorem vmulBf16x2 (fr : BitVec 3) (fb : BitVec 7) (fa : BitVec 7) (fd : BitVec 7) (ft : BitVec 1) : Statement (.vmulBf16x2 fr fb fa fd ft) := by
  have h : 0x15 + fr.toNat * 0x20000000 + fb.toNat * 0x400000 + fa.toNat * 0x8000 + fd.toNat * 0x100 + ft.toNat * 0x80 < 4294967296 := by omega
  exact h

theorem vfmaBf16x2 (fr : BitVec 3) (fb : BitVec 7) (fa : BitVec 7) (fd : BitVec 7) (ft : BitVec 1) : Statement (.vfmaBf16x2 fr fb fa fd ft) := by
  have h : 0x17 + fr.toNat * 0x20000000 + fb.toNat * 0x400000 + fa.toNat * 0x8000 + fd.toNat * 0x100 + ft.toNat * 0x80 < 4294967296 := by omega
  exact h

theorem vaddF64 (fr : BitVec 3) (fb : BitVec 7) (fa : BitVec 7) (fd : BitVec 7) (ft : BitVec 1) : Statement (.vaddF64 fr fb fa fd ft) := by
  have h : 0x19 + fr.toNat * 0x20000000 + fb.toNat * 0x400000 + fa.toNat * 0x8000 + fd.toNat * 0x100 + ft.toNat * 0x80 < 4294967296 := by omega
  exact h

theorem vsubF64 (fr : BitVec 3) (fb : BitVec 7) (fa : BitVec 7) (fd : BitVec 7) (ft : BitVec 1) : Statement (.vsubF64 fr fb fa fd ft) := by
  have h : 0x1b + fr.toNat * 0x20000000 + fb.toNat * 0x400000 + fa.toNat * 0x8000 + fd.toNat * 0x100 + ft.toNat * 0x80 < 4294967296 := by omega
  exact h

theorem vmulF64 (fr : BitVec 3) (fb : BitVec 7) (fa : BitVec 7) (fd : BitVec 7) (ft : BitVec 1) : Statement (.vmulF64 fr fb fa fd ft) := by
  have h : 0x1d + fr.toNat * 0x20000000 + fb.toNat * 0x400000 + fa.toNat * 0x8000 + fd.toNat * 0x100 + ft.toNat * 0x80 < 4294967296 := by omega
  exact h

theorem vfmaF64 (fr : BitVec 3) (fb : BitVec 7) (fa : BitVec 7) (fd : BitVec 7) (ft : BitVec 1) : Statement (.vfmaF64 fr fb fa fd ft) := by
  have h : 0x1f + fr.toNat * 0x20000000 + fb.toNat * 0x400000 + fa.toNat * 0x8000 + fd.toNat * 0x100 + ft.toNat * 0x80 < 4294967296 := by omega
  exact h

theorem vadd (fb : BitVec 7) (fa : BitVec 7) (fd : BitVec 7) (ft : BitVec 1) : Statement (.vadd fb fa fd ft) := by
  have h : 0x21 + fb.toNat * 0x400000 + fa.toNat * 0x8000 + fd.toNat * 0x100 + ft.toNat * 0x80 < 4294967296 := by omega
  exact h

theorem vsub (fb : BitVec 7) (fa : BitVec 7) (fd : BitVec 7) (ft : BitVec 1) : Statement (.vsub fb fa fd ft) := by
  have h : 0x20000021 + fb.toNat * 0x400000 + fa.toNat * 0x8000 + fd.toNat * 0x100 + ft.toNat * 0x80 < 4294967296 := by omega
  exact h

theorem vmullo (fb : BitVec 7) (fa : BitVec 7) (fd : BitVec 7) (ft : BitVec 1) : Statement (.vmullo fb fa fd ft) := by
  have h : 0x40000021 + fb.toNat * 0x400000 + fa.toNat * 0x8000 + fd.toNat * 0x100 + ft.toNat * 0x80 < 4294967296 := by omega
  exact h

theorem vmulhi (fb : BitVec 7) (fa : BitVec 7) (fd : BitVec 7) (ft : BitVec 1) : Statement (.vmulhi fb fa fd ft) := by
  have h : 0x60000021 + fb.toNat * 0x400000 + fa.toNat * 0x8000 + fd.toNat * 0x100 + ft.toNat * 0x80 < 4294967296 := by omega
  exact h

theorem vmulhu (fb : BitVec 7) (fa : BitVec 7) (fd : BitVec 7) (ft : BitVec 1) : Statement (.vmulhu fb fa fd ft) := by
  have h : 0x80000021 + fb.toNat * 0x400000 + fa.toNat * 0x8000 + fd.toNat * 0x100 + ft.toNat * 0x80 < 4294967296 := by omega
  exact h

theorem vmad (fb : BitVec 7) (fa : BitVec 7) (fd : BitVec 7) (ft : BitVec 1) : Statement (.vmad fb fa fd ft) := by
  have h : 0xa0000021 + fb.toNat * 0x400000 + fa.toNat * 0x8000 + fd.toNat * 0x100 + ft.toNat * 0x80 < 4294967296 := by omega
  exact h

theorem vaddsat (fb : BitVec 7) (fa : BitVec 7) (fd : BitVec 7) (ft : BitVec 1) : Statement (.vaddsat fb fa fd ft) := by
  have h : 0xc0000021 + fb.toNat * 0x400000 + fa.toNat * 0x8000 + fd.toNat * 0x100 + ft.toNat * 0x80 < 4294967296 := by omega
  exact h

theorem vsubsat (fb : BitVec 7) (fa : BitVec 7) (fd : BitVec 7) (ft : BitVec 1) : Statement (.vsubsat fb fa fd ft) := by
  have h : 0xe0000021 + fb.toNat * 0x400000 + fa.toNat * 0x8000 + fd.toNat * 0x100 + ft.toNat * 0x80 < 4294967296 := by omega
  exact h

theorem vmin (fb : BitVec 7) (fa : BitVec 7) (fd : BitVec 7) (ft : BitVec 1) : Statement (.vmin fb fa fd ft) := by
  have h : 0x23 + fb.toNat * 0x400000 + fa.toNat * 0x8000 + fd.toNat * 0x100 + ft.toNat * 0x80 < 4294967296 := by omega
  exact h

theorem vmax (fb : BitVec 7) (fa : BitVec 7) (fd : BitVec 7) (ft : BitVec 1) : Statement (.vmax fb fa fd ft) := by
  have h : 0x20000023 + fb.toNat * 0x400000 + fa.toNat * 0x8000 + fd.toNat * 0x100 + ft.toNat * 0x80 < 4294967296 := by omega
  exact h

theorem vminu (fb : BitVec 7) (fa : BitVec 7) (fd : BitVec 7) (ft : BitVec 1) : Statement (.vminu fb fa fd ft) := by
  have h : 0x40000023 + fb.toNat * 0x400000 + fa.toNat * 0x8000 + fd.toNat * 0x100 + ft.toNat * 0x80 < 4294967296 := by omega
  exact h

theorem vmaxu (fb : BitVec 7) (fa : BitVec 7) (fd : BitVec 7) (ft : BitVec 1) : Statement (.vmaxu fb fa fd ft) := by
  have h : 0x60000023 + fb.toNat * 0x400000 + fa.toNat * 0x8000 + fd.toNat * 0x100 + ft.toNat * 0x80 < 4294967296 := by omega
  exact h

theorem vand (fb : BitVec 7) (fa : BitVec 7) (fd : BitVec 7) (ft : BitVec 1) : Statement (.vand fb fa fd ft) := by
  have h : 0x80000023 + fb.toNat * 0x400000 + fa.toNat * 0x8000 + fd.toNat * 0x100 + ft.toNat * 0x80 < 4294967296 := by omega
  exact h

theorem vor (fb : BitVec 7) (fa : BitVec 7) (fd : BitVec 7) (ft : BitVec 1) : Statement (.vor fb fa fd ft) := by
  have h : 0xa0000023 + fb.toNat * 0x400000 + fa.toNat * 0x8000 + fd.toNat * 0x100 + ft.toNat * 0x80 < 4294967296 := by omega
  exact h

theorem vxor (fb : BitVec 7) (fa : BitVec 7) (fd : BitVec 7) (ft : BitVec 1) : Statement (.vxor fb fa fd ft) := by
  have h : 0xc0000023 + fb.toNat * 0x400000 + fa.toNat * 0x8000 + fd.toNat * 0x100 + ft.toNat * 0x80 < 4294967296 := by omega
  exact h

theorem vandn (fb : BitVec 7) (fa : BitVec 7) (fd : BitVec 7) (ft : BitVec 1) : Statement (.vandn fb fa fd ft) := by
  have h : 0xe0000023 + fb.toNat * 0x400000 + fa.toNat * 0x8000 + fd.toNat * 0x100 + ft.toNat * 0x80 < 4294967296 := by omega
  exact h

theorem vshl (fb : BitVec 7) (fa : BitVec 7) (fd : BitVec 7) (ft : BitVec 1) : Statement (.vshl fb fa fd ft) := by
  have h : 0x25 + fb.toNat * 0x400000 + fa.toNat * 0x8000 + fd.toNat * 0x100 + ft.toNat * 0x80 < 4294967296 := by omega
  exact h

theorem vshrl (fb : BitVec 7) (fa : BitVec 7) (fd : BitVec 7) (ft : BitVec 1) : Statement (.vshrl fb fa fd ft) := by
  have h : 0x20000025 + fb.toNat * 0x400000 + fa.toNat * 0x8000 + fd.toNat * 0x100 + ft.toNat * 0x80 < 4294967296 := by omega
  exact h

theorem vshra (fb : BitVec 7) (fa : BitVec 7) (fd : BitVec 7) (ft : BitVec 1) : Statement (.vshra fb fa fd ft) := by
  have h : 0x40000025 + fb.toNat * 0x400000 + fa.toNat * 0x8000 + fd.toNat * 0x100 + ft.toNat * 0x80 < 4294967296 := by omega
  exact h

theorem vrotl (fb : BitVec 7) (fa : BitVec 7) (fd : BitVec 7) (ft : BitVec 1) : Statement (.vrotl fb fa fd ft) := by
  have h : 0x60000025 + fb.toNat * 0x400000 + fa.toNat * 0x8000 + fd.toNat * 0x100 + ft.toNat * 0x80 < 4294967296 := by omega
  exact h

theorem vpopc (fa : BitVec 7) (fd : BitVec 7) (ft : BitVec 1) : Statement (.vpopc fa fd ft) := by
  have h : 0x80000025 + fa.toNat * 0x8000 + fd.toNat * 0x100 + ft.toNat * 0x80 < 4294967296 := by omega
  exact h

theorem vclz (fa : BitVec 7) (fd : BitVec 7) (ft : BitVec 1) : Statement (.vclz fa fd ft) := by
  have h : 0xa0000025 + fa.toNat * 0x8000 + fd.toNat * 0x100 + ft.toNat * 0x80 < 4294967296 := by omega
  exact h

theorem vbrev (fa : BitVec 7) (fd : BitVec 7) (ft : BitVec 1) : Statement (.vbrev fa fd ft) := by
  have h : 0xc0000025 + fa.toNat * 0x8000 + fd.toNat * 0x100 + ft.toNat * 0x80 < 4294967296 := by omega
  exact h

theorem vabs (fa : BitVec 7) (fd : BitVec 7) (ft : BitVec 1) : Statement (.vabs fa fd ft) := by
  have h : 0xe0000025 + fa.toNat * 0x8000 + fd.toNat * 0x100 + ft.toNat * 0x80 < 4294967296 := by omega
  exact h

theorem vaddi (fi : BitVec 7) (fa : BitVec 7) (fd : BitVec 7) (ft : BitVec 1) : Statement (.vaddi fi fa fd ft) := by
  have h : 0x27 + fi.toNat * 0x2000000 + fa.toNat * 0x8000 + fd.toNat * 0x100 + ft.toNat * 0x80 < 4294967296 := by omega
  exact h

theorem vshli (fi : BitVec 5) (fa : BitVec 7) (fd : BitVec 7) (ft : BitVec 1) : Statement (.vshli fi fa fd ft) := by
  have h : 0x400027 + fi.toNat * 0x2000000 + fa.toNat * 0x8000 + fd.toNat * 0x100 + ft.toNat * 0x80 < 4294967296 := by omega
  exact h

theorem vshrli (fi : BitVec 5) (fa : BitVec 7) (fd : BitVec 7) (ft : BitVec 1) : Statement (.vshrli fi fa fd ft) := by
  have h : 0x800027 + fi.toNat * 0x2000000 + fa.toNat * 0x8000 + fd.toNat * 0x100 + ft.toNat * 0x80 < 4294967296 := by omega
  exact h

theorem vshrai (fi : BitVec 5) (fa : BitVec 7) (fd : BitVec 7) (ft : BitVec 1) : Statement (.vshrai fi fa fd ft) := by
  have h : 0xc00027 + fi.toNat * 0x2000000 + fa.toNat * 0x8000 + fd.toNat * 0x100 + ft.toNat * 0x80 < 4294967296 := by omega
  exact h

theorem vandi (fi : BitVec 7) (fa : BitVec 7) (fd : BitVec 7) (ft : BitVec 1) : Statement (.vandi fi fa fd ft) := by
  have h : 0x1000027 + fi.toNat * 0x2000000 + fa.toNat * 0x8000 + fd.toNat * 0x100 + ft.toNat * 0x80 < 4294967296 := by omega
  exact h

theorem vori (fi : BitVec 7) (fa : BitVec 7) (fd : BitVec 7) (ft : BitVec 1) : Statement (.vori fi fa fd ft) := by
  have h : 0x1400027 + fi.toNat * 0x2000000 + fa.toNat * 0x8000 + fd.toNat * 0x100 + ft.toNat * 0x80 < 4294967296 := by omega
  exact h

theorem vxori (fi : BitVec 7) (fa : BitVec 7) (fd : BitVec 7) (ft : BitVec 1) : Statement (.vxori fi fa fd ft) := by
  have h : 0x1800027 + fi.toNat * 0x2000000 + fa.toNat * 0x8000 + fd.toNat * 0x100 + ft.toNat * 0x80 < 4294967296 := by omega
  exact h

theorem vmuli (fi : BitVec 7) (fa : BitVec 7) (fd : BitVec 7) (ft : BitVec 1) : Statement (.vmuli fi fa fd ft) := by
  have h : 0x1c00027 + fi.toNat * 0x2000000 + fa.toNat * 0x8000 + fd.toNat * 0x100 + ft.toNat * 0x80 < 4294967296 := by omega
  exact h

theorem vmovi (fi : BitVec 17) (fd : BitVec 7) (ft : BitVec 1) : Statement (.vmovi fi fd ft) := by
  have h : 0x29 + fi.toNat * 0x8000 + fd.toNat * 0x100 + ft.toNat * 0x80 < 4294967296 := by omega
  exact h

theorem vmovs (fa : BitVec 6) (fd : BitVec 7) (ft : BitVec 1) : Statement (.vmovs fa fd ft) := by
  have h : 0x2b + fa.toNat * 0x8000 + fd.toNat * 0x100 + ft.toNat * 0x80 < 4294967296 := by omega
  exact h

theorem vmovsh (fa : BitVec 6) (fd : BitVec 7) (ft : BitVec 1) : Statement (.vmovsh fa fd ft) := by
  have h : 0x2000002b + fa.toNat * 0x8000 + fd.toNat * 0x100 + ft.toNat * 0x80 < 4294967296 := by omega
  exact h

theorem vlane (fd : BitVec 7) (ft : BitVec 1) : Statement (.vlane fd ft) := by
  have h : 0x4000002b + fd.toNat * 0x100 + ft.toNat * 0x80 < 4294967296 := by omega
  exact h

theorem vgetl (fb : BitVec 6) (fa : BitVec 7) (fd : BitVec 6) (ft : BitVec 1) : Statement (.vgetl fb fa fd ft) := by
  have h : 0x6000002b + fb.toNat * 0x400000 + fa.toNat * 0x8000 + fd.toNat * 0x100 + ft.toNat * 0x80 < 4294967296 := by omega
  exact h

theorem vsetl (fb : BitVec 6) (fa : BitVec 6) (fd : BitVec 7) (ft : BitVec 1) : Statement (.vsetl fb fa fd ft) := by
  have h : 0x8000002b + fb.toNat * 0x400000 + fa.toNat * 0x8000 + fd.toNat * 0x100 + ft.toNat * 0x80 < 4294967296 := by omega
  exact h

theorem vcmp (fc : BitVec 3) (fb : BitVec 7) (fa : BitVec 7) (fd : BitVec 6) (ft : BitVec 1) : Statement (.vcmp fc fb fa fd ft) := by
  have h : 0x2d + fc.toNat * 0x20000000 + fb.toNat * 0x400000 + fa.toNat * 0x8000 + fd.toNat * 0x100 + ft.toNat * 0x80 < 4294967296 := by omega
  exact h

theorem vcmpf (fc : BitVec 3) (fb : BitVec 7) (fa : BitVec 7) (fd : BitVec 6) (ft : BitVec 1) : Statement (.vcmpf fc fb fa fd ft) := by
  have h : 0x2f + fc.toNat * 0x20000000 + fb.toNat * 0x400000 + fa.toNat * 0x8000 + fd.toNat * 0x100 + ft.toNat * 0x80 < 4294967296 := by omega
  exact h

theorem vsel (fm : BitVec 3) (fb : BitVec 7) (fa : BitVec 7) (fd : BitVec 7) (ft : BitVec 1) : Statement (.vsel fm fb fa fd ft) := by
  have h : 0x31 + fm.toNat * 0x20000000 + fb.toNat * 0x400000 + fa.toNat * 0x8000 + fd.toNat * 0x100 + ft.toNat * 0x80 < 4294967296 := by omega
  exact h

theorem vbfxu (fw : BitVec 5) (fo : BitVec 5) (fa : BitVec 7) (fd : BitVec 7) (ft : BitVec 1) : Statement (.vbfxu fw fo fa fd ft) := by
  have h : 0x33 + fw.toNat * 0x8000000 + fo.toNat * 0x400000 + fa.toNat * 0x8000 + fd.toNat * 0x100 + ft.toNat * 0x80 < 4294967296 := by omega
  exact h

theorem vbfx (fw : BitVec 5) (fo : BitVec 5) (fa : BitVec 7) (fd : BitVec 7) (ft : BitVec 1) : Statement (.vbfx fw fo fa fd ft) := by
  have h : 0x35 + fw.toNat * 0x8000000 + fo.toNat * 0x400000 + fa.toNat * 0x8000 + fd.toNat * 0x100 + ft.toNat * 0x80 < 4294967296 := by omega
  exact h

theorem vbfi (fw : BitVec 5) (fo : BitVec 5) (fa : BitVec 7) (fd : BitVec 7) (ft : BitVec 1) : Statement (.vbfi fw fo fa fd ft) := by
  have h : 0x37 + fw.toNat * 0x8000000 + fo.toNat * 0x400000 + fa.toNat * 0x8000 + fd.toNat * 0x100 + ft.toNat * 0x80 < 4294967296 := by omega
  exact h

theorem vcvt (fs : BitVec 1) (fy : BitVec 3) (fx : BitVec 3) (fr : BitVec 3) (fa : BitVec 7) (fd : BitVec 7) (ft : BitVec 1) : Statement (.vcvt fs fy fx fr fa fd ft) := by
  have h : 0x39 + fs.toNat * 0x80000000 + fy.toNat * 0x10000000 + fx.toNat * 0x2000000 + fr.toNat * 0x400000 + fa.toNat * 0x8000 + fd.toNat * 0x100 + ft.toNat * 0x80 < 4294967296 := by omega
  exact h

theorem vpkF16 (fb : BitVec 7) (fa : BitVec 7) (fd : BitVec 7) (ft : BitVec 1) : Statement (.vpkF16 fb fa fd ft) := by
  have h : 0x3b + fb.toNat * 0x400000 + fa.toNat * 0x8000 + fd.toNat * 0x100 + ft.toNat * 0x80 < 4294967296 := by omega
  exact h

theorem vpkBf16 (fb : BitVec 7) (fa : BitVec 7) (fd : BitVec 7) (ft : BitVec 1) : Statement (.vpkBf16 fb fa fd ft) := by
  have h : 0x2000003b + fb.toNat * 0x400000 + fa.toNat * 0x8000 + fd.toNat * 0x100 + ft.toNat * 0x80 < 4294967296 := by omega
  exact h

theorem vpkb (fb : BitVec 7) (fa : BitVec 7) (fd : BitVec 7) (ft : BitVec 1) : Statement (.vpkb fb fa fd ft) := by
  have h : 0x4000003b + fb.toNat * 0x400000 + fa.toNat * 0x8000 + fd.toNat * 0x100 + ft.toNat * 0x80 < 4294967296 := by omega
  exact h

theorem vpkbh (fb : BitVec 7) (fa : BitVec 7) (fd : BitVec 7) (ft : BitVec 1) : Statement (.vpkbh fb fa fd ft) := by
  have h : 0x6000003b + fb.toNat * 0x400000 + fa.toNat * 0x8000 + fd.toNat * 0x100 + ft.toNat * 0x80 < 4294967296 := by omega
  exact h

theorem vupkF16l (fa : BitVec 7) (fd : BitVec 7) (ft : BitVec 1) : Statement (.vupkF16l fa fd ft) := by
  have h : 0x8000003b + fa.toNat * 0x8000 + fd.toNat * 0x100 + ft.toNat * 0x80 < 4294967296 := by omega
  exact h

theorem vupkF16h (fa : BitVec 7) (fd : BitVec 7) (ft : BitVec 1) : Statement (.vupkF16h fa fd ft) := by
  have h : 0xa000003b + fa.toNat * 0x8000 + fd.toNat * 0x100 + ft.toNat * 0x80 < 4294967296 := by omega
  exact h

theorem vupkBf16l (fa : BitVec 7) (fd : BitVec 7) (ft : BitVec 1) : Statement (.vupkBf16l fa fd ft) := by
  have h : 0xc000003b + fa.toNat * 0x8000 + fd.toNat * 0x100 + ft.toNat * 0x80 < 4294967296 := by omega
  exact h

theorem vupkBf16h (fa : BitVec 7) (fd : BitVec 7) (ft : BitVec 1) : Statement (.vupkBf16h fa fd ft) := by
  have h : 0xe000003b + fa.toNat * 0x8000 + fd.toNat * 0x100 + ft.toNat * 0x80 < 4294967296 := by omega
  exact h

theorem vrcp (fa : BitVec 7) (fd : BitVec 7) (ft : BitVec 1) : Statement (.vrcp fa fd ft) := by
  have h : 0x3d + fa.toNat * 0x8000 + fd.toNat * 0x100 + ft.toNat * 0x80 < 4294967296 := by omega
  exact h

theorem vrsq (fa : BitVec 7) (fd : BitVec 7) (ft : BitVec 1) : Statement (.vrsq fa fd ft) := by
  have h : 0x2000003d + fa.toNat * 0x8000 + fd.toNat * 0x100 + ft.toNat * 0x80 < 4294967296 := by omega
  exact h

theorem vsqrt (fa : BitVec 7) (fd : BitVec 7) (ft : BitVec 1) : Statement (.vsqrt fa fd ft) := by
  have h : 0x4000003d + fa.toNat * 0x8000 + fd.toNat * 0x100 + ft.toNat * 0x80 < 4294967296 := by omega
  exact h

theorem vexp2 (fa : BitVec 7) (fd : BitVec 7) (ft : BitVec 1) : Statement (.vexp2 fa fd ft) := by
  have h : 0x6000003d + fa.toNat * 0x8000 + fd.toNat * 0x100 + ft.toNat * 0x80 < 4294967296 := by omega
  exact h

theorem vlog2 (fa : BitVec 7) (fd : BitVec 7) (ft : BitVec 1) : Statement (.vlog2 fa fd ft) := by
  have h : 0x8000003d + fa.toNat * 0x8000 + fd.toNat * 0x100 + ft.toNat * 0x80 < 4294967296 := by omega
  exact h

theorem vsin (fa : BitVec 7) (fd : BitVec 7) (ft : BitVec 1) : Statement (.vsin fa fd ft) := by
  have h : 0xa000003d + fa.toNat * 0x8000 + fd.toNat * 0x100 + ft.toNat * 0x80 < 4294967296 := by omega
  exact h

theorem vcos (fa : BitVec 7) (fd : BitVec 7) (ft : BitVec 1) : Statement (.vcos fa fd ft) := by
  have h : 0xc000003d + fa.toNat * 0x8000 + fd.toNat * 0x100 + ft.toNat * 0x80 < 4294967296 := by omega
  exact h

theorem vtanh (fa : BitVec 7) (fd : BitVec 7) (ft : BitVec 1) : Statement (.vtanh fa fd ft) := by
  have h : 0xe000003d + fa.toNat * 0x8000 + fd.toNat * 0x100 + ft.toNat * 0x80 < 4294967296 := by omega
  exact h

theorem vminF32 (fb : BitVec 7) (fa : BitVec 7) (fd : BitVec 7) (ft : BitVec 1) : Statement (.vminF32 fb fa fd ft) := by
  have h : 0x3f + fb.toNat * 0x400000 + fa.toNat * 0x8000 + fd.toNat * 0x100 + ft.toNat * 0x80 < 4294967296 := by omega
  exact h

theorem vmaxF32 (fb : BitVec 7) (fa : BitVec 7) (fd : BitVec 7) (ft : BitVec 1) : Statement (.vmaxF32 fb fa fd ft) := by
  have h : 0x2000003f + fb.toNat * 0x400000 + fa.toNat * 0x8000 + fd.toNat * 0x100 + ft.toNat * 0x80 < 4294967296 := by omega
  exact h

theorem vminF16x2 (fb : BitVec 7) (fa : BitVec 7) (fd : BitVec 7) (ft : BitVec 1) : Statement (.vminF16x2 fb fa fd ft) := by
  have h : 0x4000003f + fb.toNat * 0x400000 + fa.toNat * 0x8000 + fd.toNat * 0x100 + ft.toNat * 0x80 < 4294967296 := by omega
  exact h

theorem vmaxF16x2 (fb : BitVec 7) (fa : BitVec 7) (fd : BitVec 7) (ft : BitVec 1) : Statement (.vmaxF16x2 fb fa fd ft) := by
  have h : 0x6000003f + fb.toNat * 0x400000 + fa.toNat * 0x8000 + fd.toNat * 0x100 + ft.toNat * 0x80 < 4294967296 := by omega
  exact h

theorem vminBf16x2 (fb : BitVec 7) (fa : BitVec 7) (fd : BitVec 7) (ft : BitVec 1) : Statement (.vminBf16x2 fb fa fd ft) := by
  have h : 0x8000003f + fb.toNat * 0x400000 + fa.toNat * 0x8000 + fd.toNat * 0x100 + ft.toNat * 0x80 < 4294967296 := by omega
  exact h

theorem vmaxBf16x2 (fb : BitVec 7) (fa : BitVec 7) (fd : BitVec 7) (ft : BitVec 1) : Statement (.vmaxBf16x2 fb fa fd ft) := by
  have h : 0xa000003f + fb.toNat * 0x400000 + fa.toNat * 0x8000 + fd.toNat * 0x100 + ft.toNat * 0x80 < 4294967296 := by omega
  exact h

theorem vcopysignF32 (fb : BitVec 7) (fa : BitVec 7) (fd : BitVec 7) (ft : BitVec 1) : Statement (.vcopysignF32 fb fa fd ft) := by
  have h : 0xc000003f + fb.toNat * 0x400000 + fa.toNat * 0x8000 + fd.toNat * 0x100 + ft.toNat * 0x80 < 4294967296 := by omega
  exact h

theorem vclassF32 (fa : BitVec 7) (fd : BitVec 7) (ft : BitVec 1) : Statement (.vclassF32 fa fd ft) := by
  have h : 0xe000003f + fa.toNat * 0x8000 + fd.toNat * 0x100 + ft.toNat * 0x80 < 4294967296 := by omega
  exact h

theorem vshuf (fb : BitVec 7) (fa : BitVec 7) (fd : BitVec 7) (ft : BitVec 1) : Statement (.vshuf fb fa fd ft) := by
  have h : 0x41 + fb.toNat * 0x400000 + fa.toNat * 0x8000 + fd.toNat * 0x100 + ft.toNat * 0x80 < 4294967296 := by omega
  exact h

theorem vswz (fc : BitVec 7) (fa : BitVec 7) (fd : BitVec 7) (ft : BitVec 1) : Statement (.vswz fc fa fd ft) := by
  have h : 0x20000041 + fc.toNat * 0x400000 + fa.toNat * 0x8000 + fd.toNat * 0x100 + ft.toNat * 0x80 < 4294967296 := by omega
  exact h

theorem vbcast (fk : BitVec 6) (fa : BitVec 7) (fd : BitVec 7) (ft : BitVec 1) : Statement (.vbcast fk fa fd ft) := by
  have h : 0x40000041 + fk.toNat * 0x400000 + fa.toNat * 0x8000 + fd.toNat * 0x100 + ft.toNat * 0x80 < 4294967296 := by omega
  exact h

theorem vscanI32 (fa : BitVec 7) (fd : BitVec 7) (ft : BitVec 1) : Statement (.vscanI32 fa fd ft) := by
  have h : 0x60000041 + fa.toNat * 0x8000 + fd.toNat * 0x100 + ft.toNat * 0x80 < 4294967296 := by omega
  exact h

theorem vscanF32 (fa : BitVec 7) (fd : BitVec 7) (ft : BitVec 1) : Statement (.vscanF32 fa fd ft) := by
  have h : 0x80000041 + fa.toNat * 0x8000 + fd.toNat * 0x100 + ft.toNat * 0x80 < 4294967296 := by omega
  exact h

theorem vconflict (fa : BitVec 7) (fd : BitVec 7) (ft : BitVec 1) : Statement (.vconflict fa fd ft) := by
  have h : 0xa0000041 + fa.toNat * 0x8000 + fd.toNat * 0x100 + ft.toNat * 0x80 < 4294967296 := by omega
  exact h

theorem vcombineF32 (fb : BitVec 7) (fa : BitVec 7) (fd : BitVec 7) (ft : BitVec 1) : Statement (.vcombineF32 fb fa fd ft) := by
  have h : 0xc0000041 + fb.toNat * 0x400000 + fa.toNat * 0x8000 + fd.toNat * 0x100 + ft.toNat * 0x80 < 4294967296 := by omega
  exact h

theorem vcombineI32 (fb : BitVec 7) (fa : BitVec 7) (fd : BitVec 7) (ft : BitVec 1) : Statement (.vcombineI32 fb fa fd ft) := by
  have h : 0xe0000041 + fb.toNat * 0x400000 + fa.toNat * 0x8000 + fd.toNat * 0x100 + ft.toNat * 0x80 < 4294967296 := by omega
  exact h

theorem vredaddI32 (fa : BitVec 7) (fd : BitVec 6) (ft : BitVec 1) : Statement (.vredaddI32 fa fd ft) := by
  have h : 0x43 + fa.toNat * 0x8000 + fd.toNat * 0x100 + ft.toNat * 0x80 < 4294967296 := by omega
  exact h

theorem vredaddF32 (fa : BitVec 7) (fd : BitVec 6) (ft : BitVec 1) : Statement (.vredaddF32 fa fd ft) := by
  have h : 0x20000043 + fa.toNat * 0x8000 + fd.toNat * 0x100 + ft.toNat * 0x80 < 4294967296 := by omega
  exact h

theorem vredmaxF32 (fa : BitVec 7) (fd : BitVec 6) (ft : BitVec 1) : Statement (.vredmaxF32 fa fd ft) := by
  have h : 0x40000043 + fa.toNat * 0x8000 + fd.toNat * 0x100 + ft.toNat * 0x80 < 4294967296 := by omega
  exact h

theorem vredminF32 (fa : BitVec 7) (fd : BitVec 6) (ft : BitVec 1) : Statement (.vredminF32 fa fd ft) := by
  have h : 0x60000043 + fa.toNat * 0x8000 + fd.toNat * 0x100 + ft.toNat * 0x80 < 4294967296 := by omega
  exact h

theorem vredmaxI32 (fa : BitVec 7) (fd : BitVec 6) (ft : BitVec 1) : Statement (.vredmaxI32 fa fd ft) := by
  have h : 0x80000043 + fa.toNat * 0x8000 + fd.toNat * 0x100 + ft.toNat * 0x80 < 4294967296 := by omega
  exact h

theorem vredminI32 (fa : BitVec 7) (fd : BitVec 6) (ft : BitVec 1) : Statement (.vredminI32 fa fd ft) := by
  have h : 0xa0000043 + fa.toNat * 0x8000 + fd.toNat * 0x100 + ft.toNat * 0x80 < 4294967296 := by omega
  exact h

theorem vredand (fa : BitVec 7) (fd : BitVec 6) (ft : BitVec 1) : Statement (.vredand fa fd ft) := by
  have h : 0xc0000043 + fa.toNat * 0x8000 + fd.toNat * 0x100 + ft.toNat * 0x80 < 4294967296 := by omega
  exact h

theorem vredor (fa : BitVec 7) (fd : BitVec 6) (ft : BitVec 1) : Statement (.vredor fa fd ft) := by
  have h : 0xe0000043 + fa.toNat * 0x8000 + fd.toNat * 0x100 + ft.toNat * 0x80 < 4294967296 := by omega
  exact h

theorem visect (fb : BitVec 7) (fa : BitVec 7) (fd : BitVec 7) (ft : BitVec 1) : Statement (.visect fb fa fd ft) := by
  have h : 0x45 + fb.toNat * 0x400000 + fa.toNat * 0x8000 + fd.toNat * 0x100 + ft.toNat * 0x80 < 4294967296 := by omega
  exact h

theorem smxupd (fb : BitVec 7) (fa : BitVec 7) (fd : BitVec 7) (ft : BitVec 1) : Statement (.smxupd fb fa fd ft) := by
  have h : 0x20000045 + fb.toNat * 0x400000 + fa.toNat * 0x8000 + fd.toNat * 0x100 + ft.toNat * 0x80 < 4294967296 := by omega
  exact h

theorem smxfin (fb : BitVec 7) (fa : BitVec 7) (fd : BitVec 7) (ft : BitVec 1) : Statement (.smxfin fb fa fd ft) := by
  have h : 0x40000045 + fb.toNat * 0x400000 + fa.toNat * 0x8000 + fd.toNat * 0x100 + ft.toNat * 0x80 < 4294967296 := by omega
  exact h

theorem vrand (fk : BitVec 6) (fa : BitVec 7) (fd : BitVec 7) (ft : BitVec 1) : Statement (.vrand fk fa fd ft) := by
  have h : 0x60000045 + fk.toNat * 0x400000 + fa.toNat * 0x8000 + fd.toNat * 0x100 + ft.toNat * 0x80 < 4294967296 := by omega
  exact h

theorem vrandu (fk : BitVec 6) (fa : BitVec 7) (fd : BitVec 7) (ft : BitVec 1) : Statement (.vrandu fk fa fd ft) := by
  have h : 0x80000045 + fk.toNat * 0x400000 + fa.toNat * 0x8000 + fd.toNat * 0x100 + ft.toNat * 0x80 < 4294967296 := by omega
  exact h

theorem vdot2F16 (fb : BitVec 7) (fa : BitVec 7) (fd : BitVec 7) (ft : BitVec 1) : Statement (.vdot2F16 fb fa fd ft) := by
  have h : 0x47 + fb.toNat * 0x400000 + fa.toNat * 0x8000 + fd.toNat * 0x100 + ft.toNat * 0x80 < 4294967296 := by omega
  exact h

theorem vdot2Bf16 (fb : BitVec 7) (fa : BitVec 7) (fd : BitVec 7) (ft : BitVec 1) : Statement (.vdot2Bf16 fb fa fd ft) := by
  have h : 0x20000047 + fb.toNat * 0x400000 + fa.toNat * 0x8000 + fd.toNat * 0x100 + ft.toNat * 0x80 < 4294967296 := by omega
  exact h

theorem vdot4I8 (fb : BitVec 7) (fa : BitVec 7) (fd : BitVec 7) (ft : BitVec 1) : Statement (.vdot4I8 fb fa fd ft) := by
  have h : 0x40000047 + fb.toNat * 0x400000 + fa.toNat * 0x8000 + fd.toNat * 0x100 + ft.toNat * 0x80 < 4294967296 := by omega
  exact h

theorem vdot4Ui8 (fb : BitVec 7) (fa : BitVec 7) (fd : BitVec 7) (ft : BitVec 1) : Statement (.vdot4Ui8 fb fa fd ft) := by
  have h : 0x60000047 + fb.toNat * 0x400000 + fa.toNat * 0x8000 + fd.toNat * 0x100 + ft.toNat * 0x80 < 4294967296 := by omega
  exact h

theorem vdot4E4m3 (fb : BitVec 7) (fa : BitVec 7) (fd : BitVec 7) (ft : BitVec 1) : Statement (.vdot4E4m3 fb fa fd ft) := by
  have h : 0x80000047 + fb.toNat * 0x400000 + fa.toNat * 0x8000 + fd.toNat * 0x100 + ft.toNat * 0x80 < 4294967296 := by omega
  exact h

theorem vdot4E5m2 (fb : BitVec 7) (fa : BitVec 7) (fd : BitVec 7) (ft : BitVec 1) : Statement (.vdot4E5m2 fb fa fd ft) := by
  have h : 0xa0000047 + fb.toNat * 0x400000 + fa.toNat * 0x8000 + fd.toNat * 0x100 + ft.toNat * 0x80 < 4294967296 := by omega
  exact h

theorem vdot8Q4x (fb : BitVec 7) (fa : BitVec 7) (fd : BitVec 7) (ft : BitVec 1) : Statement (.vdot8Q4x fb fa fd ft) := by
  have h : 0xc0000047 + fb.toNat * 0x400000 + fa.toNat * 0x8000 + fd.toNat * 0x100 + ft.toNat * 0x80 < 4294967296 := by omega
  exact h

theorem vdot8I4 (fb : BitVec 7) (fa : BitVec 7) (fd : BitVec 7) (ft : BitVec 1) : Statement (.vdot8I4 fb fa fd ft) := by
  have h : 0xe0000047 + fb.toNat * 0x400000 + fa.toNat * 0x8000 + fd.toNat * 0x100 + ft.toNat * 0x80 < 4294967296 := by omega
  exact h

theorem rsvinit (fq : BitVec 1) (ft : BitVec 1) : Statement (.rsvinit fq ft) := by
  have h : 0x49 + fq.toNat * 0x100 + ft.toNat * 0x80 < 4294967296 := by omega
  exact h

theorem rsvupd (fb : BitVec 7) (fa : BitVec 7) (fq : BitVec 1) (ft : BitVec 1) : Statement (.rsvupd fb fa fq ft) := by
  have h : 0x20000049 + fb.toNat * 0x400000 + fa.toNat * 0x8000 + fq.toNat * 0x100 + ft.toNat * 0x80 < 4294967296 := by omega
  exact h

theorem rsvmrg (fb : BitVec 7) (fa : BitVec 7) (fq : BitVec 1) (ft : BitVec 1) : Statement (.rsvmrg fb fa fq ft) := by
  have h : 0x40000049 + fb.toNat * 0x400000 + fa.toNat * 0x8000 + fq.toNat * 0x100 + ft.toNat * 0x80 < 4294967296 := by omega
  exact h

theorem rsvfin (fq : BitVec 1) (fd : BitVec 7) (ft : BitVec 1) : Statement (.rsvfin fq fd ft) := by
  have h : 0x60000049 + fq.toNat * 0x400000 + fd.toNat * 0x100 + ft.toNat * 0x80 < 4294967296 := by omega
  exact h

theorem rsvrd (fq : BitVec 1) (fd : BitVec 7) (ft : BitVec 1) : Statement (.rsvrd fq fd ft) := by
  have h : 0x80000049 + fq.toNat * 0x400000 + fd.toNat * 0x100 + ft.toNat * 0x80 < 4294967296 := by omega
  exact h

theorem rsvwr (fa : BitVec 7) (fq : BitVec 1) (ft : BitVec 1) : Statement (.rsvwr fa fq ft) := by
  have h : 0xa0000049 + fa.toNat * 0x8000 + fq.toNat * 0x100 + ft.toNat * 0x80 < 4294967296 := by omega
  exact h

theorem raytri (fb : BitVec 7) (fa : BitVec 7) (fd : BitVec 7) (ft : BitVec 1) : Statement (.raytri fb fa fd ft) := by
  have h : 0x4b + fb.toNat * 0x400000 + fa.toNat * 0x8000 + fd.toNat * 0x100 + ft.toNat * 0x80 < 4294967296 := by omega
  exact h

theorem raybox (fb : BitVec 7) (fa : BitVec 7) (fd : BitVec 7) (ft : BitVec 1) : Statement (.raybox fb fa fd ft) := by
  have h : 0x2000004b + fb.toNat * 0x400000 + fa.toNat * 0x8000 + fd.toNat * 0x100 + ft.toNat * 0x80 < 4294967296 := by omega
  exact h

theorem mma (fz : BitVec 1) (ff : BitVec 1) (fc : BitVec 1) (fs : BitVec 1) (ft : BitVec 4) (fo : BitVec 3) (fa : BitVec 7) (fy : BitVec 3) (fp : BitVec 4) : Statement (.mma fz ff fc fs ft fo fa fy fp) := by
  have h : 0x4d + fz.toNat * 0x80000000 + ff.toNat * 0x40000000 + fc.toNat * 0x20000000 + fs.toNat * 0x10000000 + ft.toNat * 0x1000000 + fo.toNat * 0x200000 + fa.toNat * 0x4000 + fy.toNat * 0x800 + fp.toNat * 0x80 < 4294967296 := by omega
  exact h

theorem obres (fs : BitVec 6) (fo : BitVec 3) : Statement (.obres fs fo) := by
  have h : 0x4f + fs.toNat * 0x4000 + fo.toNat * 0x800 < 4294967296 := by omega
  exact h

theorem obfree (fo : BitVec 3) : Statement (.obfree fo) := by
  have h : 0xcf + fo.toNat * 0x800 < 4294967296 := by omega
  exact h

theorem acczero (ft : BitVec 4) : Statement (.acczero ft) := by
  have h : 0x14f + ft.toNat * 0x800 < 4294967296 := by omega
  exact h

theorem accrd (ff : BitVec 1) (ft : BitVec 4) (fd : BitVec 7) (fs : BitVec 6) : Statement (.accrd ff ft fd fs) := by
  have h : 0x1cf + ff.toNat * 0x80000000 + ft.toNat * 0x1000000 + fd.toNat * 0x20000 + fs.toNat * 0x800 < 4294967296 := by omega
  exact h

theorem accwr (ft : BitVec 4) (fv : BitVec 7) (fs : BitVec 6) : Statement (.accwr ft fv fs) := by
  have h : 0x24f + ft.toNat * 0x1000000 + fv.toNat * 0x20000 + fs.toNat * 0x800 < 4294967296 := by omega
  exact h

theorem sptile (fs : BitVec 6) (fo : BitVec 3) : Statement (.sptile fs fo) := by
  have h : 0x2cf + fs.toNat * 0x4000 + fo.toNat * 0x800 < 4294967296 := by omega
  exact h

theorem chartpf (fp : BitVec 4) (fo : BitVec 3) : Statement (.chartpf fp fo) := by
  have h : 0x34f + fp.toNat * 0x4000 + fo.toNat * 0x800 < 4294967296 := by omega
  exact h

theorem chartinv (fo : BitVec 3) : Statement (.chartinv fo) := by
  have h : 0x3cf + fo.toNat * 0x800 < 4294967296 := by omega
  exact h

theorem chartq (ff : BitVec 1) (fd : BitVec 6) (fp : BitVec 4) (fo : BitVec 3) : Statement (.chartq ff fd fp fo) := by
  have h : 0x44f + ff.toNat * 0x80000000 + fd.toNat * 0x40000 + fp.toNat * 0x4000 + fo.toNat * 0x800 < 4294967296 := by omega
  exact h

theorem talloc (fi : BitVec 1) (fu : BitVec 5) (ft : BitVec 4) : Statement (.talloc fi fu ft) := by
  have h : 0x4cf + fi.toNat * 0x100000 + fu.toNat * 0x8000 + ft.toNat * 0x800 < 4294967296 := by omega
  exact h

theorem tfree (ft : BitVec 4) : Statement (.tfree ft) := by
  have h : 0x54f + ft.toNat * 0x800 < 4294967296 := by omega
  exact h

theorem sadd (fb : BitVec 6) (fa : BitVec 6) (fd : BitVec 6) : Statement (.sadd fb fa fd) := by
  have h : 0x51 + fb.toNat * 0x80000 + fa.toNat * 0x2000 + fd.toNat * 0x80 < 4294967296 := by omega
  exact h

theorem ssub (fb : BitVec 6) (fa : BitVec 6) (fd : BitVec 6) : Statement (.ssub fb fa fd) := by
  have h : 0x2000051 + fb.toNat * 0x80000 + fa.toNat * 0x2000 + fd.toNat * 0x80 < 4294967296 := by omega
  exact h

theorem smul (fb : BitVec 6) (fa : BitVec 6) (fd : BitVec 6) : Statement (.smul fb fa fd) := by
  have h : 0x4000051 + fb.toNat * 0x80000 + fa.toNat * 0x2000 + fd.toNat * 0x80 < 4294967296 := by omega
  exact h

theorem smulh (fb : BitVec 6) (fa : BitVec 6) (fd : BitVec 6) : Statement (.smulh fb fa fd) := by
  have h : 0x6000051 + fb.toNat * 0x80000 + fa.toNat * 0x2000 + fd.toNat * 0x80 < 4294967296 := by omega
  exact h

theorem smulhu (fb : BitVec 6) (fa : BitVec 6) (fd : BitVec 6) : Statement (.smulhu fb fa fd) := by
  have h : 0x8000051 + fb.toNat * 0x80000 + fa.toNat * 0x2000 + fd.toNat * 0x80 < 4294967296 := by omega
  exact h

theorem sand (fb : BitVec 6) (fa : BitVec 6) (fd : BitVec 6) : Statement (.sand fb fa fd) := by
  have h : 0xa000051 + fb.toNat * 0x80000 + fa.toNat * 0x2000 + fd.toNat * 0x80 < 4294967296 := by omega
  exact h

theorem sor (fb : BitVec 6) (fa : BitVec 6) (fd : BitVec 6) : Statement (.sor fb fa fd) := by
  have h : 0xc000051 + fb.toNat * 0x80000 + fa.toNat * 0x2000 + fd.toNat * 0x80 < 4294967296 := by omega
  exact h

theorem sxor (fb : BitVec 6) (fa : BitVec 6) (fd : BitVec 6) : Statement (.sxor fb fa fd) := by
  have h : 0xe000051 + fb.toNat * 0x80000 + fa.toNat * 0x2000 + fd.toNat * 0x80 < 4294967296 := by omega
  exact h

theorem sandn (fb : BitVec 6) (fa : BitVec 6) (fd : BitVec 6) : Statement (.sandn fb fa fd) := by
  have h : 0x10000051 + fb.toNat * 0x80000 + fa.toNat * 0x2000 + fd.toNat * 0x80 < 4294967296 := by omega
  exact h

theorem sshl (fb : BitVec 6) (fa : BitVec 6) (fd : BitVec 6) : Statement (.sshl fb fa fd) := by
  have h : 0x12000051 + fb.toNat * 0x80000 + fa.toNat * 0x2000 + fd.toNat * 0x80 < 4294967296 := by omega
  exact h

theorem sshrl (fb : BitVec 6) (fa : BitVec 6) (fd : BitVec 6) : Statement (.sshrl fb fa fd) := by
  have h : 0x14000051 + fb.toNat * 0x80000 + fa.toNat * 0x2000 + fd.toNat * 0x80 < 4294967296 := by omega
  exact h

theorem sshra (fb : BitVec 6) (fa : BitVec 6) (fd : BitVec 6) : Statement (.sshra fb fa fd) := by
  have h : 0x16000051 + fb.toNat * 0x80000 + fa.toNat * 0x2000 + fd.toNat * 0x80 < 4294967296 := by omega
  exact h

theorem smin (fb : BitVec 6) (fa : BitVec 6) (fd : BitVec 6) : Statement (.smin fb fa fd) := by
  have h : 0x18000051 + fb.toNat * 0x80000 + fa.toNat * 0x2000 + fd.toNat * 0x80 < 4294967296 := by omega
  exact h

theorem smax (fb : BitVec 6) (fa : BitVec 6) (fd : BitVec 6) : Statement (.smax fb fa fd) := by
  have h : 0x1a000051 + fb.toNat * 0x80000 + fa.toNat * 0x2000 + fd.toNat * 0x80 < 4294967296 := by omega
  exact h

theorem sminu (fb : BitVec 6) (fa : BitVec 6) (fd : BitVec 6) : Statement (.sminu fb fa fd) := by
  have h : 0x1c000051 + fb.toNat * 0x80000 + fa.toNat * 0x2000 + fd.toNat * 0x80 < 4294967296 := by omega
  exact h

theorem smaxu (fb : BitVec 6) (fa : BitVec 6) (fd : BitVec 6) : Statement (.smaxu fb fa fd) := by
  have h : 0x1e000051 + fb.toNat * 0x80000 + fa.toNat * 0x2000 + fd.toNat * 0x80 < 4294967296 := by omega
  exact h

theorem sseq (fb : BitVec 6) (fa : BitVec 6) (fd : BitVec 6) : Statement (.sseq fb fa fd) := by
  have h : 0x20000051 + fb.toNat * 0x80000 + fa.toNat * 0x2000 + fd.toNat * 0x80 < 4294967296 := by omega
  exact h

theorem ssne (fb : BitVec 6) (fa : BitVec 6) (fd : BitVec 6) : Statement (.ssne fb fa fd) := by
  have h : 0x22000051 + fb.toNat * 0x80000 + fa.toNat * 0x2000 + fd.toNat * 0x80 < 4294967296 := by omega
  exact h

theorem sslt (fb : BitVec 6) (fa : BitVec 6) (fd : BitVec 6) : Statement (.sslt fb fa fd) := by
  have h : 0x24000051 + fb.toNat * 0x80000 + fa.toNat * 0x2000 + fd.toNat * 0x80 < 4294967296 := by omega
  exact h

theorem ssltu (fb : BitVec 6) (fa : BitVec 6) (fd : BitVec 6) : Statement (.ssltu fb fa fd) := by
  have h : 0x26000051 + fb.toNat * 0x80000 + fa.toNat * 0x2000 + fd.toNat * 0x80 < 4294967296 := by omega
  exact h

theorem ssle (fb : BitVec 6) (fa : BitVec 6) (fd : BitVec 6) : Statement (.ssle fb fa fd) := by
  have h : 0x28000051 + fb.toNat * 0x80000 + fa.toNat * 0x2000 + fd.toNat * 0x80 < 4294967296 := by omega
  exact h

theorem ssleu (fb : BitVec 6) (fa : BitVec 6) (fd : BitVec 6) : Statement (.ssleu fb fa fd) := by
  have h : 0x2a000051 + fb.toNat * 0x80000 + fa.toNat * 0x2000 + fd.toNat * 0x80 < 4294967296 := by omega
  exact h

theorem spopc (fa : BitVec 6) (fd : BitVec 6) : Statement (.spopc fa fd) := by
  have h : 0x2c000051 + fa.toNat * 0x2000 + fd.toNat * 0x80 < 4294967296 := by omega
  exact h

theorem sclz (fa : BitVec 6) (fd : BitVec 6) : Statement (.sclz fa fd) := by
  have h : 0x2e000051 + fa.toNat * 0x2000 + fd.toNat * 0x80 < 4294967296 := by omega
  exact h

theorem sctz (fa : BitVec 6) (fd : BitVec 6) : Statement (.sctz fa fd) := by
  have h : 0x30000051 + fa.toNat * 0x2000 + fd.toNat * 0x80 < 4294967296 := by omega
  exact h

theorem sbrev (fa : BitVec 6) (fd : BitVec 6) : Statement (.sbrev fa fd) := by
  have h : 0x32000051 + fa.toNat * 0x2000 + fd.toNat * 0x80 < 4294967296 := by omega
  exact h

theorem smov (fa : BitVec 6) (fd : BitVec 6) : Statement (.smov fa fd) := by
  have h : 0x34000051 + fa.toNat * 0x2000 + fd.toNat * 0x80 < 4294967296 := by omega
  exact h

theorem slea2 (fb : BitVec 6) (fa : BitVec 6) (fd : BitVec 6) : Statement (.slea2 fb fa fd) := by
  have h : 0x36000051 + fb.toNat * 0x80000 + fa.toNat * 0x2000 + fd.toNat * 0x80 < 4294967296 := by omega
  exact h

theorem slea3 (fb : BitVec 6) (fa : BitVec 6) (fd : BitVec 6) : Statement (.slea3 fb fa fd) := by
  have h : 0x38000051 + fb.toNat * 0x80000 + fa.toNat * 0x2000 + fd.toNat * 0x80 < 4294967296 := by omega
  exact h

theorem saddi (fi : BitVec 13) (fa : BitVec 6) (fd : BitVec 6) : Statement (.saddi fi fa fd) := by
  have h : 0x53 + fi.toNat * 0x80000 + fa.toNat * 0x2000 + fd.toNat * 0x80 < 4294967296 := by omega
  exact h

theorem sandi (fi : BitVec 10) (fa : BitVec 6) (fd : BitVec 6) : Statement (.sandi fi fa fd) := by
  have h : 0x55 + fi.toNat * 0x400000 + fa.toNat * 0x2000 + fd.toNat * 0x80 < 4294967296 := by omega
  exact h

theorem sori (fi : BitVec 10) (fa : BitVec 6) (fd : BitVec 6) : Statement (.sori fi fa fd) := by
  have h : 0x80055 + fi.toNat * 0x400000 + fa.toNat * 0x2000 + fd.toNat * 0x80 < 4294967296 := by omega
  exact h

theorem sxori (fi : BitVec 10) (fa : BitVec 6) (fd : BitVec 6) : Statement (.sxori fi fa fd) := by
  have h : 0x100055 + fi.toNat * 0x400000 + fa.toNat * 0x2000 + fd.toNat * 0x80 < 4294967296 := by omega
  exact h

theorem sshli (fi : BitVec 6) (fa : BitVec 6) (fd : BitVec 6) : Statement (.sshli fi fa fd) := by
  have h : 0x180055 + fi.toNat * 0x400000 + fa.toNat * 0x2000 + fd.toNat * 0x80 < 4294967296 := by omega
  exact h

theorem sshrli (fi : BitVec 6) (fa : BitVec 6) (fd : BitVec 6) : Statement (.sshrli fi fa fd) := by
  have h : 0x200055 + fi.toNat * 0x400000 + fa.toNat * 0x2000 + fd.toNat * 0x80 < 4294967296 := by omega
  exact h

theorem sshrai (fi : BitVec 6) (fa : BitVec 6) (fd : BitVec 6) : Statement (.sshrai fi fa fd) := by
  have h : 0x280055 + fi.toNat * 0x400000 + fa.toNat * 0x2000 + fd.toNat * 0x80 < 4294967296 := by omega
  exact h

theorem sslti (fi : BitVec 10) (fa : BitVec 6) (fd : BitVec 6) : Statement (.sslti fi fa fd) := by
  have h : 0x300055 + fi.toNat * 0x400000 + fa.toNat * 0x2000 + fd.toNat * 0x80 < 4294967296 := by omega
  exact h

theorem smuli (fi : BitVec 10) (fa : BitVec 6) (fd : BitVec 6) : Statement (.smuli fi fa fd) := by
  have h : 0x380055 + fi.toNat * 0x400000 + fa.toNat * 0x2000 + fd.toNat * 0x80 < 4294967296 := by omega
  exact h

theorem sinsh (fi : BitVec 16) (fp : BitVec 2) (fd : BitVec 6) : Statement (.sinsh fi fp fd) := by
  have h : 0x57 + fi.toNat * 0x8000 + fp.toNat * 0x2000 + fd.toNat * 0x80 < 4294967296 := by omega
  exact h

theorem smovh (fi : BitVec 16) (fp : BitVec 2) (fd : BitVec 6) : Statement (.smovh fi fp fd) := by
  have h : 0x80000057 + fi.toNat * 0x8000 + fp.toNat * 0x2000 + fd.toNat * 0x80 < 4294967296 := by omega
  exact h

theorem sbfxu (fw : BitVec 7) (fo : BitVec 6) (fa : BitVec 6) (fd : BitVec 6) : Statement (.sbfxu fw fo fa fd) := by
  have h : 0x59 + fw.toNat * 0x2000000 + fo.toNat * 0x80000 + fa.toNat * 0x2000 + fd.toNat * 0x80 < 4294967296 := by omega
  exact h

theorem sbfx (fw : BitVec 7) (fo : BitVec 6) (fa : BitVec 6) (fd : BitVec 6) : Statement (.sbfx fw fo fa fd) := by
  have h : 0x5b + fw.toNat * 0x2000000 + fo.toNat * 0x80000 + fa.toNat * 0x2000 + fd.toNat * 0x80 < 4294967296 := by omega
  exact h

theorem sbfi (fw : BitVec 7) (fo : BitVec 6) (fa : BitVec 6) (fd : BitVec 6) : Statement (.sbfi fw fo fa fd) := by
  have h : 0x5d + fw.toNat * 0x2000000 + fo.toNat * 0x80000 + fa.toNat * 0x2000 + fd.toNat * 0x80 < 4294967296 := by omega
  exact h

theorem bra (fi : BitVec 21) : Statement (.bra fi) := by
  have h : 0x5f + fi.toNat * 0x800 < 4294967296 := by omega
  exact h

theorem brnz (fi : BitVec 15) (fa : BitVec 6) : Statement (.brnz fi fa) := by
  have h : 0xdf + fi.toNat * 0x20000 + fa.toNat * 0x800 < 4294967296 := by omega
  exact h

theorem brz (fi : BitVec 15) (fa : BitVec 6) : Statement (.brz fi fa) := by
  have h : 0x15f + fi.toNat * 0x20000 + fa.toNat * 0x800 < 4294967296 := by omega
  exact h

theorem brm (fi : BitVec 15) (fa : BitVec 6) : Statement (.brm fi fa) := by
  have h : 0x1df + fi.toNat * 0x20000 + fa.toNat * 0x800 < 4294967296 := by omega
  exact h

theorem join (fc : BitVec 5) : Statement (.join fc) := by
  have h : 0x25f + fc.toNat * 0x800 < 4294967296 := by omega
  exact h

theorem call (fi : BitVec 21) : Statement (.call fi) := by
  have h : 0x2df + fi.toNat * 0x800 < 4294967296 := by omega
  exact h

theorem callr (fa : BitVec 6) : Statement (.callr fa) := by
  have h : 0x35f + fa.toNat * 0x800 < 4294967296 := by omega
  exact h

theorem ret (fa : BitVec 6) : Statement (.ret fa) := by
  have h : 0x3df + fa.toNat * 0x800 < 4294967296 := by omega
  exact h

theorem loop (fe : BitVec 15) (fa : BitVec 6) : Statement (.loop fe fa) := by
  have h : 0x45f + fe.toNat * 0x20000 + fa.toNat * 0x800 < 4294967296 := by omega
  exact h

theorem loopi (fe : BitVec 11) (fn : BitVec 10) : Statement (.loopi fe fn) := by
  have h : 0x4df + fe.toNat * 0x200000 + fn.toNat * 0x800 < 4294967296 := by omega
  exact h

theorem exit : Statement .exit := by unfold Statement; decide

theorem trap (fi : BitVec 16) : Statement (.trap fi) := by
  have h : 0x5df + fi.toNat * 0x800 < 4294967296 := by omega
  exact h

theorem bkpt (fi : BitVec 16) : Statement (.bkpt fi) := by
  have h : 0x65f + fi.toNat * 0x800 < 4294967296 := by omega
  exact h

theorem yield (fi : BitVec 8) : Statement (.yield fi) := by
  have h : 0x6df + fi.toNat * 0x800 < 4294967296 := by omega
  exact h

theorem fuse (fw : BitVec 3) : Statement (.fuse fw) := by
  have h : 0x75f + fw.toNat * 0x800 < 4294967296 := by omega
  exact h

theorem nop : Statement .nop := by unfold Statement; decide

theorem sread (fd : BitVec 6) (fs : BitVec 10) : Statement (.sread fd fs) := by
  have h : 0x61 + fd.toNat * 0x200000 + fs.toNat * 0x800 < 4294967296 := by omega
  exact h

theorem swrite (fa : BitVec 6) (fs : BitVec 10) : Statement (.swrite fa fs) := by
  have h : 0xe1 + fa.toNat * 0x200000 + fs.toNat * 0x800 < 4294967296 := by omega
  exact h

theorem acquire : Statement .acquire := by unfold Statement; decide

theorem release : Statement .release := by unfold Statement; decide

theorem tqinit (fb : BitVec 6) (fa : BitVec 6) : Statement (.tqinit fb fa) := by
  have h : 0x261 + fb.toNat * 0x20000 + fa.toNat * 0x800 < 4294967296 := by omega
  exact h

theorem tqtake (fa : BitVec 6) (fd : BitVec 6) : Statement (.tqtake fa fd) := by
  have h : 0x2e1 + fa.toNat * 0x20000 + fd.toNat * 0x800 < 4294967296 := by omega
  exact h

theorem launch (fd : BitVec 6) (fa : BitVec 7) : Statement (.launch fd fa) := by
  have h : 0x361 + fd.toNat * 0x40000 + fa.toNat * 0x800 < 4294967296 := by omega
  exact h

theorem sleep (fi : BitVec 16) : Statement (.sleep fi) := by
  have h : 0x3e1 + fi.toNat * 0x800 < 4294967296 := by omega
  exact h

theorem gettime (fd : BitVec 6) : Statement (.gettime fd) := by
  have h : 0x461 + fd.toNat * 0x800 < 4294967296 := by omega
  exact h

theorem vld (fn : BitVec 1) (fk : BitVec 5) (fz : BitVec 3) (fb : BitVec 6) (fd : BitVec 7) (ff : BitVec 1) : Statement (.vld fn fk fz fb fd ff) := by
  have h : 0x63 + fn.toNat * 0x20000000 + fk.toNat * 0x1000000 + fz.toNat * 0x200000 + fb.toNat * 0x8000 + fd.toNat * 0x100 + ff.toNat * 0x80 < 4294967296 := by omega
  exact h

theorem vst (fn : BitVec 1) (fk : BitVec 5) (fz : BitVec 3) (fb : BitVec 6) (fs : BitVec 7) : Statement (.vst fn fk fz fb fs) := by
  have h : 0x65 + fn.toNat * 0x20000000 + fk.toNat * 0x1000000 + fz.toNat * 0x200000 + fb.toNat * 0x8000 + fs.toNat * 0x100 < 4294967296 := by omega
  exact h

theorem sld (fi : BitVec 10) (fz : BitVec 3) (fa : BitVec 6) (fd : BitVec 6) : Statement (.sld fi fz fa fd) := by
  have h : 0x67 + fi.toNat * 0x400000 + fz.toNat * 0x80000 + fa.toNat * 0x2000 + fd.toNat * 0x80 < 4294967296 := by omega
  exact h

theorem sst (fi : BitVec 10) (fz : BitVec 3) (fa : BitVec 6) (fd : BitVec 6) : Statement (.sst fi fz fa fd) := by
  have h : 0x69 + fi.toNat * 0x400000 + fz.toNat * 0x80000 + fa.toNat * 0x2000 + fd.toNat * 0x80 < 4294967296 := by omega
  exact h

theorem ldl (fi : BitVec 7) (fz : BitVec 3) (fa : BitVec 7) (fd : BitVec 7) (ff : BitVec 1) : Statement (.ldl fi fz fa fd ff) := by
  have h : 0x6b + fi.toNat * 0x2000000 + fz.toNat * 0x400000 + fa.toNat * 0x8000 + fd.toNat * 0x100 + ff.toNat * 0x80 < 4294967296 := by omega
  exact h

theorem stl (fi : BitVec 7) (fz : BitVec 3) (fa : BitVec 7) (fs : BitVec 7) : Statement (.stl fi fz fa fs) := by
  have h : 0x6d + fi.toNat * 0x2000000 + fz.toNat * 0x400000 + fa.toNat * 0x8000 + fs.toNat * 0x100 < 4294967296 := by omega
  exact h

theorem atoml (fo : BitVec 3) (fb : BitVec 7) (fa : BitVec 7) (fd : BitVec 7) (ff : BitVec 1) : Statement (.atoml fo fb fa fd ff) := by
  have h : 0x6f + fo.toNat * 0x20000000 + fb.toNat * 0x400000 + fa.toNat * 0x8000 + fd.toNat * 0x100 + ff.toNat * 0x80 < 4294967296 := by omega
  exact h

theorem atomg (fc : BitVec 2) (fz : BitVec 1) (fo : BitVec 3) (fb : BitVec 6) (fa : BitVec 6) (fd : BitVec 6) (ff : BitVec 1) : Statement (.atomg fc fz fo fb fa fd ff) := by
  have h : 0x71 + fc.toNat * 0x40000000 + fz.toNat * 0x20000000 + fo.toNat * 0x4000000 + fb.toNat * 0x100000 + fa.toNat * 0x4000 + fd.toNat * 0x100 + ff.toNat * 0x80 < 4294967296 := by omega
  exact h

theorem atomgv (fb : BitVec 7) (fo : BitVec 3) (fk : BitVec 6) (fd : BitVec 7) (ff : BitVec 1) : Statement (.atomgv fb fo fk fd ff) := by
  have h : 0x73 + fb.toNat * 0x1000000 + fo.toNat * 0x200000 + fk.toNat * 0x8000 + fd.toNat * 0x100 + ff.toNat * 0x80 < 4294967296 := by omega
  exact h

theorem fence (fk : BitVec 2) (fs : BitVec 4) : Statement (.fence fk fs) := by
  have h : 0x75 + fk.toNat * 0x800 + fs.toNat * 0x80 < 4294967296 := by omega
  exact h

theorem bfence : Statement .bfence := by unfold Statement; decide

theorem tcopy (fv : BitVec 1) (fb : BitVec 6) (fa : BitVec 6) : Statement (.tcopy fv fb fa) := by
  have h : 0x77 + fv.toNat * 0x800000 + fb.toNat * 0x20000 + fa.toNat * 0x800 < 4294967296 := by omega
  exact h

theorem sealBatch (fd : BitVec 6) : Statement (.sealBatch fd) := by
  have h : 0xf7 + fd.toNat * 0x800 < 4294967296 := by omega
  exact h

theorem waitb (fa : BitVec 6) : Statement (.waitb fa) := by
  have h : 0x177 + fa.toNat * 0x800 < 4294967296 := by omega
  exact h

theorem gather (fv : BitVec 1) (fb : BitVec 6) (fa : BitVec 6) : Statement (.gather fv fb fa) := by
  have h : 0x1f7 + fv.toNat * 0x800000 + fb.toNat * 0x20000 + fa.toNat * 0x800 < 4294967296 := by omega
  exact h

theorem putsig (fa : BitVec 6) : Statement (.putsig fa) := by
  have h : 0x277 + fa.toNat * 0x800 < 4294967296 := by omega
  exact h

theorem pref (fl : BitVec 1) (fn : BitVec 8) (fa : BitVec 6) : Statement (.pref fl fn fa) := by
  have h : 0x2f7 + fl.toNat * 0x2000000 + fn.toNat * 0x20000 + fa.toNat * 0x800 < 4294967296 := by omega
  exact h

theorem barinit (fb : BitVec 6) (fa : BitVec 6) : Statement (.barinit fb fa) := by
  have h : 0x79 + fb.toNat * 0x20000 + fa.toNat * 0x800 < 4294967296 := by omega
  exact h

theorem bararr (fd : BitVec 6) (fa : BitVec 6) : Statement (.bararr fd fa) := by
  have h : 0xf9 + fd.toNat * 0x20000 + fa.toNat * 0x800 < 4294967296 := by omega
  exact h

theorem bartx (fb : BitVec 6) (fa : BitVec 6) : Statement (.bartx fb fa) := by
  have h : 0x179 + fb.toNat * 0x20000 + fa.toNat * 0x800 < 4294967296 := by omega
  exact h

theorem barwait (fb : BitVec 6) (fa : BitVec 6) : Statement (.barwait fb fa) := by
  have h : 0x1f9 + fb.toNat * 0x20000 + fa.toNat * 0x800 < 4294967296 := by omega
  exact h

theorem bartry (fd : BitVec 6) (fb : BitVec 6) (fa : BitVec 6) : Statement (.bartry fd fb fa) := by
  have h : 0x279 + fd.toNat * 0x800000 + fb.toNat * 0x20000 + fa.toNat * 0x800 < 4294967296 := by omega
  exact h

theorem gbar (fs : BitVec 8) : Statement (.gbar fs) := by
  have h : 0x2f9 + fs.toNat * 0x800 < 4294967296 := by omega
  exact h

theorem bmv (ff : BitVec 1) (fa : BitVec 6) : Statement (.bmv ff fa) := by
  have h : 0x7b + ff.toNat * 0x80000000 + fa.toNat * 0x800 < 4294967296 := by omega
  exact h

theorem bmvacc (ff : BitVec 1) (fa : BitVec 6) : Statement (.bmvacc ff fa) := by
  have h : 0xfb + ff.toNat * 0x80000000 + fa.toNat * 0x800 < 4294967296 := by omega
  exact h

theorem bstat (ff : BitVec 1) (fa : BitVec 6) (fd : BitVec 6) : Statement (.bstat ff fa fd) := by
  have h : 0x17b + ff.toNat * 0x80000000 + fa.toNat * 0x20000 + fd.toNat * 0x800 < 4294967296 := by omega
  exact h

theorem clauseStart : Statement .clauseStart := by unfold Statement; decide

theorem commit : Statement .commit := by unfold Statement; decide

theorem heldAtCommitRelease : Statement .heldAtCommitRelease := by unfold Statement; decide

theorem pageWalk : Statement .pageWalk := by unfold Statement; decide

theorem longLatencyReturn : Statement .longLatencyReturn := by unfold Statement; decide

theorem accessFailedAfterCommit : Statement .accessFailedAfterCommit := by unfold Statement; decide

theorem issuePick : Statement .issuePick := by unfold Statement; decide

theorem starvationPromote : Statement .starvationPromote := by unfold Statement; decide

theorem spinDemote : Statement .spinDemote := by unfold Statement; decide

theorem spinDemotionExpiry : Statement .spinDemotionExpiry := by unfold Statement; decide

theorem sleepExpiry : Statement .sleepExpiry := by unfold Statement; decide

theorem yieldExpiry : Statement .yieldExpiry := by unfold Statement; decide

theorem missSplit : Statement .missSplit := by unfold Statement; decide

theorem scalarCopyDone : Statement .scalarCopyDone := by unfold Statement; decide

theorem joinFuse : Statement .joinFuse := by unfold Statement; decide

theorem joinTimeout : Statement .joinTimeout := by unfold Statement; decide

theorem joinRelease : Statement .joinRelease := by unfold Statement; decide

theorem widthFuse : Statement .widthFuse := by unfold Statement; decide

theorem fuseTimeout : Statement .fuseTimeout := by unfold Statement; decide

theorem allotmentGrant : Statement .allotmentGrant := by unfold Statement; decide

theorem allotmentDeadlockPreempt : Statement .allotmentDeadlockPreempt := by unfold Statement; decide

theorem gbarRelease : Statement .gbarRelease := by unfold Statement; decide

theorem trapStop : Statement .trapStop := by unfold Statement; decide

theorem trapRecordWrite : Statement .trapRecordWrite := by unfold Statement; decide

theorem breakpointMatch : Statement .breakpointMatch := by unfold Statement; decide

theorem stepTimeout : Statement .stepTimeout := by unfold Statement; decide

theorem waveRetire : Statement .waveRetire := by unfold Statement; decide

theorem matrixQueueHeadStart : Statement .matrixQueueHeadStart := by unfold Statement; decide

theorem mmaArrayStart : Statement .mmaArrayStart := by unfold Statement; decide

theorem matrixOpComplete : Statement .matrixOpComplete := by unfold Statement; decide

theorem matrixFlagClear : Statement .matrixFlagClear := by unfold Statement; decide

theorem courseMmaDispatch : Statement .courseMmaDispatch := by unfold Statement; decide

theorem chartCompileStart : Statement .chartCompileStart := by unfold Statement; decide

theorem chartCompileEnd : Statement .chartCompileEnd := by unfold Statement; decide

theorem copyGranule : Statement .copyGranule := by unfold Statement; decide

theorem copyFailure : Statement .copyFailure := by unfold Statement; decide

theorem gatherElement : Statement .gatherElement := by unfold Statement; decide

theorem putsigSignal : Statement .putsigSignal := by unfold Statement; decide

theorem bankUnitGroup : Statement .bankUnitGroup := by unfold Statement; decide

theorem bmvComplete : Statement .bmvComplete := by unfold Statement; decide

theorem homeSliceStore : Statement .homeSliceStore := by unfold Statement; decide

theorem homeSliceLoad : Statement .homeSliceLoad := by unfold Statement; decide

theorem pulseTick : Statement .pulseTick := by unfold Statement; decide

theorem spanLeave : Statement .spanLeave := by unfold Statement; decide

theorem packetAccept : Statement .packetAccept := by unfold Statement; decide

theorem groupAdmit : Statement .groupAdmit := by unfold Statement; decide

theorem launchComplete : Statement .launchComplete := by unfold Statement; decide

theorem preemptRequest : Statement .preemptRequest := by unfold Statement; decide

theorem preemptSave : Statement .preemptSave := by unfold Statement; decide

theorem preemptFail : Statement .preemptFail := by unfold Statement; decide

theorem groupRestore : Statement .groupRestore := by unfold Statement; decide

theorem qctlWrite : Statement .qctlWrite := by unfold Statement; decide

theorem qdoorbellWrite : Statement .qdoorbellWrite := by unfold Statement; decide

theorem invcmdWrite : Statement .invcmdWrite := by unfold Statement; decide

theorem invalidationComplete : Statement .invalidationComplete := by unfold Statement; decide

theorem apfaultWrite : Statement .apfaultWrite := by unfold Statement; decide

theorem bar2Read : Statement .bar2Read := by unfold Statement; decide

theorem bar2Write : Statement .bar2Write := by unfold Statement; decide

theorem pulsecfgWrite : Statement .pulsecfgWrite := by unfold Statement; decide

theorem pwrcapWrite : Statement .pwrcapWrite := by unfold Statement; decide

theorem spanctlWrite : Statement .spanctlWrite := by unfold Statement; decide

theorem cntdataWrite : Statement .cntdataWrite := by unfold Statement; decide

theorem registerWrite : Statement .registerWrite := by unfold Statement; decide

theorem fundamentalReset : Statement .fundamentalReset := by unfold Statement; decide

theorem bootComplete : Statement .bootComplete := by unfold Statement; decide

theorem functionLevelReset : Statement .functionLevelReset := by unfold Statement; decide

theorem decodeTableUpdate : Statement .decodeTableUpdate := by unfold Statement; decide

theorem powerWindow : Statement .powerWindow := by unfold Statement; decide

theorem thermalStop : Statement .thermalStop := by unfold Statement; decide

theorem wearUpdate : Statement .wearUpdate := by unfold Statement; decide

theorem uncorrectableError : Statement .uncorrectableError := by unfold Statement; decide

theorem correctedErrorRecord : Statement .correctedErrorRecord := by unfold Statement; decide

theorem linkReplay : Statement .linkReplay := by unfold Statement; decide

theorem linkOperationFailure : Statement .linkOperationFailure := by unfold Statement; decide

theorem spanRequest : Statement .spanRequest := by unfold Statement; decide

theorem stallSample : Statement .stallSample := by unfold Statement; decide

theorem dbgHaltWave : Statement .dbgHaltWave := by unfold Statement; decide

theorem dbgHaltGroup : Statement .dbgHaltGroup := by unfold Statement; decide

theorem dbgResume : Statement .dbgResume := by unfold Statement; decide

theorem dbgStep : Statement .dbgStep := by unfold Statement; decide

theorem dbgKillWave : Statement .dbgKillWave := by unfold Statement; decide

theorem dbgKillGroup : Statement .dbgKillGroup := by unfold Statement; decide

theorem dbgSave : Statement .dbgSave := by unfold Statement; decide

theorem dbgInvalidCommand : Statement .dbgInvalidCommand := by unfold Statement; decide

theorem getVersion : Statement .getVersion := by unfold Statement; decide

theorem getCapabilities : Statement .getCapabilities := by unfold Statement; decide

theorem negotiateAlgorithms : Statement .negotiateAlgorithms := by unfold Statement; decide

theorem getDigests : Statement .getDigests := by unfold Statement; decide

theorem getCertificate : Statement .getCertificate := by unfold Statement; decide

theorem challenge : Statement .challenge := by unfold Statement; decide

theorem getMeasurements : Statement .getMeasurements := by unfold Statement; decide

theorem storeTimeReturn : Statement .storeTimeReturn := by unfold Statement; decide

theorem tickCompletion : Statement .tickCompletion := by unfold Statement; decide

theorem portRetrain : Statement .portRetrain := by unfold Statement; decide

theorem msixVectorUnmask : Statement .msixVectorUnmask := by unfold Statement; decide

theorem coreClockStop : Statement .coreClockStop := by unfold Statement; decide

theorem coreClockRestart : Statement .coreClockRestart := by unfold Statement; decide

end WordFits

end Sys2Proof.Laws
end

