-- ==== Sys2Proof/Laws/State.lean ====
section
/-! SUPPORT. What each named update leaves in each field, one lemma per field, and the laws of the memory operations: a byte reads
as it was last written, and every operation keeps the canonical form. -/

namespace Sys2Proof.Machine

/-! ## Replacing a core, a function, a wave, a group -/

@[simp] theorem setCore_clk (d : Device) (k : Nat) (x : Core) : (d.setCore k x).clk = d.clk := rfl
@[simp] theorem setCore_mem (d : Device) (k : Nat) (x : Core) : (d.setCore k x).mem = d.mem := rfl
@[simp] theorem setCore_lines (d : Device) (k : Nat) (x : Core) : (d.setCore k x).lines = d.lines := rfl
@[simp] theorem setCore_er (d : Device) (k : Nat) (x : Core) : (d.setCore k x).er = d.er := rfl
@[simp] theorem setCore_l2 (d : Device) (k : Nat) (x : Core) : (d.setCore k x).l2 = d.l2 := rfl
@[simp] theorem setCore_l2cnt (d : Device) (k : Nat) (x : Core) : (d.setCore k x).l2cnt = d.l2cnt := rfl
@[simp] theorem setCore_tally (d : Device) (k : Nat) (x : Core) : (d.setCore k x).tally = d.tally := rfl
@[simp] theorem setCore_tallyAt (d : Device) (k : Nat) (x : Core) : (d.setCore k x).tallyAt = d.tallyAt := rfl
@[simp] theorem setCore_l2dead (d : Device) (k : Nat) (x : Core) : (d.setCore k x).l2dead = d.l2dead := rfl
@[simp] theorem setCore_tlb2 (d : Device) (k : Nat) (x : Core) : (d.setCore k x).tlb2 = d.tlb2 := rfl
@[simp] theorem setCore_walks (d : Device) (k : Nat) (x : Core) : (d.setCore k x).walks = d.walks := rfl
@[simp] theorem setCore_bad (d : Device) (k : Nat) (x : Core) : (d.setCore k x).bad = d.bad := rfl
@[simp] theorem setCore_refused (d : Device) (k : Nat) (x : Core) : (d.setCore k x).refused = d.refused := rfl
@[simp] theorem setCore_walkQ (d : Device) (k : Nat) (x : Core) : (d.setCore k x).walkQ = d.walkQ := rfl
@[simp] theorem setCore_cores (d : Device) (k : Nat) (x : Core) : (d.setCore k x).cores = AMap.set d.cores k x := rfl
@[simp] theorem setCore_groups (d : Device) (k : Nat) (x : Core) : (d.setCore k x).groups = d.groups := rfl
@[simp] theorem setCore_waves (d : Device) (k : Nat) (x : Core) : (d.setCore k x).waves = d.waves := rfl
@[simp] theorem setCore_launches (d : Device) (k : Nat) (x : Core) : (d.setCore k x).launches = d.launches := rfl
@[simp] theorem setCore_seq (d : Device) (k : Nat) (x : Core) : (d.setCore k x).seq = d.seq := rfl
@[simp] theorem setCore_devQ (d : Device) (k : Nat) (x : Core) : (d.setCore k x).devQ = d.devQ := rfl
@[simp] theorem setCore_taskQ (d : Device) (k : Nat) (x : Core) : (d.setCore k x).taskQ = d.taskQ := rfl
@[simp] theorem setCore_objs (d : Device) (k : Nat) (x : Core) : (d.setCore k x).objs = d.objs := rfl
@[simp] theorem setCore_reqs (d : Device) (k : Nat) (x : Core) : (d.setCore k x).reqs = d.reqs := rfl
@[simp] theorem setCore_ops (d : Device) (k : Nat) (x : Core) : (d.setCore k x).ops = d.ops := rfl
@[simp] theorem setCore_bmvs (d : Device) (k : Nat) (x : Core) : (d.setCore k x).bmvs = d.bmvs := rfl
@[simp] theorem setCore_mdone (d : Device) (k : Nat) (x : Core) : (d.setCore k x).mdone = d.mdone := rfl
@[simp] theorem setCore_banks (d : Device) (k : Nat) (x : Core) : (d.setCore k x).banks = d.banks := rfl
@[simp] theorem setCore_fns (d : Device) (k : Nat) (x : Core) : (d.setCore k x).fns = d.fns := rfl
@[simp] theorem setCore_mgmt (d : Device) (k : Nat) (x : Core) : (d.setCore k x).mgmt = d.mgmt := rfl
@[simp] theorem setCore_trace (d : Device) (k : Nat) (x : Core) : (d.setCore k x).trace = d.trace := rfl
@[simp] theorem setCore_out (d : Device) (k : Nat) (x : Core) : (d.setCore k x).out = d.out := rfl
@[simp] theorem setCore_lastCommit (d : Device) (k : Nat) (x : Core) : (d.setCore k x).lastCommit = d.lastCommit := rfl
@[simp] theorem setCore_draws (d : Device) (k : Nat) (x : Core) : (d.setCore k x).draws = d.draws := rfl
@[simp] theorem setCore_nextId (d : Device) (k : Nat) (x : Core) : (d.setCore k x).nextId = d.nextId := rfl

@[simp] theorem setFn_clk (d : Device) (k : Nat) (x : HostFn) : (d.setFn k x).clk = d.clk := rfl
@[simp] theorem setFn_mem (d : Device) (k : Nat) (x : HostFn) : (d.setFn k x).mem = d.mem := rfl
@[simp] theorem setFn_lines (d : Device) (k : Nat) (x : HostFn) : (d.setFn k x).lines = d.lines := rfl
@[simp] theorem setFn_er (d : Device) (k : Nat) (x : HostFn) : (d.setFn k x).er = d.er := rfl
@[simp] theorem setFn_l2 (d : Device) (k : Nat) (x : HostFn) : (d.setFn k x).l2 = d.l2 := rfl
@[simp] theorem setFn_l2cnt (d : Device) (k : Nat) (x : HostFn) : (d.setFn k x).l2cnt = d.l2cnt := rfl
@[simp] theorem setFn_tally (d : Device) (k : Nat) (x : HostFn) : (d.setFn k x).tally = d.tally := rfl
@[simp] theorem setFn_tallyAt (d : Device) (k : Nat) (x : HostFn) : (d.setFn k x).tallyAt = d.tallyAt := rfl
@[simp] theorem setFn_l2dead (d : Device) (k : Nat) (x : HostFn) : (d.setFn k x).l2dead = d.l2dead := rfl
@[simp] theorem setFn_tlb2 (d : Device) (k : Nat) (x : HostFn) : (d.setFn k x).tlb2 = d.tlb2 := rfl
@[simp] theorem setFn_walks (d : Device) (k : Nat) (x : HostFn) : (d.setFn k x).walks = d.walks := rfl
@[simp] theorem setFn_bad (d : Device) (k : Nat) (x : HostFn) : (d.setFn k x).bad = d.bad := rfl
@[simp] theorem setFn_refused (d : Device) (k : Nat) (x : HostFn) : (d.setFn k x).refused = d.refused := rfl
@[simp] theorem setFn_walkQ (d : Device) (k : Nat) (x : HostFn) : (d.setFn k x).walkQ = d.walkQ := rfl
@[simp] theorem setFn_cores (d : Device) (k : Nat) (x : HostFn) : (d.setFn k x).cores = d.cores := rfl
@[simp] theorem setFn_groups (d : Device) (k : Nat) (x : HostFn) : (d.setFn k x).groups = d.groups := rfl
@[simp] theorem setFn_waves (d : Device) (k : Nat) (x : HostFn) : (d.setFn k x).waves = d.waves := rfl
@[simp] theorem setFn_launches (d : Device) (k : Nat) (x : HostFn) : (d.setFn k x).launches = d.launches := rfl
@[simp] theorem setFn_seq (d : Device) (k : Nat) (x : HostFn) : (d.setFn k x).seq = d.seq := rfl
@[simp] theorem setFn_devQ (d : Device) (k : Nat) (x : HostFn) : (d.setFn k x).devQ = d.devQ := rfl
@[simp] theorem setFn_taskQ (d : Device) (k : Nat) (x : HostFn) : (d.setFn k x).taskQ = d.taskQ := rfl
@[simp] theorem setFn_objs (d : Device) (k : Nat) (x : HostFn) : (d.setFn k x).objs = d.objs := rfl
@[simp] theorem setFn_reqs (d : Device) (k : Nat) (x : HostFn) : (d.setFn k x).reqs = d.reqs := rfl
@[simp] theorem setFn_ops (d : Device) (k : Nat) (x : HostFn) : (d.setFn k x).ops = d.ops := rfl
@[simp] theorem setFn_bmvs (d : Device) (k : Nat) (x : HostFn) : (d.setFn k x).bmvs = d.bmvs := rfl
@[simp] theorem setFn_mdone (d : Device) (k : Nat) (x : HostFn) : (d.setFn k x).mdone = d.mdone := rfl
@[simp] theorem setFn_banks (d : Device) (k : Nat) (x : HostFn) : (d.setFn k x).banks = d.banks := rfl
@[simp] theorem setFn_fns (d : Device) (k : Nat) (x : HostFn) : (d.setFn k x).fns = AMap.set d.fns k x := rfl
@[simp] theorem setFn_mgmt (d : Device) (k : Nat) (x : HostFn) : (d.setFn k x).mgmt = d.mgmt := rfl
@[simp] theorem setFn_trace (d : Device) (k : Nat) (x : HostFn) : (d.setFn k x).trace = d.trace := rfl
@[simp] theorem setFn_out (d : Device) (k : Nat) (x : HostFn) : (d.setFn k x).out = d.out := rfl
@[simp] theorem setFn_lastCommit (d : Device) (k : Nat) (x : HostFn) : (d.setFn k x).lastCommit = d.lastCommit := rfl
@[simp] theorem setFn_draws (d : Device) (k : Nat) (x : HostFn) : (d.setFn k x).draws = d.draws := rfl
@[simp] theorem setFn_nextId (d : Device) (k : Nat) (x : HostFn) : (d.setFn k x).nextId = d.nextId := rfl

@[simp] theorem setWave_clk (d : Device) (k : Nat) (x : Wave) : (d.setWave k x).clk = d.clk := rfl
@[simp] theorem setWave_mem (d : Device) (k : Nat) (x : Wave) : (d.setWave k x).mem = d.mem := rfl
@[simp] theorem setWave_lines (d : Device) (k : Nat) (x : Wave) : (d.setWave k x).lines = d.lines := rfl
@[simp] theorem setWave_er (d : Device) (k : Nat) (x : Wave) : (d.setWave k x).er = d.er := rfl
@[simp] theorem setWave_l2 (d : Device) (k : Nat) (x : Wave) : (d.setWave k x).l2 = d.l2 := rfl
@[simp] theorem setWave_l2cnt (d : Device) (k : Nat) (x : Wave) : (d.setWave k x).l2cnt = d.l2cnt := rfl
@[simp] theorem setWave_tally (d : Device) (k : Nat) (x : Wave) : (d.setWave k x).tally = d.tally := rfl
@[simp] theorem setWave_tallyAt (d : Device) (k : Nat) (x : Wave) : (d.setWave k x).tallyAt = d.tallyAt := rfl
@[simp] theorem setWave_l2dead (d : Device) (k : Nat) (x : Wave) : (d.setWave k x).l2dead = d.l2dead := rfl
@[simp] theorem setWave_tlb2 (d : Device) (k : Nat) (x : Wave) : (d.setWave k x).tlb2 = d.tlb2 := rfl
@[simp] theorem setWave_walks (d : Device) (k : Nat) (x : Wave) : (d.setWave k x).walks = d.walks := rfl
@[simp] theorem setWave_bad (d : Device) (k : Nat) (x : Wave) : (d.setWave k x).bad = d.bad := rfl
@[simp] theorem setWave_refused (d : Device) (k : Nat) (x : Wave) : (d.setWave k x).refused = d.refused := rfl
@[simp] theorem setWave_walkQ (d : Device) (k : Nat) (x : Wave) : (d.setWave k x).walkQ = d.walkQ := rfl
@[simp] theorem setWave_cores (d : Device) (k : Nat) (x : Wave) : (d.setWave k x).cores = d.cores := rfl
@[simp] theorem setWave_groups (d : Device) (k : Nat) (x : Wave) : (d.setWave k x).groups = d.groups := rfl
@[simp] theorem setWave_waves (d : Device) (k : Nat) (x : Wave) : (d.setWave k x).waves = AMap.set d.waves k x := rfl
@[simp] theorem setWave_launches (d : Device) (k : Nat) (x : Wave) : (d.setWave k x).launches = d.launches := rfl
@[simp] theorem setWave_seq (d : Device) (k : Nat) (x : Wave) : (d.setWave k x).seq = d.seq := rfl
@[simp] theorem setWave_devQ (d : Device) (k : Nat) (x : Wave) : (d.setWave k x).devQ = d.devQ := rfl
@[simp] theorem setWave_taskQ (d : Device) (k : Nat) (x : Wave) : (d.setWave k x).taskQ = d.taskQ := rfl
@[simp] theorem setWave_objs (d : Device) (k : Nat) (x : Wave) : (d.setWave k x).objs = d.objs := rfl
@[simp] theorem setWave_reqs (d : Device) (k : Nat) (x : Wave) : (d.setWave k x).reqs = d.reqs := rfl
@[simp] theorem setWave_ops (d : Device) (k : Nat) (x : Wave) : (d.setWave k x).ops = d.ops := rfl
@[simp] theorem setWave_bmvs (d : Device) (k : Nat) (x : Wave) : (d.setWave k x).bmvs = d.bmvs := rfl
@[simp] theorem setWave_mdone (d : Device) (k : Nat) (x : Wave) : (d.setWave k x).mdone = d.mdone := rfl
@[simp] theorem setWave_banks (d : Device) (k : Nat) (x : Wave) : (d.setWave k x).banks = d.banks := rfl
@[simp] theorem setWave_fns (d : Device) (k : Nat) (x : Wave) : (d.setWave k x).fns = d.fns := rfl
@[simp] theorem setWave_mgmt (d : Device) (k : Nat) (x : Wave) : (d.setWave k x).mgmt = d.mgmt := rfl
@[simp] theorem setWave_trace (d : Device) (k : Nat) (x : Wave) : (d.setWave k x).trace = d.trace := rfl
@[simp] theorem setWave_out (d : Device) (k : Nat) (x : Wave) : (d.setWave k x).out = d.out := rfl
@[simp] theorem setWave_lastCommit (d : Device) (k : Nat) (x : Wave) : (d.setWave k x).lastCommit = d.lastCommit := rfl
@[simp] theorem setWave_draws (d : Device) (k : Nat) (x : Wave) : (d.setWave k x).draws = d.draws := rfl
@[simp] theorem setWave_nextId (d : Device) (k : Nat) (x : Wave) : (d.setWave k x).nextId = d.nextId := rfl

@[simp] theorem setGroup_clk (d : Device) (k : Nat) (x : Group) : (d.setGroup k x).clk = d.clk := rfl
@[simp] theorem setGroup_mem (d : Device) (k : Nat) (x : Group) : (d.setGroup k x).mem = d.mem := rfl
@[simp] theorem setGroup_lines (d : Device) (k : Nat) (x : Group) : (d.setGroup k x).lines = d.lines := rfl
@[simp] theorem setGroup_er (d : Device) (k : Nat) (x : Group) : (d.setGroup k x).er = d.er := rfl
@[simp] theorem setGroup_l2 (d : Device) (k : Nat) (x : Group) : (d.setGroup k x).l2 = d.l2 := rfl
@[simp] theorem setGroup_l2cnt (d : Device) (k : Nat) (x : Group) : (d.setGroup k x).l2cnt = d.l2cnt := rfl
@[simp] theorem setGroup_tally (d : Device) (k : Nat) (x : Group) : (d.setGroup k x).tally = d.tally := rfl
@[simp] theorem setGroup_tallyAt (d : Device) (k : Nat) (x : Group) : (d.setGroup k x).tallyAt = d.tallyAt := rfl
@[simp] theorem setGroup_l2dead (d : Device) (k : Nat) (x : Group) : (d.setGroup k x).l2dead = d.l2dead := rfl
@[simp] theorem setGroup_tlb2 (d : Device) (k : Nat) (x : Group) : (d.setGroup k x).tlb2 = d.tlb2 := rfl
@[simp] theorem setGroup_walks (d : Device) (k : Nat) (x : Group) : (d.setGroup k x).walks = d.walks := rfl
@[simp] theorem setGroup_bad (d : Device) (k : Nat) (x : Group) : (d.setGroup k x).bad = d.bad := rfl
@[simp] theorem setGroup_refused (d : Device) (k : Nat) (x : Group) : (d.setGroup k x).refused = d.refused := rfl
@[simp] theorem setGroup_walkQ (d : Device) (k : Nat) (x : Group) : (d.setGroup k x).walkQ = d.walkQ := rfl
@[simp] theorem setGroup_cores (d : Device) (k : Nat) (x : Group) : (d.setGroup k x).cores = d.cores := rfl
@[simp] theorem setGroup_groups (d : Device) (k : Nat) (x : Group) : (d.setGroup k x).groups = AMap.set d.groups k x := rfl
@[simp] theorem setGroup_waves (d : Device) (k : Nat) (x : Group) : (d.setGroup k x).waves = d.waves := rfl
@[simp] theorem setGroup_launches (d : Device) (k : Nat) (x : Group) : (d.setGroup k x).launches = d.launches := rfl
@[simp] theorem setGroup_seq (d : Device) (k : Nat) (x : Group) : (d.setGroup k x).seq = d.seq := rfl
@[simp] theorem setGroup_devQ (d : Device) (k : Nat) (x : Group) : (d.setGroup k x).devQ = d.devQ := rfl
@[simp] theorem setGroup_taskQ (d : Device) (k : Nat) (x : Group) : (d.setGroup k x).taskQ = d.taskQ := rfl
@[simp] theorem setGroup_objs (d : Device) (k : Nat) (x : Group) : (d.setGroup k x).objs = d.objs := rfl
@[simp] theorem setGroup_reqs (d : Device) (k : Nat) (x : Group) : (d.setGroup k x).reqs = d.reqs := rfl
@[simp] theorem setGroup_ops (d : Device) (k : Nat) (x : Group) : (d.setGroup k x).ops = d.ops := rfl
@[simp] theorem setGroup_bmvs (d : Device) (k : Nat) (x : Group) : (d.setGroup k x).bmvs = d.bmvs := rfl
@[simp] theorem setGroup_mdone (d : Device) (k : Nat) (x : Group) : (d.setGroup k x).mdone = d.mdone := rfl
@[simp] theorem setGroup_banks (d : Device) (k : Nat) (x : Group) : (d.setGroup k x).banks = d.banks := rfl
@[simp] theorem setGroup_fns (d : Device) (k : Nat) (x : Group) : (d.setGroup k x).fns = d.fns := rfl
@[simp] theorem setGroup_mgmt (d : Device) (k : Nat) (x : Group) : (d.setGroup k x).mgmt = d.mgmt := rfl
@[simp] theorem setGroup_trace (d : Device) (k : Nat) (x : Group) : (d.setGroup k x).trace = d.trace := rfl
@[simp] theorem setGroup_out (d : Device) (k : Nat) (x : Group) : (d.setGroup k x).out = d.out := rfl
@[simp] theorem setGroup_lastCommit (d : Device) (k : Nat) (x : Group) : (d.setGroup k x).lastCommit = d.lastCommit := rfl
@[simp] theorem setGroup_draws (d : Device) (k : Nat) (x : Group) : (d.setGroup k x).draws = d.draws := rfl
@[simp] theorem setGroup_nextId (d : Device) (k : Nat) (x : Group) : (d.setGroup k x).nextId = d.nextId := rfl

/-! ## Operations on a pass -/

@[simp] theorem push_dev (p : Spec) (t : Bool) (ws : List (RegLoc × Word128)) : (p.push t ws).dev = p.dev := rfl
@[simp] theorem push_gid (p : Spec) (t : Bool) (ws : List (RegLoc × Word128)) : (p.push t ws).gid = p.gid := rfl
@[simp] theorem push_grp (p : Spec) (t : Bool) (ws : List (RegLoc × Word128)) : (p.push t ws).grp = p.grp := rfl
@[simp] theorem push_wid (p : Spec) (t : Bool) (ws : List (RegLoc × Word128)) : (p.push t ws).wid = p.wid := rfl
@[simp] theorem push_slot (p : Spec) (t : Bool) (ws : List (RegLoc × Word128)) : (p.push t ws).slot = p.slot := rfl
@[simp] theorem push_off (p : Spec) (t : Bool) (ws : List (RegLoc × Word128)) : (p.push t ws).off = p.off := rfl
@[simp] theorem push_xfer (p : Spec) (t : Bool) (ws : List (RegLoc × Word128)) : (p.push t ws).xfer = p.xfer := rfl
@[simp] theorem push_taken (p : Spec) (t : Bool) (ws : List (RegLoc × Word128)) : (p.push t ws).taken = p.taken := rfl
@[simp] theorem push_cut (p : Spec) (t : Bool) (ws : List (RegLoc × Word128)) : (p.push t ws).cut = p.cut := rfl
@[simp] theorem push_split (p : Spec) (t : Bool) (ws : List (RegLoc × Word128)) : (p.push t ws).split = p.split := rfl
@[simp] theorem push_prefs (p : Spec) (t : Bool) (ws : List (RegLoc × Word128)) : (p.push t ws).prefs = p.prefs := rfl
@[simp] theorem push_kept (p : Spec) (t : Bool) (ws : List (RegLoc × Word128)) : (p.push t ws).kept = p.kept := rfl
@[simp] theorem push_dests (p : Spec) (t : Bool) (ws : List (RegLoc × Word128)) : (p.push t ws).dests = p.dests := rfl
@[simp] theorem push_released (p : Spec) (t : Bool) (ws : List (RegLoc × Word128)) : (p.push t ws).released = p.released := rfl
@[simp] theorem push_hold (p : Spec) (t : Bool) (ws : List (RegLoc × Word128)) : (p.push t ws).hold = p.hold := rfl
@[simp] theorem push_first (p : Spec) (t : Bool) (ws : List (RegLoc × Word128)) : (p.push t ws).first = p.first := rfl
@[simp] theorem push_pts0 (p : Spec) (t : Bool) (ws : List (RegLoc × Word128)) : (p.push t ws).pts0 = p.pts0 := rfl
@[simp] theorem push_allot (p : Spec) (t : Bool) (ws : List (RegLoc × Word128)) : (p.push t ws).allot = p.allot := rfl
@[simp] theorem push_fpxBase (p : Spec) (t : Bool) (ws : List (RegLoc × Word128)) : (p.push t ws).fpxBase = p.fpxBase := rfl
@[simp] theorem push_oobBase (p : Spec) (t : Bool) (ws : List (RegLoc × Word128)) : (p.push t ws).oobBase = p.oobBase := rfl

@[simp] theorem setFpx_dev (p : Spec) (x : Fx) : (p.setFpx x).dev = p.dev := rfl
@[simp] theorem setFpx_gid (p : Spec) (x : Fx) : (p.setFpx x).gid = p.gid := rfl
@[simp] theorem setFpx_grp (p : Spec) (x : Fx) : (p.setFpx x).grp = p.grp := rfl
@[simp] theorem setFpx_wid (p : Spec) (x : Fx) : (p.setFpx x).wid = p.wid := rfl
@[simp] theorem setFpx_prt (p : Spec) (x : Fx) : (p.setFpx x).prt = p.prt := rfl
@[simp] theorem setFpx_slot (p : Spec) (x : Fx) : (p.setFpx x).slot = p.slot := rfl
@[simp] theorem setFpx_off (p : Spec) (x : Fx) : (p.setFpx x).off = p.off := rfl
@[simp] theorem setFpx_xfer (p : Spec) (x : Fx) : (p.setFpx x).xfer = p.xfer := rfl
@[simp] theorem setFpx_taken (p : Spec) (x : Fx) : (p.setFpx x).taken = p.taken := rfl
@[simp] theorem setFpx_cut (p : Spec) (x : Fx) : (p.setFpx x).cut = p.cut := rfl
@[simp] theorem setFpx_split (p : Spec) (x : Fx) : (p.setFpx x).split = p.split := rfl
@[simp] theorem setFpx_prefs (p : Spec) (x : Fx) : (p.setFpx x).prefs = p.prefs := rfl
@[simp] theorem setFpx_kept (p : Spec) (x : Fx) : (p.setFpx x).kept = p.kept := rfl
@[simp] theorem setFpx_dests (p : Spec) (x : Fx) : (p.setFpx x).dests = p.dests := rfl
@[simp] theorem setFpx_released (p : Spec) (x : Fx) : (p.setFpx x).released = p.released := rfl
@[simp] theorem setFpx_hold (p : Spec) (x : Fx) : (p.setFpx x).hold = p.hold := rfl
@[simp] theorem setFpx_first (p : Spec) (x : Fx) : (p.setFpx x).first = p.first := rfl
@[simp] theorem setFpx_pts0 (p : Spec) (x : Fx) : (p.setFpx x).pts0 = p.pts0 := rfl
@[simp] theorem setFpx_allot (p : Spec) (x : Fx) : (p.setFpx x).allot = p.allot := rfl
@[simp] theorem setFpx_fpxBase (p : Spec) (x : Fx) : (p.setFpx x).fpxBase = p.fpxBase := rfl
@[simp] theorem setFpx_oobBase (p : Spec) (x : Fx) : (p.setFpx x).oobBase = p.oobBase := rfl

@[simp] theorem holdFor_dev (p : Spec) (r : HoldReason) : (p.holdFor r).dev = p.dev := by unfold Spec.holdFor; split <;> rfl
@[simp] theorem holdFor_gid (p : Spec) (r : HoldReason) : (p.holdFor r).gid = p.gid := by unfold Spec.holdFor; split <;> rfl
@[simp] theorem holdFor_grp (p : Spec) (r : HoldReason) : (p.holdFor r).grp = p.grp := by unfold Spec.holdFor; split <;> rfl
@[simp] theorem holdFor_wid (p : Spec) (r : HoldReason) : (p.holdFor r).wid = p.wid := by unfold Spec.holdFor; split <;> rfl
@[simp] theorem holdFor_wav (p : Spec) (r : HoldReason) : (p.holdFor r).wav = p.wav := by unfold Spec.holdFor; split <;> rfl
@[simp] theorem holdFor_prt (p : Spec) (r : HoldReason) : (p.holdFor r).prt = p.prt := by unfold Spec.holdFor; split <;> rfl
@[simp] theorem holdFor_slot (p : Spec) (r : HoldReason) : (p.holdFor r).slot = p.slot := by unfold Spec.holdFor; split <;> rfl
@[simp] theorem holdFor_off (p : Spec) (r : HoldReason) : (p.holdFor r).off = p.off := by unfold Spec.holdFor; split <;> rfl
@[simp] theorem holdFor_xfer (p : Spec) (r : HoldReason) : (p.holdFor r).xfer = p.xfer := by unfold Spec.holdFor; split <;> rfl
@[simp] theorem holdFor_taken (p : Spec) (r : HoldReason) : (p.holdFor r).taken = p.taken := by unfold Spec.holdFor; split <;> rfl
@[simp] theorem holdFor_cut (p : Spec) (r : HoldReason) : (p.holdFor r).cut = p.cut := by unfold Spec.holdFor; split <;> rfl
@[simp] theorem holdFor_split (p : Spec) (r : HoldReason) : (p.holdFor r).split = p.split := by unfold Spec.holdFor; split <;> rfl
@[simp] theorem holdFor_prefs (p : Spec) (r : HoldReason) : (p.holdFor r).prefs = p.prefs := by unfold Spec.holdFor; split <;> rfl
@[simp] theorem holdFor_kept (p : Spec) (r : HoldReason) : (p.holdFor r).kept = p.kept := by unfold Spec.holdFor; split <;> rfl
@[simp] theorem holdFor_dests (p : Spec) (r : HoldReason) : (p.holdFor r).dests = p.dests := by unfold Spec.holdFor; split <;> rfl
@[simp] theorem holdFor_released (p : Spec) (r : HoldReason) : (p.holdFor r).released = p.released := by unfold Spec.holdFor; split <;> rfl
@[simp] theorem holdFor_first (p : Spec) (r : HoldReason) : (p.holdFor r).first = p.first := by unfold Spec.holdFor; split <;> rfl
@[simp] theorem holdFor_pts0 (p : Spec) (r : HoldReason) : (p.holdFor r).pts0 = p.pts0 := by unfold Spec.holdFor; split <;> rfl
@[simp] theorem holdFor_allot (p : Spec) (r : HoldReason) : (p.holdFor r).allot = p.allot := by unfold Spec.holdFor; split <;> rfl
@[simp] theorem holdFor_fpxBase (p : Spec) (r : HoldReason) : (p.holdFor r).fpxBase = p.fpxBase := by unfold Spec.holdFor; split <;> rfl
@[simp] theorem holdFor_oobBase (p : Spec) (r : HoldReason) : (p.holdFor r).oobBase = p.oobBase := by unfold Spec.holdFor; split <;> rfl
@[simp] theorem stopFor_dev (p : Spec) (r : HoldReason) : (p.stopFor r).dev = p.dev := holdFor_dev p r
@[simp] theorem stopFor_gid (p : Spec) (r : HoldReason) : (p.stopFor r).gid = p.gid := holdFor_gid p r
@[simp] theorem stopFor_grp (p : Spec) (r : HoldReason) : (p.stopFor r).grp = p.grp := holdFor_grp p r
@[simp] theorem stopFor_wid (p : Spec) (r : HoldReason) : (p.stopFor r).wid = p.wid := holdFor_wid p r
@[simp] theorem stopFor_wav (p : Spec) (r : HoldReason) : (p.stopFor r).wav = p.wav := holdFor_wav p r
@[simp] theorem stopFor_prt (p : Spec) (r : HoldReason) : (p.stopFor r).prt = p.prt := holdFor_prt p r
@[simp] theorem stopFor_slot (p : Spec) (r : HoldReason) : (p.stopFor r).slot = p.slot := holdFor_slot p r
@[simp] theorem stopFor_off (p : Spec) (r : HoldReason) : (p.stopFor r).off = p.off := holdFor_off p r
@[simp] theorem stopFor_xfer (p : Spec) (r : HoldReason) : (p.stopFor r).xfer = p.xfer := holdFor_xfer p r
@[simp] theorem stopFor_taken (p : Spec) (r : HoldReason) : (p.stopFor r).taken = p.taken := holdFor_taken p r
@[simp] theorem stopFor_split (p : Spec) (r : HoldReason) : (p.stopFor r).split = p.split := holdFor_split p r
@[simp] theorem stopFor_prefs (p : Spec) (r : HoldReason) : (p.stopFor r).prefs = p.prefs := holdFor_prefs p r
@[simp] theorem stopFor_kept (p : Spec) (r : HoldReason) : (p.stopFor r).kept = p.kept := holdFor_kept p r
@[simp] theorem stopFor_dests (p : Spec) (r : HoldReason) : (p.stopFor r).dests = p.dests := holdFor_dests p r
@[simp] theorem stopFor_released (p : Spec) (r : HoldReason) : (p.stopFor r).released = p.released := holdFor_released p r
@[simp] theorem stopFor_first (p : Spec) (r : HoldReason) : (p.stopFor r).first = p.first := holdFor_first p r
@[simp] theorem stopFor_pts0 (p : Spec) (r : HoldReason) : (p.stopFor r).pts0 = p.pts0 := holdFor_pts0 p r
@[simp] theorem stopFor_allot (p : Spec) (r : HoldReason) : (p.stopFor r).allot = p.allot := holdFor_allot p r
@[simp] theorem stopFor_fpxBase (p : Spec) (r : HoldReason) : (p.stopFor r).fpxBase = p.fpxBase := holdFor_fpxBase p r
@[simp] theorem stopFor_oobBase (p : Spec) (r : HoldReason) : (p.stopFor r).oobBase = p.oobBase := holdFor_oobBase p r
@[simp] theorem stopFor_cut (p : Spec) (r : HoldReason) : (p.stopFor r).cut = true := rfl

/-- A hold that is already recorded stays; else the new one is recorded (01 R28). -/
@[simp] theorem holdFor_hold (p : Spec) (r : HoldReason) : (p.holdFor r).hold = some (p.hold.getD r) := by
  unfold Spec.holdFor; split <;> simp_all

@[simp] theorem stopFor_hold (p : Spec) (r : HoldReason) : (p.stopFor r).hold = some (p.hold.getD r) := holdFor_hold p r

@[simp] theorem expel_dev (p : Spec) (l : RegLoc → Bool) : (p.expel l).dev = p.dev := rfl
@[simp] theorem expel_gid (p : Spec) (l : RegLoc → Bool) : (p.expel l).gid = p.gid := rfl
@[simp] theorem expel_grp (p : Spec) (l : RegLoc → Bool) : (p.expel l).grp = p.grp := rfl
@[simp] theorem expel_wid (p : Spec) (l : RegLoc → Bool) : (p.expel l).wid = p.wid := rfl
@[simp] theorem expel_slot (p : Spec) (l : RegLoc → Bool) : (p.expel l).slot = p.slot := rfl
@[simp] theorem expel_off (p : Spec) (l : RegLoc → Bool) : (p.expel l).off = p.off := rfl
@[simp] theorem expel_xfer (p : Spec) (l : RegLoc → Bool) : (p.expel l).xfer = p.xfer := rfl
@[simp] theorem expel_taken (p : Spec) (l : RegLoc → Bool) : (p.expel l).taken = p.taken := rfl
@[simp] theorem expel_cut (p : Spec) (l : RegLoc → Bool) : (p.expel l).cut = p.cut := rfl
@[simp] theorem expel_split (p : Spec) (l : RegLoc → Bool) : (p.expel l).split = p.split := rfl
@[simp] theorem expel_prefs (p : Spec) (l : RegLoc → Bool) : (p.expel l).prefs = p.prefs := rfl
@[simp] theorem expel_kept (p : Spec) (l : RegLoc → Bool) : (p.expel l).kept = p.kept := rfl
@[simp] theorem expel_dests (p : Spec) (l : RegLoc → Bool) : (p.expel l).dests = p.dests := rfl
@[simp] theorem expel_released (p : Spec) (l : RegLoc → Bool) : (p.expel l).released = p.released := rfl
@[simp] theorem expel_hold (p : Spec) (l : RegLoc → Bool) : (p.expel l).hold = p.hold := rfl
@[simp] theorem expel_first (p : Spec) (l : RegLoc → Bool) : (p.expel l).first = p.first := rfl
@[simp] theorem expel_pts0 (p : Spec) (l : RegLoc → Bool) : (p.expel l).pts0 = p.pts0 := rfl
@[simp] theorem expel_allot (p : Spec) (l : RegLoc → Bool) : (p.expel l).allot = p.allot := rfl
@[simp] theorem expel_fpxBase (p : Spec) (l : RegLoc → Bool) : (p.expel l).fpxBase = p.fpxBase := rfl
@[simp] theorem expel_oobBase (p : Spec) (l : RegLoc → Bool) : (p.expel l).oobBase = p.oobBase := rfl
@[simp] theorem putMask_dev (p : Spec) (m : Word64) : (p.putMask m).dev = p.dev := rfl
@[simp] theorem putMask_gid (p : Spec) (m : Word64) : (p.putMask m).gid = p.gid := rfl
@[simp] theorem putMask_grp (p : Spec) (m : Word64) : (p.putMask m).grp = p.grp := rfl
@[simp] theorem putMask_wid (p : Spec) (m : Word64) : (p.putMask m).wid = p.wid := rfl
@[simp] theorem putMask_slot (p : Spec) (m : Word64) : (p.putMask m).slot = p.slot := rfl
@[simp] theorem putMask_off (p : Spec) (m : Word64) : (p.putMask m).off = p.off := rfl
@[simp] theorem putMask_xfer (p : Spec) (m : Word64) : (p.putMask m).xfer = p.xfer := rfl
@[simp] theorem putMask_taken (p : Spec) (m : Word64) : (p.putMask m).taken = p.taken := rfl
@[simp] theorem putMask_cut (p : Spec) (m : Word64) : (p.putMask m).cut = p.cut := rfl
@[simp] theorem putMask_split (p : Spec) (m : Word64) : (p.putMask m).split = p.split := rfl
@[simp] theorem putMask_prefs (p : Spec) (m : Word64) : (p.putMask m).prefs = p.prefs := rfl
@[simp] theorem putMask_kept (p : Spec) (m : Word64) : (p.putMask m).kept = p.kept := rfl
@[simp] theorem putMask_dests (p : Spec) (m : Word64) : (p.putMask m).dests = p.dests := rfl
@[simp] theorem putMask_released (p : Spec) (m : Word64) : (p.putMask m).released = p.released := rfl
@[simp] theorem putMask_hold (p : Spec) (m : Word64) : (p.putMask m).hold = p.hold := rfl
@[simp] theorem putMask_first (p : Spec) (m : Word64) : (p.putMask m).first = p.first := rfl
@[simp] theorem putMask_pts0 (p : Spec) (m : Word64) : (p.putMask m).pts0 = p.pts0 := rfl
@[simp] theorem putMask_allot (p : Spec) (m : Word64) : (p.putMask m).allot = p.allot := rfl
@[simp] theorem putMask_fpxBase (p : Spec) (m : Word64) : (p.putMask m).fpxBase = p.fpxBase := rfl
@[simp] theorem putMask_oobBase (p : Spec) (m : Word64) : (p.putMask m).oobBase = p.oobBase := rfl

@[simp] theorem reload_gid (p : Spec) (d : Device) : (p.reload d).gid = p.gid := rfl
@[simp] theorem reload_wid (p : Spec) (d : Device) : (p.reload d).wid = p.wid := rfl
@[simp] theorem reload_slot (p : Spec) (d : Device) : (p.reload d).slot = p.slot := rfl
@[simp] theorem reload_off (p : Spec) (d : Device) : (p.reload d).off = p.off := rfl
@[simp] theorem reload_xfer (p : Spec) (d : Device) : (p.reload d).xfer = p.xfer := rfl
@[simp] theorem reload_taken (p : Spec) (d : Device) : (p.reload d).taken = p.taken := rfl
@[simp] theorem reload_cut (p : Spec) (d : Device) : (p.reload d).cut = p.cut := rfl
@[simp] theorem reload_split (p : Spec) (d : Device) : (p.reload d).split = p.split := rfl
@[simp] theorem reload_prefs (p : Spec) (d : Device) : (p.reload d).prefs = p.prefs := rfl
@[simp] theorem reload_kept (p : Spec) (d : Device) : (p.reload d).kept = p.kept := rfl
@[simp] theorem reload_dests (p : Spec) (d : Device) : (p.reload d).dests = p.dests := rfl
@[simp] theorem reload_released (p : Spec) (d : Device) : (p.reload d).released = p.released := rfl
@[simp] theorem reload_hold (p : Spec) (d : Device) : (p.reload d).hold = p.hold := rfl
@[simp] theorem reload_first (p : Spec) (d : Device) : (p.reload d).first = p.first := rfl
@[simp] theorem reload_pts0 (p : Spec) (d : Device) : (p.reload d).pts0 = p.pts0 := rfl
@[simp] theorem reload_allot (p : Spec) (d : Device) : (p.reload d).allot = p.allot := rfl
@[simp] theorem reload_fpxBase (p : Spec) (d : Device) : (p.reload d).fpxBase = p.fpxBase := rfl
@[simp] theorem reload_oobBase (p : Spec) (d : Device) : (p.reload d).oobBase = p.oobBase := rfl

/-! ## A part at its header -/

@[simp] theorem atHeader_quads (q : Part) : (atHeader q).quads = q.quads := rfl
@[simp] theorem atHeader_sregs (q : Part) : (atHeader q).sregs = q.sregs := rfl
@[simp] theorem atHeader_pc (q : Part) : (atHeader q).pc = q.pc := rfl
@[simp] theorem atHeader_stack (q : Part) : (atHeader q).stack = q.stack := rfl
@[simp] theorem atHeader_loops (q : Part) : (atHeader q).loops = q.loops := rfl
@[simp] theorem atHeader_pts (q : Part) : (atHeader q).pts = q.pts := rfl
@[simp] theorem atHeader_window (q : Part) : (atHeader q).window = q.window := rfl
@[simp] theorem atHeader_phase (q : Part) : (atHeader q).phase = .header := rfl
@[simp] theorem atHeader_clause (q : Part) : (atHeader q).clause = none := rfl
@[simp] theorem atHeader_mode (q : Part) : (atHeader q).mode = q.mode := rfl
@[simp] theorem atHeader_joinDone (q : Part) : (atHeader q).joinDone = q.joinDone := rfl
@[simp] theorem atHeader_skipJoin (q : Part) : (atHeader q).skipJoin = q.skipJoin := rfl
@[simp] theorem atHeader_passBit (q : Part) : (atHeader q).passBit = q.passBit := rfl
@[simp] theorem atHeader_bpPass (q : Part) : (atHeader q).bpPass = q.bpPass := rfl
@[simp] theorem atHeader_reached (q : Part) : (atHeader q).reached = q.reached := rfl
@[simp] theorem atHeader_limSplit (q : Part) : (atHeader q).limSplit = q.limSplit := rfl
@[simp] theorem atHeader_limFuse (q : Part) : (atHeader q).limFuse = q.limFuse := rfl
@[simp] theorem atHeader_limJoin (q : Part) : (atHeader q).limJoin = q.limJoin := rfl
@[simp] theorem atHeader_bpHere (q : Part) : (atHeader q).bpHere = q.bpHere := rfl
@[simp] theorem atHeader_copyWait (q : Part) : (atHeader q).copyWait = q.copyWait := rfl
@[simp] theorem atHeader_joinWait (q : Part) : (atHeader q).joinWait = q.joinWait := rfl
@[simp] theorem atHeader_fuseWait (q : Part) : (atHeader q).fuseWait = q.fuseWait := rfl
@[simp] theorem atHeader_splitWait (q : Part) : (atHeader q).splitWait = q.splitWait := rfl
@[simp] theorem atHeader_sleep (q : Part) : (atHeader q).sleep = q.sleep := rfl
@[simp] theorem atHeader_sleepTick (q : Part) : (atHeader q).sleepTick = q.sleepTick := rfl
@[simp] theorem atHeader_yieldLeft (q : Part) : (atHeader q).yieldLeft = q.yieldLeft := rfl
@[simp] theorem atHeader_yieldOther (q : Part) : (atHeader q).yieldOther = q.yieldOther := rfl
@[simp] theorem atHeader_starve (q : Part) : (atHeader q).starve = q.starve := rfl
@[simp] theorem atHeader_starved (q : Part) : (atHeader q).starved = q.starved := rfl
@[simp] theorem atHeader_spin (q : Part) : (atHeader q).spin = q.spin := rfl
@[simp] theorem atHeader_spinLine (q : Part) : (atHeader q).spinLine = q.spinLine := rfl
@[simp] theorem atHeader_spinWts (q : Part) : (atHeader q).spinWts = q.spinWts := rfl
@[simp] theorem atHeader_spinFrom (q : Part) : (atHeader q).spinFrom = q.spinFrom := rfl
@[simp] theorem atHeader_demoted (q : Part) : (atHeader q).demoted = q.demoted := rfl
@[simp] theorem atHeader_owed (q : Part) : (atHeader q).owed = q.owed := rfl
@[simp] theorem atHeader_acquired (q : Part) : (atHeader q).acquired = q.acquired := rfl
@[simp] theorem atHeader_fenceTick (q : Part) : (atHeader q).fenceTick = q.fenceTick := rfl
@[simp] theorem atHeader_walked (q : Part) : (atHeader q).walked = [] := rfl
@[simp] theorem atHeader_watch (q : Part) : (atHeader q).watch = none := rfl
@[simp] theorem atHeader_tqReady (q : Part) : (atHeader q).tqReady = q.tqReady := rfl
@[simp] theorem atHeader_bmvTime (q : Part) : (atHeader q).bmvTime = q.bmvTime := rfl
@[simp] theorem atHeader_gbarGo (q : Part) : (atHeader q).gbarGo = q.gbarGo := rfl
@[simp] theorem atHeader_allotWait (q : Part) : (atHeader q).allotWait = q.allotWait := rfl
@[simp] theorem atHeader_tallocGrant (q : Part) : (atHeader q).tallocGrant = q.tallocGrant := rfl
@[simp] theorem atHeader_acqClause (q : Part) : (atHeader q).acqClause = q.acqClause := rfl
@[simp] theorem atHeader_heldAt (q : Part) : (atHeader q).heldAt = q.heldAt := rfl
@[simp] theorem atHeader_issueEnd (q : Part) : (atHeader q).issueEnd = q.issueEnd := rfl
@[simp] theorem atHeader_arrived (q : Part) : (atHeader q).arrived = false := rfl

/-! ## Memory -/

/-- Writing bytes changes memory, and which lines have lost their data, and nothing else. -/
theorem putBytes_frame (d : Device) (keys : List Nat) (b : List Byte) :
    d.putBytes keys b = { d with mem := memPut d.mem (keys.map d.home) b, bad := (d.putBytes keys b).bad } := rfl

/-- Writing bytes keeps the canonical form. -/
theorem memPut_wf (m : SMap 8) (keys : List Nat) (b : List Byte) (h : Memory.wf m = true) : Memory.wf (memPut m keys b) = true :=
  SMap.wf_setAll _ m h

/-- A byte that is not written reads as before. -/
theorem memPut_other (m : SMap 8) (keys : List Nat) (b : List Byte) (a : Nat) (h : a ∉ keys) : (memPut m keys b).get a = m.get a := by
  refine SMap.get_setAll a _ m fun hm => h ?_
  obtain ⟨x, hx, rfl⟩ := List.mem_map.mp hm
  exact (List.of_mem_zip hx).1

/-- A byte just written reads as written. -/
theorem memPut_one (m : SMap 8) (a : Nat) (b : Byte) : (memPut m [a] [b]).get a = b := by
  simp [memPut, SMap.setAll, SMap.get_set]

/-- Writing bytes to the device's memory keeps its canonical form. -/
theorem putBytes_wf (d : Device) (keys : List Nat) (b : List Byte) (h : Memory.wf d.mem = true) :
    Memory.wf (d.putBytes keys b).mem = true := memPut_wf d.mem _ b h

/-- Clearing the device's own memory, as a fundamental reset does, keeps the canonical form. -/
theorem keep_wf (m : SMap 8) (f : Nat → Bool) (h : Memory.wf m = true) : Memory.wf (m.keep f) = true := SMap.wf_keep m f h

/-- Memory right after reset is in canonical form. -/
theorem reset_mem_wf : Memory.wf State.reset.dev.mem = true := rfl

end Sys2Proof.Machine
end

