-- ==== Sys2Proof/Laws/Steps.lean ====
section
/-! SUPPORT. Steps with no encoding, by the operands they name: each is one operation on the device. -/

namespace Sys2Proof.Machine

theorem onOne_of (f : Device → Nat → Device) (s : State) (a : Nat) (l : List Nat) (h : s.arg = a :: l) :
    onOne f s = .next { s with dev := f s.dev a } := by
  rw [onOne, h]; rfl

theorem onPart_of (f : Device → Nat → Nat → Device) (s : State) (a b : Nat) (l : List Nat) (h : s.arg = a :: b :: l) :
    onPart f s = .next { s with dev := f s.dev a b } := by
  rw [onPart, h]; rfl

theorem onFnVal_of (f : Device → Nat → Word64 → Device) (s : State) (a v : Nat) (l : List Nat) (h : s.arg = a :: v :: l) :
    onFnVal f s = .next { s with dev := f s.dev a (BitVec.ofNat 64 v) } := by
  rw [onFnVal, State.word, h]; rfl

/-- A step that leaves the device as it was leaves the state. -/
theorem same (s : State) : ({ s with dev := s.dev } : State) = s := rfl

end Sys2Proof.Machine
end

