-- ==== Sys2Proof/Tests/Slice0.lean ====
section
/-! SUPPORT. Tests: words of every family laid out from the encoding tables of the spec, one ill-formed term for each check, single
steps whose results the spec's examples give, and for every statement concrete states and operands that meet its hypotheses. -/

namespace Sys2Proof.Tests

-- One theorem at a time: each thread of its own takes much memory.
set_option Elab.async false

open Sys2Proof.Machine

/-! ## Words, laid out field by field from the encoding tables (03 R86, R87, R89) -/

/-- A 32-bit word: the major in [6:1] with bit 0 set, and other fields by their lowest bit (03 R87). -/
def w32 (major : Nat) (fields : List (Nat × Nat)) : Nat := fields.foldl (fun n f => n + f.2 * 2 ^ f.1) (2 * major + 1)

/-- A 16-bit form: [15:11] s, [10:5] d, [4:1] op, [0] 0 (03 R86). -/
def w16 (s d op : Nat) : Nat := s * 2 ^ 11 + d * 2 ^ 5 + op * 2

theorem test_words_16 :
    decodeTableWord 16 (w16 31 63 0) = some (.vmov16 31 63) ∧ decodeTableWord 16 (w16 3 40 2) = some (.vsub16 3 40) ∧
    decodeTableWord 16 (w16 1 2 7) = some (.vshl16 1 2) ∧ decodeTableWord 16 (w16 9 33 12) = some (.vmulF3216 9 33) ∧
    decodeTableWord 16 (w16 30 1 15) = some (.vmax16 30 1) := by decide +kernel

theorem test_words_float :
    decodeTableWord 32 (w32 0x03 [(29, 2), (22, 5), (15, 4), (8, 12), (7, 1)]) = some (.vfmaF32 2 5 4 12 1) ∧
    decodeTableWord 32 (w32 0x06 [(29, 1), (22, 127), (15, 64), (8, 3)]) = some (.vmulF16x2 1 127 64 3 0) ∧
    decodeTableWord 32 (w32 0x09 [(29, 6), (22, 1), (15, 2), (8, 3)]) = some (.vsubBf16x2 6 1 2 3 0) ∧
    decodeTableWord 32 (w32 0x0F [(29, 4), (22, 6), (15, 4), (8, 2), (7, 1)]) = some (.vfmaF64 4 6 4 2 1) := by decide +kernel

theorem test_words_integer :
    decodeTableWord 32 (w32 0x10 [(29, 5), (22, 7), (15, 8), (8, 9)]) = some (.vmad 7 8 9 0) ∧
    decodeTableWord 32 (w32 0x11 [(29, 7), (22, 10), (15, 11), (8, 12), (7, 1)]) = some (.vandn 10 11 12 1) ∧
    decodeTableWord 32 (w32 0x12 [(29, 3), (22, 1), (15, 2), (8, 3)]) = some (.vrotl 1 2 3 0) ∧
    decodeTableWord 32 (w32 0x12 [(29, 4), (15, 2), (8, 3)]) = some (.vpopc 2 3 0) ∧
    decodeTableWord 32 (w32 0x13 [(25, 0x7F), (22, 0), (15, 5), (8, 6)]) = some (.vaddi (-1) 5 6 0) ∧
    decodeTableWord 32 (w32 0x14 [(15, 0x10000), (8, 7), (7, 1)]) = some (.vmovi 0x10000 7 1) ∧
    decodeTableWord 32 (w32 0x15 [(29, 0), (15, 62), (8, 9)]) = some (.vmovs 62 9 0) ∧
    decodeTableWord 32 (w32 0x15 [(29, 3), (22, 33), (15, 100), (8, 20)]) = some (.vgetl 33 100 20 0) ∧
    decodeTableWord 32 (w32 0x16 [(29, 4), (22, 1), (15, 2), (8, 63), (7, 1)]) = some (.vcmp 4 1 2 63 1) ∧
    decodeTableWord 32 (w32 0x17 [(29, 6), (22, 1), (15, 2), (8, 5)]) = some (.vcmpf 6 1 2 5 0) ∧
    decodeTableWord 32 (w32 0x18 [(29, 7), (22, 3), (15, 4), (8, 5)]) = some (.vsel 7 3 4 5 0) ∧
    decodeTableWord 32 (w32 0x19 [(27, 31), (22, 1), (15, 2), (8, 3)]) = some (.vbfxu 31 1 2 3 0) ∧
    decodeTableWord 32 (w32 0x1A [(27, 4), (22, 28), (15, 2), (8, 3)]) = some (.vbfx 4 28 2 3 0) ∧
    decodeTableWord 32 (w32 0x1B [(27, 8), (22, 16), (15, 2), (8, 3)]) = some (.vbfi 8 16 2 3 0) := by decide +kernel

theorem test_words_conversion :
    decodeTableWord 32 0xB0428639 = some (.vcvt 1 3 0 1 5 6 0) ∧
    decodeTableWord 32 (w32 0x1D [(29, 2), (22, 8), (15, 9), (8, 10)]) = some (.vpkb 8 9 10 0) ∧
    decodeTableWord 32 (w32 0x1E [(29, 2), (15, 9), (8, 10)]) = some (.vsqrt 9 10 0) ∧
    decodeTableWord 32 (w32 0x1F [(29, 7), (15, 9), (8, 10)]) = some (.vclassF32 9 10 0) ∧
    decodeTableWord 32 (w32 0x20 [(29, 1), (22, 0x45), (15, 9), (8, 10)]) = some (.vswz 0x45 9 10 0) ∧
    decodeTableWord 32 (w32 0x20 [(29, 2), (22, 63), (15, 9), (8, 10)]) = some (.vbcast 63 9 10 0) ∧
    decodeTableWord 32 (w32 0x21 [(29, 5), (15, 9), (8, 10), (7, 1)]) = some (.vredminI32 9 10 1) ∧
    decodeTableWord 32 (w32 0x22 [(29, 0), (22, 8), (15, 9), (8, 10)]) = some (.visect 8 9 10 0) ∧
    decodeTableWord 32 (w32 0x23 [(29, 3), (22, 8), (15, 9), (8, 10)]) = some (.vdot4Ui8 8 9 10 0) ∧
    decodeTableWord 32 (w32 0x24 [(29, 2), (22, 8), (15, 12), (8, 1)]) = some (.rsvmrg 8 12 1 0) ∧
    decodeTableWord 32 (w32 0x25 [(29, 1), (22, 16), (15, 24), (8, 32)]) = some (.raybox 16 24 32 0) := by decide +kernel

theorem test_words_matrix :
    decodeTableWord 32 (w32 0x26 [(31, 1), (30, 0), (29, 1), (28, 0), (24, 13), (21, 5), (14, 64), (11, 4), (7, 6)]) =
      some (.mma 1 0 1 0 13 5 64 4 6) ∧
    decodeTableWord 32 (w32 0x27 [(14, 10), (11, 1)]) = some (.obres 10 1) ∧
    decodeTableWord 32 0x025061CF = some (.accrd 0 2 40 12) ∧
    decodeTableWord 32 (w32 0x27 [(31, 1), (18, 8), (14, 2), (11, 1), (7, 8)]) = some (.chartq 1 8 2 1) ∧
    decodeTableWord 32 (w32 0x27 [(20, 1), (15, 16), (11, 15), (7, 9)]) = some (.talloc 1 16 15) := by decide +kernel

theorem test_words_scalar :
    decodeTableWord 32 (w32 0x28 [(25, 19), (19, 1), (13, 2), (7, 3)]) = some (.ssltu 1 2 3) ∧
    decodeTableWord 32 (w32 0x28 [(25, 22), (13, 2), (7, 3)]) = some (.spopc 2 3) ∧
    decodeTableWord 32 (w32 0x29 [(19, 0x1FFF), (13, 4), (7, 5)]) = some (.saddi (-1) 4 5) ∧
    decodeTableWord 32 (w32 0x2A [(22, 63), (19, 3), (13, 4), (7, 5)]) = some (.sshli 63 4 5) ∧
    decodeTableWord 32 (w32 0x2B [(31, 0), (15, 0xBEEF), (13, 3), (7, 5)]) = some (.sinsh 0xBEEF 3 5) ∧
    decodeTableWord 32 (w32 0x2B [(31, 1), (15, 0x8000), (13, 1), (7, 5)]) = some (.smovh 0x8000 1 5) ∧
    decodeTableWord 32 (w32 0x2D [(25, 64), (19, 63), (13, 4), (7, 5)]) = some (.sbfx 64 63 4 5) ∧
    decodeTableWord 32 (w32 0x2E [(25, 8), (19, 8), (13, 4), (7, 5)]) = some (.sbfi 8 8 4 5) := by decide +kernel

theorem test_words_control :
    decodeTableWord 32 (w32 0x2F [(11, 0x1FFFFF), (7, 0)]) = some (.bra (-1)) ∧
    decodeTableWord 32 (w32 0x2F [(17, 12), (11, 9), (7, 1)]) = some (.brnz 12 9) ∧
    decodeTableWord 32 (w32 0x2F [(17, 12), (11, 9), (7, 3)]) = some (.brm 12 9) ∧
    decodeTableWord 32 (w32 0x2F [(11, 31), (7, 4)]) = some (.join 31) ∧
    decodeTableWord 32 (w32 0x2F [(11, 62), (7, 7)]) = some (.ret 62) ∧
    decodeTableWord 32 (w32 0x2F [(21, 40), (11, 1023), (7, 9)]) = some (.loopi 40 1023) ∧
    decodeTableWord 32 (w32 0x2F [(11, 0xFFFF), (7, 11)]) = some (.trap 0xFFFF) ∧
    decodeTableWord 32 (w32 0x2F [(7, 15)]) = some .nop ∧
    decodeTableWord 32 (w32 0x30 [(21, 7), (11, 0x019)]) = some (.sread 7 0x019) ∧
    decodeTableWord 32 (w32 0x30 [(17, 7), (11, 8), (7, 4)]) = some (.tqinit 7 8) ∧
    decodeTableWord 32 (w32 0x30 [(18, 7), (11, 8), (7, 6)]) = some (.launch 7 8) ∧
    decodeTableWord 32 (w32 0x30 [(11, 62), (7, 8)]) = some (.gettime 62) := by decide +kernel

theorem test_words_memory :
    decodeTableWord 32 (w32 0x31 [(29, 1), (24, 31), (21, 6), (15, 4), (8, 8), (7, 1)]) = some (.vld 1 31 6 4 8 1) ∧
    decodeTableWord 32 (w32 0x32 [(24, 2), (21, 4), (15, 4), (8, 9)]) = some (.vst 0 2 4 4 9) ∧
    decodeTableWord 32 (w32 0x33 [(22, 1023), (19, 4), (13, 4), (7, 9)]) = some (.sld 1023 4 4 9) ∧
    decodeTableWord 32 (w32 0x34 [(22, 1), (19, 5), (13, 4), (7, 9)]) = some (.sst 1 5 4 9) ∧
    decodeTableWord 32 (w32 0x35 [(25, 127), (22, 0), (15, 4), (8, 9), (7, 1)]) = some (.ldl 127 0 4 9 1) ∧
    decodeTableWord 32 (w32 0x36 [(25, 1), (22, 3), (15, 4), (8, 9)]) = some (.stl 1 3 4 9) ∧
    decodeTableWord 32 (w32 0x37 [(29, 7), (22, 2), (15, 4), (8, 9), (7, 1)]) = some (.atoml 7 2 4 9 1) ∧
    decodeTableWord 32 (w32 0x38 [(30, 2), (29, 1), (26, 6), (20, 2), (14, 4), (8, 9), (7, 0)]) = some (.atomg 2 1 6 2 4 9 0) ∧
    decodeTableWord 32 (w32 0x39 [(24, 11), (21, 0), (15, 4), (8, 10)]) = some (.atomgv 11 0 4 10 0) ∧
    decodeTableWord 32 (w32 0x3A [(11, 3), (7, 10)]) = some (.fence 3 10) ∧
    decodeTableWord 32 (w32 0x3A [(13, 1)]) = some .bfence := by decide +kernel

theorem test_words_engines :
    decodeTableWord 32 (w32 0x3B [(23, 1), (17, 11), (11, 10), (7, 0)]) = some (.tcopy 1 11 10) ∧
    decodeTableWord 32 (w32 0x3B [(11, 12), (7, 1)]) = some (.sealBatch 12) ∧
    decodeTableWord 32 (w32 0x3B [(25, 1), (17, 3), (11, 4), (7, 5)]) = some (.pref 1 3 4) ∧
    decodeTableWord 32 (w32 0x3C [(17, 5), (11, 4), (7, 1)]) = some (.bararr 5 4) ∧
    decodeTableWord 32 (w32 0x3C [(23, 6), (17, 5), (11, 4), (7, 4)]) = some (.bartry 6 5 4) ∧
    decodeTableWord 32 (w32 0x3C [(11, 255), (7, 5)]) = some (.gbar 255) ∧
    decodeTableWord 32 (w32 0x3D [(31, 1), (11, 10), (7, 0)]) = some (.bmv 1 10) ∧
    decodeTableWord 32 (w32 0x3D [(17, 9), (11, 8), (7, 2)]) = some (.bstat 0 9 8) := by decide +kernel

/-! ## One ill-formed term for each check (03 R90) -/

theorem test_wf_fields :
    (Instr.vaddF32 7 0 0 0 0).wf = false ∧ (Instr.vld 0 0 7 0 0 0).wf = false ∧ (Instr.vcvt 0 2 2 0 0 0 0).wf = false ∧
    (Instr.mma 0 0 0 0 0 0 0 7 0).wf = false ∧ (Instr.mma 0 0 0 0 0 0 0 0 8).wf = false ∧ (Instr.atomg 3 0 0 0 0 0 0).wf = false ∧
    (Instr.fence 0 11).wf = false ∧ (Instr.sbfx 65 0 0 0).wf = false ∧ (Instr.join 21).wf = false ∧ (Instr.join 30).wf = false ∧
    (Instr.sread 0 9).wf = false ∧ (Instr.swrite 0 0x16).wf = false ∧ (Instr.talloc 0 17 0).wf = false ∧ (Instr.talloc 0 0 0).wf = false ∧
    (Instr.gettime 1).wf = false ∧ (Instr.vld 0 0 6 0 2 0).wf = false ∧ (Instr.rsvrd 0 126 0).wf = false := by decide +kernel

theorem test_wf_border :
    (Instr.vaddF32 6 127 127 127 1).wf = true ∧ (Instr.vcvt 0 0 0 0 0 0 0).wf = true ∧ (Instr.fence 3 10).wf = true ∧
    (Instr.sbfx 64 63 63 63).wf = true ∧ (Instr.join 20).wf = true ∧ (Instr.join 31).wf = true ∧ (Instr.talloc 1 16 15).wf = true ∧
    (Instr.rsvrd 1 124 0).wf = true ∧ (Instr.vld 1 31 6 63 124 1).wf = true := by decide +kernel

/-- Why bytes are refused. -/
def why (b : List Byte) : Option Bad := match decode b with
  | .ok _ => none
  | .error e => some e

theorem test_refused_words :
    why [0x31] = some .truncated ∧ why [0x31, 0, 0] = some .truncated ∧ why [0x7F, 0, 0, 0] = some .header ∧
    decodeTableWord 32 (w32 0x3F []) = none ∧ decodeTableWord 32 (w32 0x3E []) = none ∧
    decodeTableWord 32 (w32 0x28 [(25, 29)]) = none ∧ decodeTableWord 32 (w32 0x15 [(29, 5)]) = none ∧
    decodeTableWord 32 (w32 0x16 [(14, 1)]) = none ∧ decodeTableWord 32 (w32 0x12 [(29, 4), (22, 1)]) = none ∧
    decodeTableWord 32 (w32 0x2F [(31, 1), (7, 15)]) = none ∧ decodeTableWord 32 (w32 0x3A [(13, 1), (7, 1)]) = none := by decide +kernel

/-! ## A small machine: one wave on core 0, its clause at 0x10000, data at 0x20000 -/

/-- A packet: one group of one wave of 4 × 2^w lanes, 4,096 bytes of scratchpad, and every area (09 R238). -/
def pk (w : Nat) : List Word64 :=
  [BitVec.ofNat 64 (1 + w * 1024), 0x10000, 0, 1, 0x100001, 0, 0x20100, 0x20200, 0, 0x28000, 0, 1, 3, 0, 0x01008080]

/-- Its launch, with set 5 of the one wave. -/
def lch (w : Nat) : Launch := ⟨0, 0, 0, pk w, [], [(0x10005, 1)], 0, 0, 0, true, 1, false, none, false⟩

/-- A clause of one instruction: flags f0 and f1 (03 R79). -/
def clause (i : Instr) : Clause := ⟨0x1000007F#32, encode i, 0x10008⟩

/-- The wave, its clause issued. -/
def wv (w : Nat) (i : Instr) : Wave :=
  let x := newWave 0 0 (lch w) 0 0 (0, 0, 0) 0 0
  { x with parts := x.parts.map fun q => { q with phase := .issuing 1, clause := some (clause i) } }

/-- Its part. -/
def prt (w : Nat) (i : Instr) : Part := (wv w i).parts.head (by simp [wv, newWave])

/-- Its group. -/
def grp (w : Nat) : Group := newGroup 0 0 0 0 (pk w)

/-- Core 0 with two leaves: code, and data. -/
def core0 : Core :=
  { Core.reset with tlb := [⟨(0, 0), 0x10000, 0x10000, 0x10000, 0, 0, false, 0, true, false, true⟩,
                            ⟨(0, 0), 0x20000, 0x10000, 0x20000, 0, 0, false, 0, false, true, true⟩] }

/-- Code with headers at 0x10000, 0x10008, 0x10010 and 0x10020, the first a marker with its entry at 0x30000. -/
def obj : CodeObj := ⟨1, (0, 0), 0x10000, 64, [0, 4, 8, 16], [0], 0x30000⟩

/-- Function 0: address space 0 is valid, its root page at 0x40000. -/
def fn0 : HostFn := { HostFn.reset with asroot := [(0, 0x40001)] }

/-- The device. -/
def dv (w : Nat) (i : Instr) : Device :=
  { Device.reset with
    mem := memPut [] ((List.range 8).map (0x10000 + ·)) ([0x7F, 0, 0, 0x10] ++ (encode i ++ [0, 0]).take 4)
    cores := [(0, core0)], groups := [(0, grp w)], waves := [(0, wv w i)], launches := [(0, lch w)], objs := [obj]
    fns := [(0, fn0)], mgmt := { Mgmt.reset with devstate := 2 } }

/-- The pass over the clause. -/
def ps (w : Nat) (i : Instr) : Spec := passOf (dv w i) 0 (grp w) 0 (wv w i) (prt w i) 128

/-- The state with a pass. -/
def st (p : Spec) : State := ⟨p.dev, some p, [], []⟩

/-- A pass with a scalar register set. -/
def withS (p : Spec) (r : Nat) (v : Word64) : Spec := { p with prt := { p.prt with sregs := p.prt.sregs.set r v } }

/-- A pass with a vector register of lane 0 set. -/
def withV (p : Spec) (r : Nat) (v : Word32) : Spec := { p with wav := { p.wav with vregs := p.wav.vregs.set (vkey r 0) v } }

/-- A pass with bytes of the scratchpad set. -/
def withPad (p : Spec) (off : Nat) (b : List Byte) : Spec :=
  { p with grp := { p.grp with spad := p.grp.spad.setAll (b.mapIdx fun i x => (off + i, x)) } }

/-- A legal instruction of a pass is ready in its state. -/
theorem ready {i : Instr} {p : Spec} (h : legalAt p i = true) : Ready i (st p) p := ⟨rfl, h⟩

/-- Dwords as bytes. -/
def dwords (l : List Nat) : List Byte := l.flatMap fun n => leBytes 8 n

/-! ## Single steps, with results that the spec's worked examples give -/

/-- The pass after an instruction of 4 × 2^w lanes, from registers of lane 0. -/
def after (w : Nat) (i : Instr) (vs : List (Nat × Nat)) (ss : List (Nat × Nat)) : Option Spec :=
  let p := ss.foldl (fun p x => withS p x.1 (BitVec.ofNat 64 x.2)) (vs.foldl (fun p x => withV p x.1 (BitVec.ofNat 32 x.2)) (ps w i))
  match exec i (st p) with
  | .next s => s.spec
  | _ => none

/-- The same of an instruction word. -/
def afterWord (n : Nat) (vs ss : List (Nat × Nat)) : Option Spec := (decodeTableWord 32 n).bind fun i => after 0 i vs ss

/-- A vector register of lane 0 and the exceptions: NV 1, OF 4, UF 8, NX 16. -/
def lane0 (r : Nat) (p : Option Spec) : Option (Nat × Nat) := p.map fun p => ((p.vreg r 0).toNat, p.wav.fpx.toNat)

/-- A scalar register. -/
def sreg (r : Nat) (p : Option Spec) : Option Nat := p.map fun p => (p.sreg r).toNat

/-- 05, the example of VFMA. -/
theorem test_vfma : lane0 12 (afterWord 0x41420C87 [(4, 0x40400000), (5, 0x3F800001), (12, 0xC0400000)] []) = some (0x34C00000, 0) := by
  decide +kernel

/-- 05, the example of VCVT. -/
theorem test_vcvt : lane0 6 (afterWord 0xB0428639 [(5, 0x43960000)] []) = some (0x79, 16) ∧
    lane0 6 (afterWord 0xB0428639 [(5, 0x43FA0000)] []) = some (0x7E, 20) ∧
    lane0 6 (afterWord 0x30428639 [(5, 0x43FA0000)] []) = some (0x7F, 20) := by decide +kernel

/-- 08, the examples of VRAND and VRANDU. -/
theorem test_vrand : lane0 10 (afterWord 0x65020A45 [(4, 1)] []) = some (0x75F23DE6, 0) ∧
    lane0 10 (after 0 (.vrandu 20 4 10 0) [(4, 1)] []) = some (0x3EEBE47A, 0) := by decide +kernel

/-- 04, the example of the bit fields. -/
theorem test_bitfields : sreg 3 (after 0 (.sbfxu 8 60 2 3) [] [(2, 0xA000000000000000)]) = some 0xA ∧
    sreg 3 (after 0 (.sbfx 8 60 2 3) [] [(2, 0xA000000000000000)]) = some 0xFFFFFFFFFFFFFFFA ∧
    sreg 3 (after 0 (.sbfi 8 60 5 3) [] [(5, 0xFF)]) = some 0xF000000000000000 ∧
    sreg 4 (after 0 (.smovh 0x40 2 4) [] []) = some 0x4000000000 := by decide +kernel

/-- 05, the example of the dot products. -/
theorem test_dots : lane0 7 (after 0 (.vdot2F16 6 5 7 0) [(5, 0x3C004000), (6, 0xC0003800), (7, 0x41200000)] []) = some (0x41100000, 0) ∧
    lane0 7 (after 0 (.vdot4I8 6 5 7 0) [(5, 0x80FF0102), (6, 0x02020202)] []) = some (0xFFFFFF04, 0) := by decide +kernel

/-- 05, the example of the online softmax: its second update and its end. -/
theorem test_softmax : lane0 3 (after 0 (.smxupd 5 4 2 0) [(2, 0x40400000), (3, 0x3F800000), (4, 0x3F800000), (5, 0x3F800000)] []) =
      some (0x3FA00000, 0) ∧
    lane0 8 (after 0 (.smxfin 2 4 8 0) [(2, 0x40400000), (3, 0x3FA00000), (4, 0x40400000)] []) = some (0x3F4CCCCD, 16) := by decide +kernel

/-- A pass whose q0 of lane 0 holds y 9, the target value 3.0, the sum 8.0 and three candidates. -/
def reservoir (i : Instr) (vs : List (Nat × Nat)) : Option Spec :=
  let p := vs.foldl (fun p x => withV p x.1 (BitVec.ofNat 32 x.2)) (ps 0 i)
  let q : Spec := { p with wav := { p.wav with qregs := p.wav.qregs.set 0 (Rsv.bits ⟨9, 0x40400000, 0x41000000, 3⟩) } }
  match exec i (st q) with
  | .next s => s.spec
  | _ => none

/-- 08, the example of the reservoirs: RSVFIN, and the merge. -/
theorem test_reservoir : lane0 4 (reservoir (.rsvfin 0 4 0) []) = some (9, 16) ∧ lane0 5 (reservoir (.rsvfin 0 4 0) []) = some (0x3F638E39, 16) ∧
    ((reservoir (.rsvmrg 20 10 0 0) [(10, 4), (12, 0x3F000000), (13, 2), (20, 0x40000000), (21, 0x3E000000)]).map fun p => (p.qreg 0 0).toNat) =
      some (4 + 0x40000000 * 2 ^ 32 + 0x41200000 * 2 ^ 64 + 5 * 2 ^ 96) := by decide +kernel

/-- Eight lanes with the keys and values of the example of VCONFLICT. -/
def conflict (i : Instr) : Option Spec :=
  let p := ps 1 i
  let put (r : Nat) (l : List Nat) (p : Spec) : Spec :=
    { p with wav := { p.wav with vregs := l.zipIdx.foldl (fun m x => m.set (vkey r x.2) (BitVec.ofNat 32 x.1)) p.wav.vregs } }
  match exec i (st (put 0 [0x3F800000, 0x3F000000, 0x4B800000, 0x3F800000, 0x40400000, 0x3E800000, 0x3F800000, 0x41000000]
    (put 1 [3, 5, 3, 3, 7, 5, 3, 2] p))) with
  | .next s => s.spec
  | _ => none

/-- 05, the example of VCONFLICT and VCOMBINE. -/
theorem test_conflict :
    ((conflict (.vconflict 1 2 0)).map fun p => (List.range 8).map fun l => (p.vreg 2 l).toNat) =
      some [0x40000, 0x20001, 0x40100, 0x40200, 0x10004, 0x20101, 0x40300, 0x10007] ∧
    ((conflict (.vcombineF32 1 0 3 0)).map fun p => (List.range 8).map fun l => (p.vreg 3 l).toNat) =
      some [0x4B800000, 0x3F400000, 0, 0, 0x40400000, 0, 0, 0x41000000] := by decide +kernel

/-- Registers from one on. -/
def regsFrom (r : Nat) (l : List Nat) : List (Nat × Nat) := l.zipIdx.map fun x => (r + x.2, x.1)

/-- 08, the examples of RAYTRI and RAYBOX. -/
theorem test_rays :
    ((after 0 (.raytri 20 10 40 0) (regsFrom 10 [0x3E800000, 0x3E800000, 0xBF800000, 0, 0, 0x3F800000, 0x41200000] ++
      regsFrom 20 [0, 0, 0, 0x3F800000, 0, 0, 0, 0x3F800000, 0]) []).map fun p =>
        (List.range 3).map fun k => (p.vreg (40 + k) 0).toNat) = some [0x3F800000, 0x3E800000, 0x3E800000] ∧
    ((after 0 (.raybox 20 10 40 0) (regsFrom 10 [0x3E800000, 0x3E800000, 0xBF800000, 0x7F800000, 0x7F800000, 0x3F800000, 0x41200000] ++
      regsFrom 20 [0, 0, 0xBF000000, 0x3F800000, 0x3F800000, 0x3F000000]) []).map fun p =>
        (List.range 2).map fun k => (p.vreg (40 + k) 0).toNat) = some [0x3F000000, 0x3FC00000] := by decide +kernel

/-! ## Hypotheses met: results of instructions -/

theorem witness_ScalarResults :
    (∃ f, salu2 (.sadd 1 2 3) = some (1, 2, 3, f)) ∧ (∃ f, salu1 (.sctz 2 3) = some (2, 3, f)) ∧
    (∃ f, saluField (.sbfx 64 63 2 3) = some (2, 3, f)) ∧ Ready (.sbfx 64 63 2 3) (st (ps 0 (.sbfx 64 63 2 3))) (ps 0 (.sbfx 64 63 2 3)) :=
  ⟨⟨_, rfl⟩, ⟨_, rfl⟩, ⟨_, rfl⟩, ready (by decide +kernel)⟩

theorem witness_IntegerLanes_two :
    (∃ f, lane3 (full (.vadd 127 0 127 1)) = some (127, 0, 127, f)) ∧
    Ready (.vadd 127 0 127 1) (st (ps 0 (.vadd 127 0 127 1))) (ps 0 (.vadd 127 0 127 1)) ∧
    (∃ f, lane3 (full (.vmov16 31 63)) = some (31, 31, 63, f)) ∧ Ready (.vmov16 31 63) (st (ps 4 (.vmov16 31 63))) (ps 4 (.vmov16 31 63)) :=
  ⟨⟨_, rfl⟩, ready (by decide +kernel), ⟨_, rfl⟩, ready (by decide +kernel)⟩

theorem witness_IntegerLanes_one :
    (∃ f, lane1 (.vmuli 0x40 1 2 0) = some (1, 2, f)) ∧ Ready (.vmuli 0x40 1 2 0) (st (ps 0 (.vmuli 0x40 1 2 0))) (ps 0 (.vmuli 0x40 1 2 0)) :=
  ⟨⟨_, rfl⟩, ready (by decide +kernel)⟩

theorem witness_IntegerLanes_moves :
    (∃ f, laneMove (.vbfi 31 31 1 2 0) = some (2, f)) ∧ Ready (.vbfi 31 31 1 2 0) (st (ps 0 (.vbfi 31 31 1 2 0))) (ps 0 (.vbfi 31 31 1 2 0)) :=
  ⟨⟨_, rfl⟩, ready (by decide +kernel)⟩

theorem witness_CrossLaneAndSampling :
    (∃ f, plainOut (.raytri 0 16 32 1) = some f) ∧ Ready (.raytri 0 16 32 1) (st (ps 4 (.raytri 0 16 32 1))) (ps 4 (.raytri 0 16 32 1)) :=
  ⟨⟨_, rfl⟩, ready (by decide +kernel)⟩

theorem witness_FloatArithmetic :
    fpArith (full (.vfmaF64 1 2 4 6 0)) = some (.f64, 3, 1, 2, 4, 6) ∧
    Ready (.vfmaF64 1 2 4 6 0) (st (ps 0 (.vfmaF64 1 2 4 6 0))) (ps 0 (.vfmaF64 1 2 4 6 0)) ∧
    fxUnion (raised (ps 0 (.vfmaF64 1 2 4 6 0)) fun l => (fpLane (ps 0 (.vfmaF64 1 2 4 6 0)) .f64 3 1 2 4 6 l).2) &&&
      (ps 0 (.vfmaF64 1 2 4 6 0)).enabled = 0 :=
  ⟨rfl, ready (by decide +kernel), by decide +kernel⟩

theorem witness_FloatResults :
    let p := ps 0 (.vrcp 1 2 0)
    let q := ps 0 (.vcvt 0 7 0 0 1 2 0)
    (∃ f, fpWord (full (.vrcp 1 2 0)) = some (2, f) ∧ fxUnion (raised p fun l => (f p l).2) &&& p.enabled = 0) ∧ Ready (.vrcp 1 2 0) (st p) p ∧
    (∃ f, fpOther (.vcvt 0 7 0 0 1 2 0) = some f ∧ fxUnion (f q).2 &&& q.enabled = 0) ∧ Ready (.vcvt 0 7 0 0 1 2 0) (st q) q :=
  ⟨⟨_, rfl, by decide +kernel⟩, ready (by decide +kernel), ⟨_, rfl, by decide +kernel⟩, ready (by decide +kernel)⟩

/-- A signalling NaN with the invalid exception enabled. -/
def nanPass (i : Instr) : Spec :=
  let p := withV (ps 0 i) 1 0x7F800001
  { p with prt := { p.prt with mode := 0xA01F1 } }

theorem witness_FloatTraps :
    (let p := nanPass (.vaddF32 0 1 1 2 0)
     fpArith (full (.vaddF32 0 1 1 2 0)) = some (.f32, 0, 0, 1, 1, 2) ∧ Ready (.vaddF32 0 1 1 2 0) (st p) p ∧
      fxUnion (raised p fun l => (fpLane p .f32 0 0 1 1 2 l).2) &&& p.enabled ≠ 0) ∧
    (let p := nanPass (.vsqrt 1 2 0)
     Ready (.vsqrt 1 2 0) (st p) p ∧
      ∃ f, fpWord (full (.vsqrt 1 2 0)) = some (2, f) ∧ fxUnion (raised p fun l => (f p l).2) &&& p.enabled ≠ 0) ∧
    (let p := nanPass (.vredaddF32 1 2 0)
     Ready (.vredaddF32 1 2 0) (st p) p ∧ ∃ f, fpOther (.vredaddF32 1 2 0) = some f ∧ fxUnion (f p).2 &&& p.enabled ≠ 0) :=
  ⟨⟨rfl, ready (by decide +kernel), by decide +kernel⟩, ⟨ready (by decide +kernel), _, rfl, by decide +kernel⟩,
    ready (by decide +kernel), _, rfl, by decide +kernel⟩

/-! ## Hypotheses met: control and system -/

/-- A pass whose stack, active lanes and register s1 are as given. -/
def stacked (w : Nat) (i : Instr) (l : List DivEntry) (act s1 : Word64) : Spec :=
  let p := withS (withS (ps w i) 63 act) 1 s1
  { p with prt := { p.prt with stack := l } }

/-- An entry of the stack. -/
def entry (s : DivState) : DivEntry := ⟨0x10010, 0xC, 0xF, s⟩

theorem witness_Branches_taken :
    (let p := ps 0 (.bra 4)
     Ready (.bra 4) (st p) p ∧ branchOf p (.bra 4) = some (0x10008, true, false) ∧ isHeader p.dev p.space 0x10008 = true) ∧
    (let p := ps 0 (.call 16)
     Ready (.call 16) (st p) p ∧ branchOf p (.call 16) = some (0x10020, true, true) ∧ isHeader p.dev p.space 0x10020 = true) ∧
    (let p := ps 0 (.bra 2)
     Ready (.bra 2) (st p) p ∧ branchOf p (.bra 2) = some (0x10004, true, false) ∧ isHeader p.dev p.space 0x10004 = false) ∧
    (let p := ps 0 (.brnz 4 1)
     Ready (.brnz 4 1) (st p) p ∧ branchOf p (.brnz 4 1) = some (0x10008, false, false)) :=
  ⟨⟨ready (by decide +kernel), by decide +kernel⟩, ⟨ready (by decide +kernel), by decide +kernel⟩,
    ⟨ready (by decide +kernel), by decide +kernel⟩, ready (by decide +kernel), by decide +kernel⟩

/-- BRM s1 to a header and to no header, with the taken lanes in s1. -/
def brm (k : BitVec 15) (n : Nat) (act s1 : Word64) : Spec := stacked 1 (.brm k 1) (List.replicate n (entry .first)) act s1

theorem witness_Branches_masked :
    (Ready (.brm 4 1) (st (brm 4 0 0xFF 0)) (brm 4 0 0xFF 0) ∧ (brm 4 0 0xFF 0).sreg 63 &&& (brm 4 0 0xFF 0).sreg 1 = 0) ∧
    (Ready (.brm 2 1) (st (brm 2 0 0xFF 0xF)) (brm 2 0 0xFF 0xF) ∧ (brm 2 0 0xFF 0xF).sreg 63 &&& (brm 2 0 0xFF 0xF).sreg 1 ≠ 0 ∧
      isHeader (brm 2 0 0xFF 0xF).dev (brm 2 0 0xFF 0xF).space (aim (brm 2 0 0xFF 0xF) (2 : BitVec 15)) = false) ∧
    isHeader (brm 4 0 0xFF 0xFF).dev (brm 4 0 0xFF 0xFF).space (aim (brm 4 0 0xFF 0xFF) (4 : BitVec 15)) = true ∧
    (brm 4 0 0xFF 0xFF).sreg 63 &&& ~~~ (brm 4 0 0xFF 0xFF).sreg 1 = 0 ∧
    (let p := brm 4 0 0xFF 0xF
     let t := p.sreg 63 &&& p.sreg 1
     let f := p.sreg 63 &&& ~~~ p.sreg 1
     Ready (.brm 4 1) (st p) p ∧ f ≠ 0 ∧ (∀ q ∈ quadsOf p.prt.quads, bits t (4 * q + 3) (4 * q) = 0 ∨ bits f (4 * q + 3) (4 * q) = 0) ∧
      p.wav.live.length < 4) ∧
    (let p := brm 4 31 0xFF 3
     let t := p.sreg 63 &&& p.sreg 1
     let f := p.sreg 63 &&& ~~~ p.sreg 1
     Ready (.brm 4 1) (st p) p ∧ f ≠ 0 ∧ ¬ (∀ q ∈ quadsOf p.prt.quads, bits t (4 * q + 3) (4 * q) = 0 ∨ bits f (4 * q + 3) (4 * q) = 0) ∧
      p.prt.stack.length < 32) ∧
    Ready (.brm 4 1) (st (brm 4 32 0xFF 3)) (brm 4 32 0xFF 3) ∧ 32 ≤ (brm 4 32 0xFF 3).prt.stack.length :=
  ⟨⟨ready (by decide +kernel), by decide +kernel⟩, ⟨ready (by decide +kernel), by decide +kernel⟩, by decide +kernel, by decide +kernel,
    ⟨ready (by decide +kernel), by decide +kernel⟩, ⟨ready (by decide +kernel), by decide +kernel⟩, ready (by decide +kernel), by decide +kernel⟩

/-- One whose resume PC is no header. -/
def offEntry (s : DivState) : DivEntry := ⟨0x10012, 0xC, 0xF, s⟩

theorem witness_DivergenceStack_join :
    (let p := stacked 0 (.join 31) [offEntry .first] 0x3 0
     Ready (.join 31) (st p) p ∧ p.prt.skipJoin = false ∧ p.prt.stack = [offEntry .first] ∧
      isHeader p.dev p.space (offEntry .first).resume = false ∧ isHeader p.dev p.space (entry .first).resume = true) ∧
    (let p := stacked 0 (.join 31) [] 0xF 0
     Ready (.join 31) (st p) p ∧ p.prt.skipJoin = false ∧ p.prt.stack = []) ∧
    (let p := stacked 0 (.join 31) [entry .first] 0x3 0
     Ready (.join 31) (st p) p ∧ p.prt.skipJoin = false ∧ p.prt.stack = [entry .first] ∧ (entry .first).st = .first) ∧
    (let p := stacked 0 (.join 31) [entry .second] 0x3 0
     Ready (.join 31) (st p) p ∧ p.prt.skipJoin = false ∧ p.prt.stack = [entry .second] ∧ (entry .second).st = .second) ∧
    (let p := ps 0 (.join 20)
     let q : Spec := { p with prt := { p.prt with skipJoin := true } }
     Ready (.join 20) (st q) q ∧ q.prt.skipJoin = true) :=
  ⟨⟨ready (by decide +kernel), by decide +kernel⟩, ⟨ready (by decide +kernel), by decide +kernel⟩, ⟨ready (by decide +kernel), by decide +kernel⟩,
    ⟨ready (by decide +kernel), by decide +kernel⟩, ready (by decide +kernel), by decide +kernel⟩

/-- A pass with `n` loop levels. -/
def looped (i : Instr) (n : Nat) : Spec := (ps 0 i).setLoops (List.replicate n ⟨5, 0x10008, 0x10010⟩)

theorem witness_Loops :
    (let p := ps 0 (.loopi 0 1)
     Ready (.loopi 0 1) (st p) p ∧ loopOf p (.loopi 0 1) = some (0x10000, 1) ∧ (0x10000#64).toNat < p.nextClause.toNat) ∧
    (let p := ps 0 (.loopi 5 1)
     Ready (.loopi 5 1) (st p) p ∧ loopOf p (.loopi 5 1) = some (0x1000A, 1) ∧ p.nextClause.toNat ≤ (0x1000A#64).toNat ∧
      isHeader p.dev p.space 0x1000A = false) ∧
    (let p := ps 0 (.loopi 4 0)
     Ready (.loopi 4 0) (st p) p ∧ loopOf p (.loopi 4 0) = some (0x10008, 0) ∧ p.nextClause.toNat ≤ (0x10008#64).toNat ∧
      isHeader p.dev p.space 0x10008 = true ∧ headerAfter p.dev p.space 0x10008 = some 0x10010 ∧ isHeader p.dev p.space 0x10010 = true) ∧
    (let p := looped (.loop 8 63) 2
     Ready (.loop 8 63) (st p) p ∧ loopOf p (.loop 8 63) = some (0x10010, 15) ∧ 2 ≤ p.prt.loops.length ∧ isHeader p.dev p.space 0x10010 = true) ∧
    (let p := looped (.loop 8 63) 1
     Ready (.loop 8 63) (st p) p ∧ loopOf p (.loop 8 63) = some (0x10010, 15) ∧ p.prt.loops.length < 2) :=
  ⟨⟨ready (by decide +kernel), by decide +kernel⟩, ⟨ready (by decide +kernel), by decide +kernel⟩,
    ⟨ready (by decide +kernel), by decide +kernel⟩, ⟨ready (by decide +kernel), by decide +kernel⟩, ready (by decide +kernel), by decide +kernel⟩

theorem witness_DivergenceStack_exit :
    (Ready .exit (st (ps 0 .exit)) (ps 0 .exit) ∧ (ps 0 .exit).prt.stack = []) ∧
    (∀ e ∈ [entry .first, offEntry .first], let p := stacked 0 .exit [e] 0x3 0
     legalAt p .exit = true ∧ e.rmask &&& liveLanes { p.wav with exited := p.wav.exited ||| p.sreg 63 } p.prt.quads ≠ 0) ∧
    (∀ e ∈ [entry .second, offEntry .second], let p := stacked 0 .exit [e] 0x3 0
     legalAt p .exit = true ∧ e.smask &&& liveLanes { p.wav with exited := p.wav.exited ||| p.sreg 63 } p.prt.quads ≠ 0) ∧
    isHeader (ps 0 .exit).dev (ps 0 .exit).space 0x10010 = true ∧ isHeader (ps 0 .exit).dev (ps 0 .exit).space 0x10012 = false :=
  ⟨⟨ready (by decide +kernel), by decide +kernel⟩, by decide +kernel⟩

/-- A pass with the pass bit set. -/
def passing (i : Instr) : Spec := { ps 0 i with prt := { prt 0 i with passBit := true } }

theorem witness_TrapsAndHints :
    (Ready (.trap 0xFFFF) (st (ps 0 (.trap 0xFFFF))) (ps 0 (.trap 0xFFFF)) ∧ (ps 0 (.trap 0xFFFF)).prt.passBit = false) ∧
    (Ready (.trap 7) (st (passing (.trap 7))) (passing (.trap 7)) ∧ (passing (.trap 7)).prt.passBit = true) ∧
    (Ready (.bkpt 0) (st (ps 0 (.bkpt 0))) (ps 0 (.bkpt 0)) ∧ (ps 0 (.bkpt 0)).prt.passBit = false) ∧
    (Ready (.bkpt 0) (st (passing (.bkpt 0))) (passing (.bkpt 0)) ∧ (passing (.bkpt 0)).prt.passBit = true) ∧
    (st (ps 0 .nop)).spec = some (ps 0 .nop) ∧ Ready (.fuse 5) (st (ps 1 (.fuse 5))) (ps 1 (.fuse 5)) ∧
    Ready (.yield 0) (st (ps 0 (.yield 0))) (ps 0 (.yield 0)) ∧ Ready (.yield 255) (st (ps 0 (.yield 255))) (ps 0 (.yield 255)) ∧
    Ready (.sleep 0) (st (ps 0 (.sleep 0))) (ps 0 (.sleep 0)) ∧ Ready (.sleep 0xFFFF) (st (ps 0 (.sleep 0xFFFF))) (ps 0 (.sleep 0xFFFF)) :=
  ⟨⟨ready (by decide +kernel), rfl⟩, ⟨ready (by decide +kernel), rfl⟩, ⟨ready (by decide +kernel), rfl⟩, ⟨ready (by decide +kernel), rfl⟩,
    rfl, ready (by decide +kernel), ready (by decide +kernel), ready (by decide +kernel), ready (by decide +kernel), ready (by decide +kernel)⟩

theorem witness_SpecialRegisters_read :
    (let p := ps 0 (.sread 3 0x019)
     Ready (.sread 3 0x019) (st p) p ∧ special p 0x019 = some 0x100000) ∧
    (let p := ps 0 (.sread 63 0)
     Ready (.sread 63 0) (st p) p ∧ special p 0 = some 4) ∧
    Ready (.gettime 62) (st (ps 0 (.gettime 62))) (ps 0 (.gettime 62)) :=
  ⟨⟨ready (by decide +kernel), by decide +kernel⟩, ⟨ready (by decide +kernel), by decide +kernel⟩, ready (by decide +kernel)⟩

/-- SWRITE of s1 with a value. -/
def swr (sel : BitVec 10) (v : Word64) : Spec := withS (ps 0 (.swrite 1 sel)) 1 v

/-- The value in s1 is in range, or not. -/
def inRange (sel : BitVec 10) (v : Word64) : Prop :=
  Ready (.swrite 1 sel) (st (swr sel v)) (swr sel v) ∧ ∃ ok q, written (swr sel v) ((swr sel v).sreg 1) sel.toNat = some (ok, q) ∧ ok

/-- The value in s1 is out of range. -/
def outOfRange (sel : BitVec 10) (v : Word64) : Prop :=
  Ready (.swrite 1 sel) (st (swr sel v)) (swr sel v) ∧ ∃ ok q, written (swr sel v) ((swr sel v).sreg 1) sel.toNat = some (ok, q) ∧ ¬ ok

theorem witness_SpecialRegisters_write :
    inRange 0x010 0x1F0006 ∧ outOfRange 0x010 0xA0007 ∧ outOfRange 0x010 0x150001 ∧ inRange 0x011 (-1) ∧ inRange 0x012 0 ∧ inRange 0x013 9 ∧
    inRange 0x014 20 ∧ outOfRange 0x014 21 ∧ outOfRange 0x014 0 ∧ inRange 0x015 0 ∧ inRange 0x017 (-1) ∧ inRange 0x018 65535 ∧
    outOfRange 0x018 65536 ∧ inRange 0x019 1024 ∧ outOfRange 0x019 1023 ∧ inRange 0x019 (2 ^ 31) ∧ outOfRange 0x019 (2 ^ 31 + 1) := by
  refine ⟨?_, ?_, ?_, ?_, ?_, ?_, ?_, ?_, ?_, ?_, ?_, ?_, ?_, ?_, ?_, ?_, ?_⟩ <;>
    exact ⟨ready (by decide +kernel), _, _, rfl, by (try unfold jointLegal); decide +kernel⟩

theorem witness_Allotments :
    (Ready .acquire (st (ps 0 .acquire)) (ps 0 .acquire) ∧ (ps 0 .acquire).released = false) ∧
    (let p : Spec := { ps 0 .acquire with released := true }
     Ready .acquire (st p) p ∧ p.released = true) ∧ Ready .release (st (ps 0 .release)) (ps 0 .release) :=
  ⟨⟨ready (by decide +kernel), by decide +kernel⟩, ⟨ready (by decide +kernel), rfl⟩, ready (by decide +kernel)⟩

theorem witness_TaskQueues :
    (let p := withS (ps 0 (.tqinit 2 1)) 1 1
     Ready (.tqinit 2 1) (st p) p ∧ bit (dw p.packet 12) (bits (p.sreg 1) 5 0) = true) ∧
    (let p := withS (ps 0 (.tqinit 2 1)) 1 2
     Ready (.tqinit 2 1) (st p) p ∧ bit (dw p.packet 12) (bits (p.sreg 1) 5 0) = false) ∧
    (let p := ps 0 (.tqtake 1 4)
     Ready (.tqtake 1 4) (st p) p ∧ bit (dw p.packet 12) (bits (p.sreg 1) 5 0) = true ∧ p.prt.tqReady = false ∧ p.hold = none) ∧
    (let p : Spec := { ps 0 (.tqtake 1 4) with prt := { prt 0 (.tqtake 1 4) with tqReady := true } }
     Ready (.tqtake 1 4) (st p) p ∧ bit (dw p.packet 12) (bits (p.sreg 1) 5 0) = true ∧ p.prt.tqReady = true) ∧
    (let p := withS (ps 0 (.tqtake 1 4)) 1 63
     Ready (.tqtake 1 4) (st p) p ∧ bit (dw p.packet 12) (bits (p.sreg 1) 5 0) = false) :=
  ⟨⟨ready (by decide +kernel), by decide +kernel⟩, ⟨ready (by decide +kernel), by decide +kernel⟩,
    ⟨ready (by decide +kernel), by decide +kernel⟩, ⟨ready (by decide +kernel), by decide +kernel⟩, ready (by decide +kernel), by decide +kernel⟩

/-! ## Hypotheses met: memory -/

/-- LAUNCH of one descriptor at 0x20800, with `n` children in the queue already. -/
def launchPass (n : Nat) : Spec :=
  let p := withV (ps 0 (.launch 2 4)) 4 0x20800
  { p with dev := { p.dev with devQ := [(0, List.replicate n ⟨1, (0, 0), [], 0⟩)] } }

/-- What LAUNCH reads of its descriptors. -/
def launchHad (p : Spec) : Nat × LaunchRead :=
  let q := p.drained Spec.childReady
  let ls := (p.act.map fun l => (l, p.vpair 4 l)).filter fun x => x.2 ≠ 0
  (ls.length, launchRead q.asker q.wav.core q.space ls ⟨⟨q.dev, [], [], false⟩, [], [], []⟩)

/-- The same with a line of the descriptor lost, or held by a bank product, or with the descriptor in a page that no TLB knows. -/
def launchBad (lost held : Bool) : Spec :=
  let p := launchPass 0
  let o : BmvOp := { wave := 9, gen := 0, quads := 1, after := 1, flag := none, space := (0, 0), core := 0, acc := false, desc := [], c := 0, x := none,
                     held := [0x20800 / 128], parked := [], status := [], allFail := none, fe := false, ready := 0 }
  { p with dev := { p.dev with bad := if lost then [0x20800 / 128] else [], bmvs := if held then [(3, o)] else [] } }

theorem witness_DeviceLaunch :
    (let p := launchPass 0
     Ready (.launch 2 4) (st p) p ∧ p.hold = none ∧ (p.drained Spec.childReady).childReady = true ∧ (launchHad p).1 = 1 ∧
      (launchHad p).2.chk.waits = false ∧ (launchHad p).2.chk.bad = [] ∧ (launchHad p).2.barred = [] ∧
      1 ≤ Config.deviceQueueSlots - (p.dev.devQ.getD 0 []).length) ∧
    (Ready (.launch 2 4) (st (launchPass 256)) (launchPass 256) ∧ Config.deviceQueueSlots - ((launchPass 256).dev.devQ.getD 0 []).length < 1) ∧
    (let p := withV (ps 0 (.launch 2 4)) 4 0x50000
     Ready (.launch 2 4) (st p) p ∧ (launchHad p).2.chk.waits = true) ∧
    (let q := withV (ps 0 (.launch 2 4)) 4 0x50000
     let p := { q with prt := { q.prt with walked := [⟨0x50000, .fault 1 4⟩] } }
     Ready (.launch 2 4) (st p) p ∧ (launchHad p).2.chk.waits = false ∧ (launchHad p).2.chk.bad.map (·.2) = [AccFault.tr 1 4]) ∧
    (Ready (.launch 2 4) (st (launchBad true false)) (launchBad true false) ∧ ((launchHad (launchBad true false)).2.gone.map (·.cause)) = some 13) ∧
    Ready (.launch 2 4) (st (launchBad false true)) (launchBad false true) ∧ (launchHad (launchBad false true)).2.gone = none ∧
      (launchHad (launchBad false true)).2.barred.map (·.2) = [AccFault.wait] :=
  ⟨⟨ready (by decide +kernel), by decide +kernel⟩, ⟨ready (by decide +kernel), by decide +kernel⟩, ⟨ready (by decide +kernel), by decide +kernel⟩,
    ⟨ready (by decide +kernel), by decide +kernel⟩, ⟨ready (by decide +kernel), by decide +kernel⟩, ready (by decide +kernel), by decide +kernel⟩

/-- The checks of an instruction's accesses. -/
def checks (p : Spec) (r : Reach) : Checked := checkAccs p.asker p.wav.core p.space r.acc r.els ⟨p.dev, [], [], false⟩

/-- The accesses of an instruction wait for nothing and meet no fault and no watchpoint. -/
def clean (i : Instr) (p : Spec) : Prop :=
  Ready i (st p) p ∧ ∃ r, reachOf p i = some r ∧ r.els ≠ [] ∧ (checks p r).waits = false ∧ accTrap p (watchBit r.acc) r.els (checks p r) = none

theorem witness_GlobalAccesses_clean :
    clean (.vld 0 0 6 1 4 1) (withS (ps 0 (.vld 0 0 6 1 4 1)) 1 0x20000) ∧ clean (.vst 0 0 4 1 4) (withS (ps 0 (.vst 0 0 4 1 4)) 1 0x2FFF0) ∧
    clean (.sld 1 4 1 4) (withS (ps 0 (.sld 1 4 1 4)) 1 0x20000) ∧ clean (.sst 0 6 1 4) (withS (ps 0 (.sst 0 6 1 4)) 1 0x20000) ∧
    clean (.atomg 2 1 6 2 1 4 1) (withS (ps 0 (.atomg 2 1 6 2 1 4 1)) 1 0x20008) ∧
    clean (.atomgv 4 6 1 6 0) (withS (ps 0 (.atomgv 4 6 1 6 0)) 1 0x20000) := by
  refine ⟨?_, ?_, ?_, ?_, ?_, ?_⟩ <;> exact ⟨ready (by decide +kernel), _, rfl, by decide +kernel, by decide +kernel, by decide +kernel⟩

/-- SLD of an address in s1, with what a walk for it ended in. -/
def sldAt (va : Word64) (had : List Walked) : Spec :=
  let p := withS (ps 0 (.sld 0 4 1 4)) 1 va
  { p with prt := { p.prt with walked := had } }

/-- VLD without an active lane. -/
def vldNone : Spec := withS (ps 0 (.vld 0 0 4 1 4 0)) 63 0

theorem witness_GlobalAccesses_faults :
    (Ready (.sld 0 4 1 4) (st (sldAt 0x30000 [])) (sldAt 0x30000 []) ∧ (sldAt 0x30000 []).hold = none ∧
      ∃ r, reachOf (sldAt 0x30000 []) (.sld 0 4 1 4) = some r ∧ r.els ≠ [] ∧ (checks (sldAt 0x30000 []) r).waits = true) ∧
    (let p := sldAt 0x30000 [⟨0x30000, .fault 1 4⟩]
     Ready (.sld 0 4 1 4) (st p) p ∧ ∃ r t, reachOf p (.sld 0 4 1 4) = some r ∧ r.els ≠ [] ∧ (checks p r).waits = false ∧
      accTrap p (watchBit r.acc) r.els (checks p r) = some t ∧ (checks p r).bad.map (·.2) = [AccFault.tr 1 4]) ∧
    (Ready (.vld 0 0 4 1 4 0) (st vldNone) vldNone ∧ ∃ r, reachOf vldNone (.vld 0 0 4 1 4 0) = some r ∧ r.els = []) ∧
    Ready (.pref 1 255 1) (st (ps 0 (.pref 1 255 1))) (ps 0 (.pref 1 255 1)) :=
  ⟨⟨ready (by decide +kernel), rfl, _, rfl, by decide +kernel, by decide +kernel⟩,
    ⟨ready (by decide +kernel), _, _, rfl, by decide +kernel, by decide +kernel, rfl, by decide +kernel⟩,
    ⟨ready (by decide +kernel), _, rfl, by decide +kernel⟩, ready (by decide +kernel)⟩

/-- A pass of a function whose watchpoint 7 watches `n` bytes from an address on for loads in address space 0. -/
def watching (va : Word64) (n : Nat) : Spec :=
  let p := ps 0 .nop
  let f := fn0
  { p with dev := { p.dev with fns := [(0, { f with regs := ((f.regs.set 0x22E0 va).set 0x22E8 (BitVec.ofNat 64 n)).set 0x22F0 0x8001 })] } }

/-- R339: which access a watchpoint matches: a byte at its end, none past it; one in the upper half; none of a length of 0. -/
theorem witness_FaultsAndWatchpoints :
    (let a : LaneAcc := ⟨3, 0x20000, 8, [], []⟩
     let b : LaneAcc := ⟨64, 0x20007, 1, [], []⟩
     let none' : Checked := ⟨(ps 0 .nop).dev, [], [], false⟩
     watched ((watching 0x20007 1).dev.fn 0).regs 0 0 7 a ∧ watched ((watching 0x20007 1).dev.fn 0).regs 0 0 7 b ∧ ¬ watched ((watching 0x20008 1).dev.fn 0).regs 0 0 7 a ∧
      ¬ watched ((watching 0x20007 0).dev.fn 0).regs 0 0 7 b ∧ ¬ watched ((watching 0x20007 1).dev.fn 0).regs 0 1 7 a ∧
      watched ((watching 0xFF00000000000000 8).dev.fn 0).regs 0 0 7 ⟨0, 0xFF00000000000007, 1, [], []⟩ ∧
      accTrap (watching 0x20007 1) 0 [a, b] none' = some (trapOf 8 7 0 8 0x20000) ∧ accTrap (watching 0x20008 1) 0 [a, b] none' = none) ∧
    (let a : LaneAcc := ⟨3, 0x20000, 8, [], []⟩
     accTrap (ps 0 .nop) 0 [a] ⟨(ps 0 .nop).dev, [(a, .pm 2), (⟨5, 8, 8, [], []⟩, .tr 1 4)], [], false⟩ = some (trapOf 3 1 4 0x20 8) ∧
     accTrap (ps 0 .nop) 0 [a] ⟨(ps 0 .nop).dev, [(a, .pm 2)], [], false⟩ = some (trapOf 4 2 0 8 0x20000)) := by decide +kernel

/-- A pass whose flag f0 of quad 0 counts `n`. -/
def flagged (n : Nat) (i : Instr) : Spec := { ps 0 i with wav := { wv 0 i with flags := [(fkey 0 0, BitVec.ofNat 4 n)] } }

theorem witness_GlobalAccesses_flag :
    (∀ k ∈ quadsOf 1, (flagged 14 .nop).wav.flag k ((flagged 14 .nop).flagField false) < 15) ∧ (flagged 14 .nop).flagField false < 12 ∧
    0 ∈ quadsOf 1 ∧ 15 ≤ (flagged 15 .nop).wav.flag 0 ((flagged 15 .nop).flagField false) ∧ (flagged 15 .nop).hold = none := by
  decide +kernel

theorem witness_ScratchLoadsAndStores :
    (Ready (.ldl 127 5 1 4 0) (st (ps 0 (.ldl 127 5 1 4 0))) (ps 0 (.ldl 127 5 1 4 0)) ∧ (ps 0 (.ldl 127 5 1 4 0)).act ≠ []) ∧
    (let p := withS (ps 0 (.ldl 0 0 1 4 1)) 63 0
     Ready (.ldl 0 0 1 4 1) (st p) p ∧ p.act = []) ∧
    (Ready (.stl 1 2 1 4) (st (ps 0 (.stl 1 2 1 4))) (ps 0 (.stl 1 2 1 4)) ∧ (ps 0 (.stl 1 2 1 4)).act ≠ []) ∧
    (let p := withS (ps 0 (.stl 0 0 1 4)) 63 0
     Ready (.stl 0 0 1 4) (st p) p ∧ p.act = []) :=
  ⟨⟨ready (by decide +kernel), by decide +kernel⟩, ⟨ready (by decide +kernel), by decide +kernel⟩,
    ⟨ready (by decide +kernel), by decide +kernel⟩, ready (by decide +kernel), by decide +kernel⟩

/-- Four lanes at one word, of which the highest is the last; no lane. -/
theorem witness_ScratchAtomics :
    (let p := ps 0 (.atoml 7 2 1 4 0)
     Ready (.atoml 7 2 1 4 0) (st p) p ∧ p.act = [0, 1, 2, 3] ∧ (∀ l ∈ p.act, (p.vreg 1 l).toNat = 0) ∧ inSpad p.spadTime.grp 0 4 = true) ∧
    (let p := withS (ps 0 (.atoml 1 2 1 4 0)) 63 0
     Ready (.atoml 1 2 1 4 0) (st p) p ∧ p.act = []) :=
  ⟨⟨ready (by decide +kernel), by decide +kernel⟩, ready (by decide +kernel), by decide +kernel⟩

/-- A lane that has the last bytes of the scratchpad, alone. -/
theorem witness_ScratchAtomics_border :
    let p := withV (withS (ps 0 (.atoml 0 2 1 4 0)) 63 1) 1 4092
    inSpad p.spadTime.grp (p.vreg 1 0).toNat 4 = true ∧ (∀ m ∈ p.act, m ≠ 0 → p.vreg 1 m ≠ p.vreg 1 0) ∧
      inSpad p.spadTime.grp 4093 4 = false := by decide +kernel

/-! ## Hypotheses met: fences, engines, barriers, bank products -/

/-- An operation of the wave in flight, of a batch. -/
def op0 (kind : EngKind) (batch : Word32) : EngOp :=
  { wave := 0, gen := 0, quads := 1, after := 1, group := 0, core := 0, space := (0, 0), batch := batch, order := 0, barrier := none, kind := kind,
    mode := 0xA0001, c := 0, done := 0, counted := 0, row := 0, pos := 0, time := 0, hdrAt := 0x10000, port := none, sent := none, ready := 0 }

/-- A bank product of the wave in flight. -/
def bmv0 : BmvOp :=
  { wave := 0, gen := 0, quads := 1, after := 1, flag := some 0, space := (0, 0), core := 0, acc := false, desc := [0x200000, 0x20000, 0x20400, 0x20800, 0x1000000000, 32], c := 0, x := none,
    held := [], parked := [], status := [], allFail := none, fe := false, ready := 0 }

/-- A pass of a clause younger than what is in flight, over a device changed as said. -/
def younger (i : Instr) (f : Device → Device) : Spec := { ps 0 i with dev := f (dv 0 i), first := 1000 }

theorem witness_Fences :
    (Ready (.fence 3 8) (st (ps 0 (.fence 3 8))) (ps 0 (.fence 3 8)) ∧ (8#4).toNat < 9) ∧
    (let p := ps 0 (.fence 2 9)
     Ready (.fence 2 9) (st p) p ∧ p.sync.acquired p.wid p.prt.quads p.first = true ∧ p.sync.released p.wid p.prt.quads p.first = true) ∧
    (let p : Spec := { ps 0 (.fence 3 10) with prt := { prt 0 (.fence 3 10) with fenceTick := some 0 } }
     Ready (.fence 3 10) (st p) p ∧ p.prt.fenceTick = some 0 ∧ 0 ≤ p.sync.clk.complete) ∧
    (let p := ps 0 (.fence 3 10)
     Ready (.fence 3 10) (st p) p ∧ p.prt.fenceTick = none ∧ p.hold = none) ∧
    (Ready .bfence (st (ps 0 .bfence)) (ps 0 .bfence) ∧ (ps 0 .bfence).sync.bfenceOver 0 1 0 = true) ∧
    (let p := younger .bfence fun d => { d with bmvs := [(0, bmv0)] }
     Ready .bfence (st p) p ∧ p.sync.bfenceOver p.wid p.prt.quads p.first = false ∧ p.hold = none) :=
  ⟨⟨ready (by decide +kernel), by decide⟩, ⟨ready (by decide +kernel), by decide +kernel⟩, ⟨ready (by decide +kernel), by decide +kernel⟩,
    ⟨ready (by decide +kernel), by decide +kernel⟩, ⟨ready (by decide +kernel), by decide +kernel⟩, ready (by decide +kernel), by decide +kernel⟩

/-- A descriptor of dwords at the start of the scratchpad, named by s1, which is zero. -/
def described (i : Instr) (l : List Nat) : Spec := withPad (ps 0 i) 0 (dwords l)

/-- The same with a full scoreboard. -/
def crowded (i : Instr) (l : List Nat) : Spec :=
  let p := described i l
  { p with dev := p.dev.setCore 0 { core0 with board := List.replicate 512 ⟨0, 9, false, 0, 0⟩ }, first := 1000 }

/-- A TCOPY of `n` bytes from the scratchpad to 0x20000; SSP set (06 R170). -/
def copyDesc (n : Nat) : List Nat := [0, 0x20000, 512, 0, 0, 0, 0, 0, n, 0, 0]

/-- What the hypotheses on a descriptor ask. -/
def copyMeets (l : List Nat) (p : Spec) (legal : Bool) (empty room : Bool) : Prop :=
  let r := p.spadTime
  let n := 64 + 24 * (bits (dw (descWords p 0 64) 2) 3 0 + 1)
  let x := descWords r 0 n
  x = l.map (BitVec.ofNat 64) ∧ (p.sreg 1).toNat = 0 ∧ (0 % 64 = 0 ∧ n ≤ p.grp.size ∧ p.sync.stalls p.wav.group p.first false [(0, 64)] = false) ∧
    r.sync.stalls r.wav.group r.first false [(0, n)] = false ∧ r.spadTime.hold = none ∧ copyLegal x = legal ∧
    decide (countAll (dimsOf x) = 0) = empty ∧
    decide (r.spadTime.dev.frontCount 0 < 512 ∧
      (r.spadTime.dev.core 0).board.length + (copyRanges r.spadTime.grp.size x).length ≤ 512) = room

theorem witness_EngineStarts_copy :
    (Ready (.tcopy 1 2 1) (st (described (.tcopy 1 2 1) (copyDesc 1))) (described (.tcopy 1 2 1) (copyDesc 1)) ∧
      copyMeets (copyDesc 1) (described (.tcopy 1 2 1) (copyDesc 1)) true false true) ∧
    copyMeets (copyDesc 0) (described (.tcopy 0 0 1) (copyDesc 0)) true true true ∧
    copyMeets (copyDesc (2 ^ 36 + 1)) (described (.tcopy 0 0 1) (copyDesc (2 ^ 36 + 1))) false false true ∧
    (Ready (.tcopy 0 0 1) (st (crowded (.tcopy 0 0 1) (copyDesc 1))) (crowded (.tcopy 0 0 1) (copyDesc 1)) ∧
      copyMeets (copyDesc 1) (crowded (.tcopy 0 0 1) (copyDesc 1)) true false false) := by
  refine ⟨⟨ready (by decide +kernel), ?_⟩, ?_, ?_, ready (by decide +kernel), ?_⟩ <;> unfold copyMeets <;> decide +kernel

/-- A descriptor of 64 bytes is read, and there is room or not. -/
def descMeets (p : Spec) (room : Bool) (n : Nat) : Prop :=
  (p.sreg 1).toNat = 0 ∧ 64 ≤ p.grp.size ∧ p.sync.stalls p.wav.group p.first false [(0, 64)] = false ∧ p.spadTime.hold = none ∧
    decide (p.spadTime.dev.frontCount 0 < 512 ∧ (p.spadTime.dev.core 0).board.length + n ≤ 512) = room

/-- A GATHER of `n` 4-byte elements, and a PUTSIG of `n` bytes. -/
def gatherDesc (n : Nat) : List Nat := [0x20000, n + 2 * 2 ^ 32, 256, 512, 1024]

/-- Source, destination, signal and count. -/
def putsigDesc (n : Nat) : List Nat := [0x20000, 0x20008, 1, n, 256]

theorem witness_EngineStarts_rest :
    (let p := described (.gather 0 0 1) (gatherDesc 1)
     Ready (.gather 0 0 1) (st p) p ∧ descMeets p true 3 ∧ gatherLegal p.spadTime.grp.size (descWords p 0 64) = true) ∧
    (let p := described (.gather 0 0 1) (gatherDesc 0)
     Ready (.gather 0 0 1) (st p) p ∧ descMeets p true 3 ∧ gatherLegal p.spadTime.grp.size (descWords p 0 64) = false) ∧
    (let p := crowded (.gather 0 0 1) (gatherDesc 1)
     Ready (.gather 0 0 1) (st p) p ∧ descMeets p false 3 ∧ gatherLegal p.spadTime.grp.size (descWords p 0 64) = true) ∧
    (let p := described (.putsig 1) (putsigDesc 1)
     Ready (.putsig 1) (st p) p ∧ descMeets p true 1 ∧ putsigLegal (descWords p 0 64) = true) ∧
    (let p := described (.putsig 1) (putsigDesc (2 ^ 24 + 1))
     Ready (.putsig 1) (st p) p ∧ descMeets p true 1 ∧ putsigLegal (descWords p 0 64) = false) ∧
    (let p := crowded (.putsig 1) (putsigDesc (2 ^ 24))
     Ready (.putsig 1) (st p) p ∧ descMeets p false 1 ∧ putsigLegal (descWords p 0 64) = true) := by
  refine ⟨⟨ready (by decide +kernel), ?_⟩, ⟨ready (by decide +kernel), ?_⟩, ⟨ready (by decide +kernel), ?_⟩, ⟨ready (by decide +kernel), ?_⟩,
    ⟨ready (by decide +kernel), ?_⟩, ready (by decide +kernel), ?_⟩ <;> unfold descMeets <;> decide +kernel

/-- WAITB of a batch, one sealed, with operations and failures as given. -/
def waitPass (n : Word64) (ops : AMap EngOp) (fs : List Failure) : Spec :=
  let p := withS (younger (.waitb 1) fun d => { d with ops := ops }) 1 n
  { p with wav := { p.wav with batch := 1, failures := fs } }

theorem witness_Batches :
    Ready (.sealBatch 63) (st (ps 0 (.sealBatch 63))) (ps 0 (.sealBatch 63)) ∧
    (let p := waitPass 2 [] []
     Ready (.waitb 1) (st p) p ∧ (p.wav.batch - (p.sreg 1).setWidth 32).toInt < 0) ∧
    (let p := waitPass 1 [(0, op0 (.copy []) 1)] []
     Ready (.waitb 1) (st p) p ∧ 0 ≤ (p.wav.batch - (p.sreg 1).setWidth 32).toInt ∧ p.sync.batchesDone p.wid 1 = false ∧ p.hold = none) ∧
    (let p := waitPass 1 [] [⟨1, 0, 2, 0x20000, 0, 0x10000⟩]
     Ready (.waitb 1) (st p) p ∧ p.sync.batchesDone p.wid 1 = true ∧ coveredFailure p.wav 1 = some ⟨1, 0, 2, 0x20000, 0, 0x10000⟩) ∧
    (let p := waitPass 1 [] []
     Ready (.waitb 1) (st p) p ∧ p.sync.batchesDone p.wid 1 = true ∧ coveredFailure p.wav 1 = none) :=
  ⟨ready (by decide +kernel), ⟨ready (by decide +kernel), by decide +kernel⟩, ⟨ready (by decide +kernel), by decide +kernel⟩,
    ⟨ready (by decide +kernel), by decide +kernel⟩, ready (by decide +kernel), by decide +kernel⟩

/-- An object at the last 32 bytes: expected and remaining, phase 0. -/
def barrierPass (i : Instr) (rem : Nat) (s2 : Word64) : Spec :=
  withS (withS (withPad (ps 0 i) 4064 (dwords [2 * 2 ^ 20 + rem, 0, 0, 0])) 1 4064) 2 s2

/-- The object may be updated. -/
def barMeets (p : Spec) : Prop :=
  (p.sreg 1).toNat % 32 = 0 ∧ (p.sreg 1).toNat + 32 ≤ p.grp.size ∧
    p.sync.stalls p.wav.group p.first true [((p.sreg 1).toNat, 32)] = false ∧ p.spadTime.hold = none

theorem witness_Barriers_updates :
    (Ready (.barinit 2 1) (st (barrierPass (.barinit 2 1) 0 0)) (barrierPass (.barinit 2 1) 0 0) ∧
      bits ((barrierPass (.barinit 2 1) 0 0).sreg 2) 19 0 = 0) ∧
    (Ready (.barinit 2 1) (st (barrierPass (.barinit 2 1) 0 0xFFFFF)) (barrierPass (.barinit 2 1) 0 0xFFFFF) ∧
      bits ((barrierPass (.barinit 2 1) 0 0xFFFFF).sreg 2) 19 0 ≠ 0 ∧ barMeets (barrierPass (.barinit 2 1) 0 0xFFFFF)) ∧
    (Ready (.bararr 3 1) (st (barrierPass (.bararr 3 1) 0 0)) (barrierPass (.bararr 3 1) 0 0) ∧ barMeets (barrierPass (.bararr 3 1) 0 0) ∧
      (barAt (barrierPass (.bararr 3 1) 0 0).spadTime.grp 4064).rem = 0) ∧
    (Ready (.bararr 3 1) (st (barrierPass (.bararr 3 1) 1 0)) (barrierPass (.bararr 3 1) 1 0) ∧ barMeets (barrierPass (.bararr 3 1) 1 0) ∧
      (barAt (barrierPass (.bararr 3 1) 1 0).spadTime.grp 4064).rem = 1) ∧
    Ready (.bartx 2 1) (st (barrierPass (.bartx 2 1) 0 64)) (barrierPass (.bartx 2 1) 0 64) ∧ barMeets (barrierPass (.bartx 2 1) 0 64) := by
  refine ⟨⟨ready (by decide +kernel), ?_⟩, ⟨ready (by decide +kernel), ?_⟩, ⟨ready (by decide +kernel), ?_⟩, ⟨ready (by decide +kernel), ?_⟩,
    ready (by decide +kernel), ?_⟩ <;> (try unfold barMeets) <;> decide +kernel

theorem witness_Barriers_waits :
    (let p := barrierPass (.barwait 2 1) 1 1
     Ready (.barwait 2 1) (st p) p ∧ barMeets p ∧ (barAt p.spadTime.grp 4064).phase ≠ bit (p.sreg 2) 0) ∧
    (let p := barrierPass (.barwait 2 1) 1 0
     Ready (.barwait 2 1) (st p) p ∧ barMeets p ∧ (barAt p.spadTime.grp 4064).phase = bit (p.sreg 2) 0) ∧
    (let p := barrierPass (.bartry 3 2 1) 1 0
     Ready (.bartry 3 2 1) (st p) p ∧ barMeets p) ∧
    (let p := withS (ps 0 (.bararr 3 1)) 1 4065
     Ready (.bararr 3 1) (st p) p ∧ barrierReg (.bararr 3 1) = some 1 ∧ (p.sreg 1).toNat % 32 ≠ 0) ∧
    (let p := withS (ps 0 (.barwait 2 1)) 1 4096
     Ready (.barwait 2 1) (st p) p ∧ barrierReg (.barwait 2 1) = some 1 ∧ p.grp.size < (p.sreg 1).toNat + 32) := by
  refine ⟨⟨ready (by decide +kernel), ?_⟩, ⟨ready (by decide +kernel), ?_⟩, ⟨ready (by decide +kernel), ?_⟩, ⟨ready (by decide +kernel), ?_⟩,
    ready (by decide +kernel), ?_⟩ <;> (try unfold barMeets) <;> decide +kernel

theorem witness_Barriers_set :
    (let p := ps 0 (.gbar 6)
     Ready (.gbar 6) (st p) p ∧ inSet (p.dev.setsOf p.wav.launch) 6 p.grp.index p.wav.index = false) ∧
    (let p := ps 0 (.gbar 5)
     Ready (.gbar 5) (st p) p ∧ inSet (p.dev.setsOf p.wav.launch) 5 p.grp.index p.wav.index = true ∧ p.hold = none ∧
      ∀ x ∈ p.prt.gbarGo, x.1 ≠ 5) ∧
    (let p : Spec := { ps 0 (.gbar 5) with prt := { prt 0 (.gbar 5) with gbarGo := [(5, 64)] } }
     Ready (.gbar 5) (st p) p ∧ inSet (p.dev.setsOf p.wav.launch) 5 p.grp.index p.wav.index = true ∧
      p.prt.gbarGo.find? (fun x => decide (x.1 = 5)) = some (5, 64)) :=
  ⟨⟨ready (by decide +kernel), by decide +kernel⟩, ⟨ready (by decide +kernel), by decide +kernel⟩, ready (by decide +kernel), by decide +kernel⟩

/-- A BMV of 32 columns and 16 rows from row `r`. -/
def bmvDesc (r : Nat) : List Nat := [0x200000, 0x20000, 0x20400, 0x20800, r + 16 * 2 ^ 32, 32]

theorem witness_BankInstructions :
    (let p := described (.bmv 1 1) (bmvDesc 0)
     Ready (.bmv 1 1) (st p) p ∧ descMeets p true 0 ∧ bmvLegal (descWords p 0 64) = true ∧
      p.spadTime.sync.bmvCount p.spadTime.wid p.spadTime.prt.quads < 64) ∧
    (let p := described (.bmvacc 0 1) (bmvDesc 8)
     Ready (.bmvacc 0 1) (st p) p ∧ descMeets p true 0 ∧ bmvLegal (descWords p 0 64) = false) ∧
    (let p := described (.bmv 0 1) (bmvDesc 0)
     let q : Spec := { p with dev := { p.dev with bmvs := (List.range 64).map fun k => (k, bmv0) }, first := 1000 }
     Ready (.bmv 0 1) (st q) q ∧ descMeets q true 0 ∧ bmvLegal (descWords q 0 64) = true ∧
      64 ≤ q.spadTime.sync.bmvCount q.spadTime.wid q.spadTime.prt.quads) ∧
    (let p := withS (ps 0 (.bstat 0 1 2)) 1 12
     Ready (.bstat 0 1 2) (st p) p ∧ 12 ≤ bits (p.sreg 1) 3 0) ∧
    (let p := withS (ps 0 (.bstat 1 1 2)) 1 (63 * 16 + 11)
     Ready (.bstat 1 1 2) (st p) p ∧ bits (p.sreg 1) 3 0 < 12) := by
  refine ⟨⟨ready (by decide +kernel), ?_⟩, ⟨ready (by decide +kernel), ?_⟩, ⟨ready (by decide +kernel), ?_⟩, ⟨ready (by decide +kernel), ?_⟩,
    ready (by decide +kernel), ?_⟩ <;> (try unfold descMeets) <;> decide +kernel


/-- The register s1 at an offset, and a live write of operation 7 over the scratchpad's first 64 bytes. -/
def written (i : Instr) (off : Word64) : Spec :=
  let p := withS (ps 0 i) 1 off
  { p with dev := p.dev.setCore 0 { core0 with board := [⟨7, 0, true, 0, 64⟩] }, first := 1000 }

theorem witness_DescriptorTraps :
    (let p := withS (ps 0 (.bmvacc 0 1)) 1 32
     Ready (.bmvacc 0 1) (st p) p ∧ (p.sreg 1).toNat % 64 ≠ 0) ∧
    (let p := withS (ps 0 (.gather 0 0 1)) 1 4096
     Ready (.gather 0 0 1) (st p) p ∧ p.grp.size < (p.sreg 1).toNat + 64) ∧
    (let p := written (.putsig 1) 0
     Ready (.putsig 1) (st p) p ∧ (p.sreg 1).toNat + 64 ≤ p.grp.size ∧ p.sync.stalls p.wav.group p.first false [(0, 64)] = true ∧ p.hold = none) ∧
    (let p := withS (ps 0 (.tcopy 0 0 1)) 1 4032
     Ready (.tcopy 0 0 1) (st p) p ∧ descReady p 4032 64 64 ∧ p.grp.size < 4032 + 64 + 24 * (bits (dw (descWords p 4032 64) 2) 3 0 + 1)) ∧
    (let p := withS (ps 0 (.obres 1 3)) 1 16
     Ready (.obres 1 3) (st p) p ∧ bits (p.sreg 1) 18 0 % 32 ≠ 0) ∧
    (let p := withS (ps 0 (.obres 1 3)) 1 4096
     Ready (.obres 1 3) (st p) p ∧ p.grp.size < bits (p.sreg 1) 18 0 + 32) ∧
    (let p := written (.obres 1 3) 32
     Ready (.obres 1 3) (st p) p ∧ bits (p.sreg 1) 18 0 = 32 ∧ p.sync.stalls p.wav.group p.first false [(32, 32)] = true ∧ p.hold = none) := by
  refine ⟨⟨ready (by decide +kernel), ?_⟩, ⟨ready (by decide +kernel), ?_⟩, ⟨ready (by decide +kernel), ?_⟩, ⟨ready (by decide +kernel), ?_⟩,
    ⟨ready (by decide +kernel), ?_⟩, ⟨ready (by decide +kernel), ?_⟩, ready (by decide +kernel), ?_⟩ <;> (try unfold descReady) <;> decide +kernel

/-- Descriptors at the bounds of each check, legal and not (06 R170, R174, R175, R182; 07 R196). -/
theorem witness_DescriptorLegality :
    (let w (l : List Nat) : List Word64 := l.map (BitVec.ofNat 64)
     copyLegal (w (copyDesc (2 ^ 32 - 1))) = true ∧ copyLegal (w [0, 0, 2 ^ 24, 0, 0, 0, 0, 0, 1]) = false ∧
     gatherLegal 4096 (w (gatherDesc 65536)) = false ∧ gatherLegal 4096 (w [0, 1 + 12 * 2 ^ 32, 4092, 0, 4095, 0, 0, 0]) = true ∧
     gatherLegal 4096 (w [0, 1 + 13 * 2 ^ 32, 4092, 0, 4095, 0, 0, 0]) = false ∧
     putsigLegal (w (putsigDesc (2 ^ 24))) = true ∧ putsigLegal (w (putsigDesc 0)) = false ∧
     bmvLegal (w (bmvDesc 16)) = true ∧ bmvLegal (w (bmvDesc 8)) = false ∧
     recOf 4096 (w [64 + 4032 * 2 ^ 32, 5 * 2 ^ 32, 1, 0]) = some ⟨64, 4032, 1, 0, 0, 5, false, 0⟩ ∧
     recOf 4096 (w [64 + 4096 * 2 ^ 32, 5 * 2 ^ 32, 1, 0]) = none) := by decide +kernel

/-- Types, shapes, records and tiles on both sides of the checks (07 R185, R186, R188, R200, R202). -/
theorem witness_MatrixChecks :
    (6 < 7 ∧ 7 < 8) ∧ recFits false false 0 0 ⟨0, 4096, 0, 0, 0, 0, false, 0⟩ = true ∧ recFits false false 0 0 ⟨0, 4032, 0, 0, 0, 0, false, 0⟩ = false ∧
    recFits false true 0 0 ⟨0, 512, 0, 0, 0, 0, true, 0⟩ = false ∧ tileFits true 6 7 ⟨0, 16, true⟩ = true ∧
    tileFits true 6 7 ⟨0, 16, false⟩ = false ∧ ctlLegal (ps 0 .nop) 0 0 = true ∧ ctlLegal (ps 0 .nop) 0 (BitVec.ofNat 64 (2 ^ 51)) = false := by
  decide +kernel
/-! ## Hypotheses met: matrix and charts -/

/-- A record and a tile that serve an MMA of BF16. -/
def rec0 : OBRec := ⟨0, 4096, 0, 0, 0, 0, false, 0⟩

/-- A sparse record with an identity. -/
def recS : OBRec := ⟨0, 4096, 0, 0, 0, 0, true, 77⟩

/-- A tile of all units. -/
def tile0 : Tile := ⟨0, 16, false⟩

/-- A wave of 16 lanes whose group holds a record o1 and a tile t2. -/
def mxPass (i : Instr) (r : OBRec) : Spec :=
  let p := ps 2 i
  { p with grp := { p.grp with recs := [(1, r)], tiles := [(2, tile0)] }, first := 1000 }

/-- An entry of the matrix queue. -/
def mq0 (w : MQWork) : MQEntry := ⟨0, 0, 0, 1, some 0, w, none, false, []⟩

/-- The same with a full queue. -/
def mxFull (i : Instr) (r : OBRec) (w : MQWork) : Spec :=
  let p := mxPass i r
  { p with grp := { p.grp with mq := List.replicate 4 (mq0 w) } }

/-- The same with a course partner, group 1 on core 1, that holds a record and a tile or not (07 R202). -/
def mxCourse (i : Instr) (here : Bool) (recs : AMap OBRec) : Spec :=
  let p := mxPass i rec0
  let l : Launch := { lch 2 with sets := [(0x20100, 1)] }
  let g : Group := { grp 2 with index := 1, core := if here then some 1 else none, recs := recs, tiles := [(2, tile0)] }
  { p with dev := { p.dev with launches := [(0, l)], groups := [(0, grp 2), (1, g)] } }

/-- MMA of o1 and t2 with A in v0. -/
def mma0 (c s : BitVec 1) : Instr := .mma 0 0 c s 2 1 0 0 0

theorem witness_MatrixMultiply :
    (Ready (mma0 0 0) (st (ps 2 (mma0 0 0))) (ps 2 (mma0 0 0)) ∧ (ps 2 (mma0 0 0)).grp.recs.get? 1 = none) ∧
    (let p := mxPass (mma0 0 0) { rec0 with size := 64 }
     Ready (mma0 0 0) (st p) p ∧ recFits false false 0 0 { rec0 with size := 64 } = false) ∧
    (let p := mxPass (mma0 0 0) rec0
     Ready (mma0 0 0) (st p) p ∧ mmaFits p false false 0 0 rec0 tile0 ∧ p.act ≠ [] ∧ matrixRoom p ∧ p.grp.recs.get? 1 = some rec0 ∧
      p.grp.tiles.get? 2 = some tile0) ∧
    (let p := mxPass (mma0 0 1) recS
     Ready (mma0 0 1) (st p) p ∧ mmaFits p false true 0 0 recS tile0 ∧ p.act ≠ [] ∧ matrixRoom p ∧ chartRoom p (keyFor recS 0)) ∧
    (let p := withS (mxPass (mma0 0 0) rec0) 63 0
     Ready (mma0 0 0) (st p) p ∧ p.act = []) ∧
    (let p := mxFull (mma0 0 0) rec0 (.acczero 2)
     Ready (mma0 0 0) (st p) p ∧ mmaFits p false false 0 0 rec0 tile0 ∧ p.act ≠ [] ∧ ¬ matrixRoom p ∧ p.hold = none) := by
  refine ⟨⟨ready (by decide +kernel), ?_⟩, ⟨ready (by decide +kernel), ?_⟩, ⟨ready (by decide +kernel), ?_⟩, ⟨ready (by decide +kernel), ?_⟩,
    ⟨ready (by decide +kernel), ?_⟩, ready (by decide +kernel), ?_⟩ <;> (try unfold mmaFits) <;> (try unfold matrixRoom) <;>
    (try unfold chartRoom) <;> decide +kernel

/-- How a course partner stands: 0 usable, 1 not serving, 2 not resident. -/
def mateKind (p : Spec) : Nat := match mateOf p false 2 1 0 0 with
  | .ok _ => 0
  | .error true => 1
  | .error false => 2

theorem witness_MatrixMultiply_course :
    (let p := mxCourse (mma0 1 0) true [(1, rec0)]
     Ready (mma0 1 0) (st p) p ∧ mmaFits p true false 0 0 rec0 tile0 ∧ p.act ≠ [] ∧ matrixRoom p ∧ mateKind p = 0) ∧
    (let p := mxCourse (mma0 1 0) true []
     Ready (mma0 1 0) (st p) p ∧ mmaFits p true false 0 0 rec0 tile0 ∧ mateKind p = 1) ∧
    (let p := mxCourse (mma0 1 0) false [(1, rec0)]
     Ready (mma0 1 0) (st p) p ∧ mmaFits p true false 0 0 rec0 tile0 ∧ mateKind p = 2 ∧ p.hold = none) := by
  refine ⟨⟨ready (by decide +kernel), ?_⟩, ⟨ready (by decide +kernel), ?_⟩, ready (by decide +kernel), ?_⟩ <;> unfold mmaFits <;>
    (try unfold matrixRoom) <;> decide +kernel

/-- An OBRES descriptor of `n` bytes at offset 64 (07 R196). -/
def recDesc (n : Nat) : List Nat := [64 + n * 2 ^ 32, 0, 0, 5]

theorem witness_Records :
    (let p := described (.obres 1 0) (recDesc 64)
     Ready (.obres 1 0) (st p) p ∧ bits (p.sreg 1) 18 0 = 0 ∧ 32 ≤ p.grp.size ∧
      p.sync.stalls p.wav.group p.first false [(0, 32)] = false ∧ p.spadTime.hold = none ∧
      (recOf p.spadTime.grp.size (descWords p 0 32)).isSome = true ∧
      p.spadTime.sync.over p.spadTime.wid p.spadTime.wav p.spadTime.prt p.spadTime.first (.record 0) = true) ∧
    (let p := described (.obres 1 0) (recDesc 63)
     Ready (.obres 1 0) (st p) p ∧ recOf p.spadTime.grp.size (descWords p 0 32) = none) ∧
    (let p := withPad (mxFull (.obres 1 1) rec0 (.mma false false false 2 1 0 rec0 none [])) 0 (dwords (recDesc 64))
     Ready (.obres 1 1) (st p) p ∧ p.spadTime.hold = none ∧ (recOf p.spadTime.grp.size (descWords p 0 32)).isSome = true ∧
      p.spadTime.sync.over p.spadTime.wid p.spadTime.wav p.spadTime.prt p.spadTime.first (.record 1) = false) ∧
    (let p := mxPass (.obfree 1) rec0
     Ready (.obfree 1) (st p) p ∧ p.sync.over p.wid p.wav p.prt p.first (.record 1) = true) ∧
    (let p := mxFull (.obfree 1) rec0 (.mma false false false 2 1 0 rec0 none [])
     Ready (.obfree 1) (st p) p ∧ p.sync.over p.wid p.wav p.prt p.first (.record 1) = false ∧ p.hold = none) ∧
    (Ready (.sptile 1 1) (st (ps 2 (.sptile 1 1))) (ps 2 (.sptile 1 1)) ∧ (ps 2 (.sptile 1 1)).grp.recs.get? 1 = none) ∧
    (let p := mxPass (.sptile 1 1) rec0
     Ready (.sptile 1 1) (st p) p ∧ p.grp.recs.get? 1 = some rec0) :=
  ⟨⟨ready (by decide +kernel), by decide +kernel⟩, ⟨ready (by decide +kernel), by decide +kernel⟩, ⟨ready (by decide +kernel), by decide +kernel⟩,
    ⟨ready (by decide +kernel), by decide +kernel⟩, ⟨ready (by decide +kernel), by decide +kernel⟩, ⟨ready (by decide +kernel), by decide +kernel⟩,
    ready (by decide +kernel), by decide +kernel⟩

theorem witness_Charts :
    (let p := mxPass (.chartpf 7 1) rec0
     Ready (.chartpf 7 1) (st p) p ∧ chartRec p 1 = none) ∧
    (let p := mxPass (.chartpf 0 1) recS
     Ready (.chartpf 0 1) (st p) p ∧ chartRec p 1 = some recS ∧ chartRoom p (keyFor recS 0)) ∧
    (let p := mxPass (.chartinv 0) recS
     Ready (.chartinv 0) (st p) p ∧ p.grp.recs.get? 0 = none) ∧
    (let p := mxPass (.chartinv 1) recS
     Ready (.chartinv 1) (st p) p ∧ p.grp.recs.get? 1 = some recS) ∧
    (let p := mxPass (.chartq 0 5 0 1) rec0
     Ready (.chartq 0 5 0 1) (st p) p ∧ chartRec p 1 = none) ∧
    (let p := mxPass (.chartq 1 5 7 1) recS
     Ready (.chartq 1 5 7 1) (st p) p ∧ chartRec p 1 = some recS) := by
  refine ⟨⟨ready (by decide +kernel), ?_⟩, ⟨ready (by decide +kernel), ?_⟩, ⟨ready (by decide +kernel), ?_⟩, ⟨ready (by decide +kernel), ?_⟩,
    ⟨ready (by decide +kernel), ?_⟩, ready (by decide +kernel), ?_⟩ <;> (try unfold chartRoom) <;> decide +kernel

theorem witness_TilesAndAccumulators :
    (let p := mxPass (.talloc 0 4 2) rec0
     Ready (.talloc 0 4 2) (st p) p ∧ (p.grp.tiles.get? 2).isSome = true) ∧
    (let q := mxPass (.talloc 1 16 3) rec0
     let p : Spec := { q with prt := { q.prt with tallocGrant := [(0, 16)] } }
     Ready (.talloc 1 16 3) (st p) p ∧ p.grp.tiles.get? 3 = none ∧ p.prt.tallocGrant = [(0, 16)]) ∧
    (let p := mxPass (.tfree 2) rec0
     Ready (.tfree 2) (st p) p ∧ p.sync.over p.wid p.wav p.prt p.first (.tile 2) = true) ∧
    (let p := mxFull (.tfree 2) rec0 (.acczero 2)
     Ready (.tfree 2) (st p) p ∧ p.sync.over p.wid p.wav p.prt p.first (.tile 2) = false ∧ p.hold = none) :=
  ⟨⟨ready (by decide +kernel), by decide +kernel⟩, ⟨ready (by decide +kernel), by decide +kernel⟩, ⟨ready (by decide +kernel), by decide +kernel⟩,
    ready (by decide +kernel), by decide +kernel⟩

/-- ACCRD or ACCWR with a control word in s1 (07 R200). -/
def accPass (i : Instr) (c : Word64) : Spec := withS (mxPass i rec0) 1 c

theorem witness_TilesAndAccumulators_queue :
    (Ready (.acczero 3) (st (mxPass (.acczero 3) rec0)) (mxPass (.acczero 3) rec0) ∧ (mxPass (.acczero 3) rec0).grp.tiles.get? 3 = none) ∧
    (let p := mxPass (.acczero 2) rec0
     Ready (.acczero 2) (st p) p ∧ p.grp.tiles.get? 2 ≠ none ∧ matrixRoom p) ∧
    (let p := mxFull (.acczero 2) rec0 (.acczero 2)
     Ready (.acczero 2) (st p) p ∧ p.grp.tiles.get? 2 ≠ none ∧ ¬ matrixRoom p ∧ p.hold = none) ∧
    (let p := accPass (.accrd 0 2 65 1) (0x3F000000)
     Ready (.accrd 0 2 65 1) (st p) p ∧ ctlLegal p 65 (p.sreg 1) = false) ∧
    (let p := accPass (.accrd 1 2 64 1) (0x3F000000)
     Ready (.accrd 1 2 64 1) (st p) p ∧ ctlLegal p 64 (p.sreg 1) = true ∧ p.act ≠ [] ∧ bits (p.sreg 1) 22 21 = 0 ∧ matrixRoom p) ∧
    (let p := accPass (.accrd 0 2 8 1) (2 ^ 21 + 64 * 2 ^ 32)
     Ready (.accrd 0 2 8 1) (st p) p ∧ ctlLegal p 8 (p.sreg 1) = true ∧ p.act ≠ [] ∧ scaleKeys p (p.sreg 1) ≠ [] ∧ matrixRoom p ∧
      p.sync.stalls p.wav.group p.first false (((scaleKeys p (p.sreg 1)).filter fun k => inSpad p.grp (64 + 4 * k) 4).map
        fun k => (64 + 4 * k, 4)) = false) ∧
    (let p := accPass (.accwr 2 8 1) (2 ^ 22)
     Ready (.accwr 2 8 1) (st p) p ∧ bits (p.sreg 1) 22 21 ≠ 0) ∧
    (let p := withS (accPass (.accwr 2 8 1) 0) 63 0
     Ready (.accwr 2 8 1) (st p) p ∧ ctlLegal p 8 (p.sreg 1) = true ∧ p.act = []) ∧
    (let p := accPass (.accwr 2 64 1) (0x3F000000)
     Ready (.accwr 2 64 1) (st p) p ∧ ctlLegal p 64 (p.sreg 1) = true ∧ bits (p.sreg 1) 22 21 = 0 ∧ p.act ≠ [] ∧ matrixRoom p) := by
  refine ⟨⟨ready (by decide +kernel), ?_⟩, ⟨ready (by decide +kernel), ?_⟩, ⟨ready (by decide +kernel), ?_⟩, ⟨ready (by decide +kernel), ?_⟩,
    ⟨ready (by decide +kernel), ?_⟩, ⟨ready (by decide +kernel), ?_⟩, ⟨ready (by decide +kernel), ?_⟩, ⟨ready (by decide +kernel), ?_⟩,
    ready (by decide +kernel), ?_⟩ <;> (try unfold matrixRoom) <;> decide +kernel

/-! ## Hypotheses met: numbers -/

theorem witness_SpecialPoints :
    (0x80000000 < 0x80000001 ∧ 0x80000001 < 0xFF800000 ∧ sfu 2 0x80000001 = (0x7FC00000, fxNV)) ∧
    ((val .f32 0x7F800001).isSNan = true ∧ sfu 7 0x7F800001 = (0x7FC00000, fxNV)) ∧
    ((val .f32 0x7FC00001).isNan = true ∧ (val .f32 0x3F800000).isNan = false ∧ (minMax .f32 true 0x7FC00001 0x3F800000).1 = 0x3F800000) ∧
    (cmpNum (val .f32 0x80000000) (val .f32 0) = 0 ∧ (val .f32 0x80000000).neg? = true ∧ (minMax .f32 true 0x80000000 0).1 = 0) ∧
    ([3, -5].sum ≠ (0 : Int) ∧ (xsum 1 ([3, -5].map Num.ofInt)).1 = Num.ofInt (-2)) := by decide +kernel

/-- A number from an integer. -/
def nums (l : List Int) : List Machine.Num := l.map Num.ofInt

theorem witness_RayTests :
    ((nums [0, 0, 0]).length = 3 ∧ (nums [0, 0, 1]).length = 3 ∧
      (rayTri (nums [0, 0, 0]) (nums [0, 0, 1]) (Num.ofInt 8) [nums [-1, -1, 8], nums [3, -1, 8], nums [-1, 3, 8]]).map (fun x =>
        (enc .f32 x.1, enc .f32 x.2.1, enc .f32 x.2.2)) = some (0x41000000, 0x3E800000, 0x3E800000) ∧
      rayTri (nums [0, 0, 0]) (nums [0, 0, 1]) (Num.ofInt 7) [nums [-1, -1, 8], nums [3, -1, 8], nums [-1, 3, 8]] = none) ∧
    ((Num.ofInt 9 :: (nums [0, 0, 0] ++ nums [1, 1, 1] ++ nums [1, 1, 1, 4, 4, 4])).any Num.isNan = false ∧
      (rayBox (nums [0, 0, 0]) (nums [1, 1, 1]) (Num.ofInt 9) (nums [1, 1, 1, 4, 4, 4])).map (fun x =>
        (enc .f32 x.1, enc .f32 x.2)) = some (0x3F800000, 0x40800000) ∧
      axisRule (Num.ofInt 0) (Num.ofInt 1) (Num.ofInt 4) (Num.ofInt 1) = none ∧
      rayBox (nums [0, 0, 0]) (nums [1, 1, 1]) (Num.ofInt 9) (nums [4, 1, 1, 1, 4, 4]) = none) ∧
    rayBox (nums [0, 0, 0]) (nums [1, 1, 1]) (val .f32 0x7FC00000) (nums [1, 1, 1, 4, 4, 4]) = none := by decide +kernel

/-- A row of A of BF16 ones. -/
def ones : List Word32 := List.replicate 16 0x3F803F80

theorem witness_MmaValues :
    (rec0.fmt < 7 ∧ 0 < 8 ∧ rec0.blen ≤ 4 ∧ ∀ row ∈ [ones], row.length = if rec0.fmt < 5 then 16 else 32) ∧
    (let g := { grp 2 with spad := (List.range 32).foldl (fun m k => m.set (2 * (32 + k) + 1) 0x40) [] }
     (bitmapOf g rec0 64).length = 64 ∧ (∀ x ∈ bitmapOf g rec0 64, x < 2 ^ 32) ∧
      (mmaRun [(1, 7)] g { rec0 with tscale := 0x3F800000 } tile0 true false 0 none [ones]).1.get 1 = 0x42800000) ∧
    (recS.sparse = true ∧ recS.fmt < 5) := by decide +kernel
/-! ## Hypotheses met: encoding and the pass -/

theorem witness_DecodeOfEncode :
    Encoded (.vmov16 0 0) ∧ (Instr.vmov16 0 0).wf = true ∧ Encoded (.mma 1 1 1 1 15 7 112 6 7) ∧ (Instr.mma 1 1 1 1 15 7 96 6 7).wf = true ∧
      Encoded .nop ∧ Instr.nop.wf = true :=
  ⟨Or.inr ⟨0, 0, rfl⟩, by decide +kernel, Or.inl (by decide +kernel), by decide +kernel, Or.inl (by decide +kernel), by decide +kernel⟩

theorem witness_DecodeIsSound : ∃ i rest, decode (leBytes 4 0x41420C87 ++ [1, 2]) = .ok (i, rest) ∧ i = .vfmaF32 2 5 4 12 1 ∧ rest = [1, 2] :=
  ⟨_, _, rfl, by decide +kernel, by decide +kernel⟩

/-- A pass over a clause of other bytes. -/
def raw (b : List Byte) : Spec := { ps 0 .nop with prt := { prt 0 .nop with clause := some ⟨0x1000007F#32, b, 0x10008⟩ } }

theorem witness_StepRunsDecoded :
    (∃ c i rest, (ps 0 .exit).prt.clause = some c ∧ (ps 0 .exit).over = false ∧ decode (c.bytes.drop (ps 0 .exit).off) = .ok (i, rest)) ∧
    (∃ c e, (raw [1]).prt.clause = some c ∧ (raw [1]).over = false ∧ decode (c.bytes.drop (raw [1]).off) = .error e) ∧
    (∃ c, (ps 0 .nop).prt.clause = some c) ∧ ({ ps 0 .nop with slot := 1 } : Spec).over = true :=
  ⟨⟨_, _, _, rfl, by decide +kernel, rfl⟩, ⟨_, _, rfl, by decide +kernel, rfl⟩, ⟨_, rfl⟩, by decide +kernel⟩

theorem witness_Precise : Encoded .exit ∧ (st (ps 0 .exit)).spec = some (ps 0 .exit) := ⟨Or.inl (by decide +kernel), rfl⟩

theorem witness_Precise_illegal :
    Encoded (.gettime 1) ∧ (st (ps 0 (.gettime 1))).spec = some (ps 0 (.gettime 1)) ∧ legalAt (ps 0 (.gettime 1)) (.gettime 1) = false :=
  ⟨Or.inl (by decide +kernel), rfl, by decide +kernel⟩

theorem witness_PassStaysWellFormed : (st (ps 0 .nop)).passOk ∧ ∃ t, step (st (ps 0 .nop)) = .next t :=
  ⟨fun p h => by cases h; decide +kernel, _, rfl⟩

/-- A pass over its last slot, with hardware loops, a transfer and a hold as given. -/
def ended (l : List LoopLevel) (x : Option Word64) (t : Bool) (h : Option HoldReason) : Spec :=
  let p := ps 0 .nop
  { p with slot := 1, xfer := x, taken := t, hold := h, prt := { p.prt with loops := l } }

/-- A loop level that ends at an address. -/
def level (n : Word32) (stop : Word64) : LoopLevel := ⟨n, 0x10000, stop⟩

theorem witness_Commits :
    (∃ x, ({ st (ps 0 .nop) with spec := none } : State).dev.nextCommit = some x) ∧
    (ended [] none false (some .bfence)).hold = some .bfence ∧
    (let p := ended [] (some 0x10010) true none
     p.hold = none ∧ p.over = true ∧ p.split = none ∧ p.taken = true) ∧
    (let p := ended [] none false none
     p.over = true ∧ p.taken = false ∧ p.prt.loops = []) ∧
    (level 1 0x10008).stop ≠ (ended [level 1 0x10008] none false none).prt.pc ∧
    (level 2 0x10000).stop = (ended [level 2 0x10000] none false none).prt.pc ∧ (level 2 0x10000).count ≠ 1 ∧
    (level 0 0x10000).count ≠ 1 ∧ (level 1 0x10000).count = 1 ∧
    (ended [level 1 0x10000, level 1 0x10000] none false none).over = true :=
  ⟨⟨_, rfl⟩, by decide +kernel, by decide +kernel, by decide +kernel, by decide +kernel, by decide +kernel, by decide, by decide, by decide,
    by decide +kernel⟩

/-- Two waves whose clauses may commit in one cycle: the one of the lower context is first (01 R21). -/
theorem witness_Commits_order :
    (let d := { dv 0 .nop with waves := [(0, { wv 0 .nop with ctx := 1 }), (1, wv 0 .nop)] }
     (d.nextCommit.map (·.1)) = some 1 ∧ d.waves.get? 0 = some { wv 0 .nop with ctx := 1 } ∧ d.runs { wv 0 .nop with ctx := 1 } = true ∧
      ({ wv 0 .nop with ctx := 1 } : Wave).live = [prt 0 .nop] ∧ d.issued (prt 0 .nop) = true ∧ d.follows? (wv 0 .nop) (prt 0 .nop) = true) ∧
    (let p : Spec := { ended [] none false none with wav := { wv 0 .nop with stepping := some 1 } }
     p.wav.stepping ≠ none ∧ p.wav.halt = none ∧ p.split = none ∧ p.released = false ∧ liveLanes p.wav p.prt.quads ≠ 0) ∧
    (let p : Spec := { ended [] none false none with released := true, dests := [(true, 4, 2)], wav := { wv 0 .nop with prologue := 64 } }
     p.over = true ∧ (∀ e ∈ p.prt.window, e.t = false) ∧ (RegLoc.v 127 0).exists? = true ∧ p.wav.prologue ≤ 127) := by
  decide +kernel

/-- The end of a clause whose BRM sends the quads of a mask to 0x10020. -/
def splits (q : BitVec 16) : Spec := { ps 2 .nop with slot := 1, taken := true, split := some (q, 0x10020), xfer := some 0x10008 }

theorem witness_SplitCommits :
    (let p := splits 1
     p.hold = none ∧ p.over = true ∧ p.split = some (1, 0x10020) ∧ p.taken = true ∧ p.dests = [] ∧ p.released = false ∧
      (1#16) &&& ~~~ p.prt.quads = 0 ∧ p.prt.quads &&& ~~~ 1 ≠ 0 ∧ lowQuad 1 < lowQuad (p.prt.quads &&& ~~~ 1) ∧ p.prt.stack.length ≤ 2 ∧
      ∀ r, r < 63 → ∀ e ∈ p.prt.window, ∀ y ∈ e.w, place y.1 = (1, r) → y.1 = .s r) ∧
    (let p := splits 8
     p.over = true ∧ (8#16) &&& ~~~ p.prt.quads = 0 ∧ p.prt.quads &&& ~~~ 8 ≠ 0 ∧ lowQuad (p.prt.quads &&& ~~~ 8) < lowQuad 8) := by
  decide +kernel

theorem witness_TrapsAreTaken :
    (dv 1 .nop).waves.get? 0 = some (wv 1 .nop) ∧
    (wv 1 .nop).parts.find? (fun x => decide (x.quads = (prt 1 .nop).quads)) = some (prt 1 .nop) ∧ (wv 1 .nop).halt = none ∧
    (dv 1 .nop).groups.get? (wv 1 .nop).group = some (grp 1) := by
  decide +kernel

theorem witness_TrapsAreTaken_window :
    ∀ e ∈ ((ps 0 .nop).push true [(.s 3, 9), (.v 4 0, 8)]).prt.window, ∀ x ∈ e.w, place x.1 = place (.s 3) → x.1 = .s 3 := by decide +kernel

theorem witness_StoredBytes : [0, 2 ^ 52, 2 ^ 60].Nodup ∧ [0, 2 ^ 52, 2 ^ 60].length = ([1, 2, 3] : List Byte).length ∧
    Memory.wf (dv 0 .nop).mem = true := by decide +kernel

theorem witness_Rounding : 0 < 1 ∧ roundShift 1 false 1 1 = (0, true) ∧ roundShift 1 false 3 1 = (2, true) ∧ roundShift 3 true 3 1 = (1, true) ∧
    roundShift 5 true 1 1 = (1, true) := by decide +kernel

theorem witness_ResetValues : State.reset.spec = none ∧ State.reset.dev.clk.nextTick = 128 := by decide +kernel

/-! ## Hypotheses met: parts, starts, splits and fuses -/

/-- The state between passes, with the operands of a step. -/
def ev (d : Device) (l : List Nat) : State := ⟨d, none, [], l⟩

/-- The wave at its header, changed as said. -/
def hw (w : Nat) (i : Instr) (f : Part → Part) : Wave :=
  { wv w i with parts := (wv w i).parts.map fun q => f { q with phase := .header, clause := none } }

/-- The machine with the wave at a header `h` of a clause of one instruction. -/
def mach (w h : Nat) (i : Instr) (x : Wave) : Device :=
  { dv w i with mem := memPut [] ((List.range 8).map (0x10000 + ·)) (leBytes 4 h ++ (encode i ++ [0, 0]).take 4), waves := [(0, x)] }

/-- The header word of a clause of one instruction: flags f0 and f1, S set, waiting for f0. -/
def waitHdr : Nat := 0x1000187F

/-- The header word without a wait. -/
def plainHdr : Nat := 0x1000007F

/-- The first part of a wave. -/
def part0 (x : Wave) : Option (Wave × Part) := x.parts.head?.map fun q => (x, q)

/-- A wave of two parts of one quad each, the second changed as said. -/
def two (x : Wave) (f : Part → Part) : Wave :=
  { x with parts := x.parts.flatMap fun q => [{ q with quads := 1 }, f { q with quads := 2 }] }

/-- A step of a part is due or not. -/
def dueMeets (i : Instr) (f : Part → Part) (due : Bool) : Prop :=
  (mach 0 plainHdr .nop (hw 0 .nop f)).partOf 0 0 = part0 (hw 0 .nop f) ∧
    ∃ c q', ((part0 (hw 0 .nop f)).bind fun x => partStep (mach 0 plainHdr .nop (hw 0 .nop f)) x.1 x.2 i) = some (c, q') ∧ (c ↔ due = true)

theorem witness_PartSteps :
    dueMeets .starvationPromote (fun q => { q with starve := 256 }) true ∧ dueMeets .starvationPromote (fun q => { q with starve := 255 }) false ∧
    dueMeets .spinDemote (fun q => { q with spin := 8 }) true ∧ dueMeets .spinDemote (fun q => { q with spin := 7 }) false ∧
    dueMeets .spinDemotionExpiry (fun q => { q with demoted := 1 }) true ∧ dueMeets .spinDemotionExpiry (fun q => { q with demoted := 2 }) false ∧
    dueMeets .sleepExpiry (fun q => { q with sleep := 1 }) true ∧ dueMeets .sleepExpiry (fun q => { q with sleep := 2 }) false ∧
    dueMeets .scalarCopyDone (fun q => { q with copyWait := 1 }) true ∧ dueMeets .scalarCopyDone (fun q => { q with copyWait := 2 }) false ∧
    dueMeets .yieldExpiry (fun q => { q with yieldOther := true }) true ∧ dueMeets .yieldExpiry (fun q => { q with yieldLeft := 2 }) false := by
  refine ⟨?_, ?_, ?_, ?_, ?_, ?_, ?_, ?_, ?_, ?_, ?_, ?_⟩ <;>
    exact ⟨by decide +kernel, _, _, rfl, by decide +kernel⟩

/-- What stands in the way of the first part of a wave at its header, where nothing else stops it. -/
def stands (d : Device) (x : Wave) : Option Header :=
  match part0 x with
  | some (w, q) =>
    if d.partOf 0 0 = some (w, q) ∧ q.phase = .header ∧ d.runs w = true ∧ d.stoppedAt w q = false ∧ breakpointOf d w q = none then
      some (headerOf d 0 w q).1
    else none
  | none => none

/-- A wave whose flag f0 of quad 0 is up. -/
def upFlag (x : Wave) : Wave := { x with flags := [(fkey 0 0, 1)] }

theorem witness_StartsAndPicks_start :
    stands (mach 0 plainHdr .nop (hw 0 .nop id)) (hw 0 .nop id) = some .ready ∧
    (stands (mach 0 plainHdr .nop (hw 0 .nop fun q => { q with pc := 0x10004 })) (hw 0 .nop fun q => { q with pc := 0x10004 })).isSome = true ∧
    (stands (mach 0 plainHdr (.gettime 1) (hw 0 (.gettime 1) id)) (hw 0 (.gettime 1) id)) =
      some (.trap { trapOf 1 0 0 0 0 with slot := some 0, bits := BitVec.ofNat 32 (word (.gettime 1)) }) ∧
    stands (mach 0 waitHdr .nop (upFlag (hw 0 .nop id))) (upFlag (hw 0 .nop id)) = some .flags ∧
    stands (mach 1 plainHdr (.join 31) (two (hw 1 (.join 31) id) id)) (two (hw 1 (.join 31) id) id) = some .join ∧
    stands (mach 1 plainHdr (.fuse 5) (two (hw 1 (.fuse 5) id) id)) (two (hw 1 (.fuse 5) id) id) = some .fuse ∧
    stands (mach 0 plainHdr (.talloc 0 4 0) (hw 0 (.talloc 0 4 0) id)) (hw 0 (.talloc 0 4 0) id) = some .allot ∧
    stands (mach 0 plainHdr .nop (hw 0 .nop fun q => { q with sleepTick := true })) (hw 0 .nop fun q => { q with sleepTick := true }) =
      some .asleep := by decide +kernel

/-- Two waves of one slot that may issue, the second of a higher class number. -/
def slotted : Device :=
  let x := hw 0 .nop fun q => { q with phase := .issuing 0, clause := some (clause .nop) }
  { mach 0 plainHdr .nop x with waves := [(0, x), (1, { x with index := 1, parts := x.parts.map fun q => { q with demoted := 5 } })] }

theorem witness_StartsAndPicks_pick :
    (∃ wid w q, slotted.pickOf 0 0 = some (wid, w, q) ∧ wid = 0 ∧ q.phase = .issuing 0 ∧ slotted.partOf wid (lowQuad q.quads) = some (w, q) ∧
      ((slotted.core 0).slotFree.get 0).toNat ≤ slotted.clk.cycle ∧ (slotted.slotParts 0 0).length = 2 ∧
      ∀ x ∈ slotted.slotParts 0 0, eligible x.2.2 = true ∧ slotted.partOf x.1 (lowQuad x.2.2.quads) = some x.2) ∧
    slotted.clk.cycle < ((slotted.setCore 0 { core0 with slotFree := [(0, 1)] }).core 0 |>.slotFree.get 0).toNat :=
  ⟨⟨0, _, _, rfl, by decide +kernel⟩, by decide +kernel⟩

/-- A part held at commit for a reason, at cycle 0 of a machine at cycle 9. -/
def heldAt (r : HoldReason) (x : Wave → Wave) : Device :=
  let w := x (hw 0 .bfence fun q => { q with phase := .held r, clause := some (clause .bfence) })
  { mach 0 plainHdr .bfence w with clk := { Clocks.reset with cycle := 9 } }

/-- Whether the hold of the first part is over, where nothing else stops it. -/
def heldOver (d : Device) (r : HoldReason) : Option Bool :=
  match d.partOf 0 0 with
  | some (w, q) =>
    if q.phase = .held r ∧ (d.groups.get? w.group).isSome = true ∧ q.clause.isSome = true ∧ d.runs w = true ∧ d.stoppedAt w q = false ∧
      q.heldAt < d.clk.cycle then some (d.over 0 w q d.nextId r) else none
  | none => none

theorem witness_StartsAndPicks_held :
    heldOver (heldAt (.flag 0) id) (.flag 0) = some true ∧
    heldOver (heldAt (.flag 0) fun x => { x with flags := [(fkey 0 0, 15)] }) (.flag 0) = some false := by decide +kernel

theorem witness_StartsAndPicks_taskQueue :
    heldOver (heldAt .taskQueue fun x => { x with parts := x.parts.map fun q => { q with tqReady := true } }) .taskQueue = some true ∧
    heldOver (heldAt .taskQueue id) .taskQueue = some false ∧
    ((heldAt .taskQueue id).partOf 0 0).map (fun x => (x.2.phase, x.2.tqReady, x.2.quads)) = some (.held .taskQueue, false, 1) := by decide +kernel

/-- A part waiting for f0 of its first quad, its second being ready for `n` of 32 cycles. -/
def missing (n : Nat) : Device :=
  mach 1 waitHdr .nop (upFlag (hw 1 .nop fun q => { q with splitWait := some (2, n, 32) }))

/-- The ready set of the first part and its wait, when it stands in state 3. -/
def missOf (d : Device) : Option (BitVec 16 × Nat × Nat) :=
  match d.standing 0 0 with
  | some (w, q, .flags, c) => (missReady w q c).bind fun r => q.splitWait.map fun x => (r, x.2)
  | _ => none

theorem witness_SplitsAndFuses_miss : missOf (missing 31) = some (2, 31, 32) ∧ missOf (missing 32) = some (2, 32, 32) := by decide +kernel

/-- Two parts at a join, or one at the join and one that waits for a fuse or runs. -/
def joining (f g : Part → Part) : Device := mach 1 plainHdr (.join 31) (two (hw 1 (.join 31) f) g)

/-- Of the first part at its join: how many wait there, how many live, and its wait. -/
def joinOf (d : Device) : Option (Nat × Nat × Option (Nat × Option Nat)) :=
  match d.standing 0 0 with
  | some (w, q, .join, _) => some ((d.waitingAt 0 w q.pc).length, w.live.length, q.joinWait)
  | _ => none

/-- The other part runs a clause. -/
def busy (q : Part) : Part := { q with phase := .issuing 0, clause := some (clause .nop) }

/-- The other part waits for a fuse at 0x10008. -/
def fusing : Device :=
  let d := joining id fun q => { q with pc := 0x10008 }
  { d with mem := memPut d.mem ((List.range 8).map (0x10008 + ·)) (leBytes 4 plainHdr ++ encode (.fuse 5)) }

theorem witness_SplitsAndFuses_join :
    joinOf (joining id id) = some (2, 2, none) ∧ joinOf (joining id busy) = some (1, 2, none) := by decide +kernel

theorem witness_SplitsAndFuses_timeout :
    joinOf (joining (fun q => { q with joinWait := some (5, some 5) }) busy) = some (1, 2, some (5, some 5)) ∧
    joinOf (joining (fun q => { q with joinWait := some (5, none) }) busy) = some (1, 2, some (5, none)) := by decide +kernel

theorem witness_SplitsAndFuses_release :
    (match fusing.standing 0 0 with
     | some (w, q, .join, _) => w.live.all fun p => decide (p.quads = q.quads) || fusing.waitsFuse 0 w p
     | _ => false) = true := by decide +kernel

/-- A part at FUSE of the wave, with its wait; the other part at the same header or elsewhere. -/
def widening (w : Option (Nat × Nat)) (g : Part → Part) : Device :=
  mach 1 plainHdr (.fuse 5) (two (hw 1 (.fuse 5) fun q => { q with fuseWait := w }) g)

/-- Whether a block is needed and stands together; and the wait of the first part in state 2. -/
def widthOfFirst (d : Device) : Option (Bool × Option (Nat × Nat)) :=
  match d.standing 0 0 with
  | some (w, q, .fuse, c) => some (c.block w q != 0 && !covers w q (c.block w q) && (blockParts w (c.block w q)).contains q &&
      (blockParts w (c.block w q)).all fun p => decide (p.phase = .header ∧ p.pc = q.pc), q.fuseWait)
  | _ => none

theorem witness_SplitsAndFuses_width :
    widthOfFirst (widening none id) = some (true, none) ∧
    widthOfFirst (widening (some (1023, 1024)) busy) = some (false, some (1023, 1024)) ∧
    widthOfFirst (widening (some (1024, 1024)) busy) = some (false, some (1024, 1024)) := by decide +kernel

/-- A header whose fetch needs a walk; a part that traps there, which listens; a part that has reached its header already. -/
theorem witness_StartsAndPicks_walk :
    (let x := hw 0 .nop id
     stands { mach 0 plainHdr .nop x with cores := [] } x = some .walk) ∧
    (let x := hw 0 (.gettime 1) id
     (x.parts.all fun q => (mach 0 plainHdr (.gettime 1) x).listens x q) = true) ∧
    (let x := hw 0 .nop fun q => { q with reached := true, limSplit := 9 }
     stands (mach 0 plainHdr .nop x) x = some .ready ∧ (x.parts.map (·.reached)) = [true]) := by decide +kernel

/-- Two parts at a join of which the wait of the first is over; a part that meets its fuse's end; four parts of a wave. -/
theorem witness_SplitsAndFuses_more :
    joinOf (joining (fun q => { q with joinWait := some (5, some 5) }) id) = some (2, 2, some (5, some 5)) ∧
    (match (widening (some (1024, 1024)) busy).meets 0 0 with
     | some (w, q, .fuse, _) => (widening (some (1024, 1024)) busy).listens w q
     | _ => false) = true ∧
    (match (widening none id).standing 0 0 with
     | some (w, q, .fuse, c) => c.block w q != 0 && decide (2 ≤ (blockParts w (c.block w q)).length)
     | _ => false) = true := by decide +kernel
/-! ## Hypotheses met: returns, walks and the pulse -/

/-- An access of lane 0, or a scalar one, of 4 bytes at a memory key. -/
def acc0 (lane key : Nat) (data : List Byte) (served : Bool) : Access :=
  ⟨lane, 0x20000, (List.range 4).map (key + ·), 0, 0, false, data, [], served, 0, none, false, false, none, none⟩

/-- A request of the wave. -/
def req0 (kind : ReqKind) (pend : BitVec 16) (a : Access) (timed : Bool) : Req :=
  { wave := 0, gen := 0, quads := 1, after := 1, pending := pend, flag := some 0, kind := kind, accs := [a], ready := 0, due := 1000, pos := 0x10000, timed := timed,
    back := false }

/-- A machine with a request in flight. -/
def inFlight (r : Req) : Device := { mach 0 plainHdr .nop (hw 0 .nop id) with reqs := [(0, r)] }

/-- The next access of the request may be served at its home slice. -/
def servable (d : Device) : Bool :=
  match d.reqs.get? 0 with
  | some r => (match d.next? r with
    | some (i, a) => decide (r.ready ≤ d.clk.cycle) && a.dev && !d.behindEarlier 0 r a && decide (r.accs[i]? = some a) && (a.keys.map d.home).Nodup
    | none => false)
  | none => false

/-- A machine with a request in flight whose line a bank product holds. -/
def atHeld (r : Req) : Device := { inFlight r with bmvs := [(3, { bmv0 with held := [0x20000 / 128] })] }

theorem witness_Returns_serve :
    (let d := inFlight (req0 (.vload 4 4) 1 (acc0 0 0x20000 [] false) false)
     servable d = true ∧ d.l1Find 0 (0x20000 / 128) = none ∧ d.lineHeld (0x20000 / 128) = false) ∧
    (let d := atHeld (req0 (.vload 4 4) 1 (acc0 0 0x20000 [] false) false)
     servable d = true ∧ d.lineHeld (0x20000 / 128) = true) ∧
    (let d := atHeld (req0 .store 0 (acc0 0 0x20000 [1, 2, 3, 4] false) false)
     servable d = true ∧ d.lineHeld (0x20000 / 128) = true ∧ (req0 .store 0 (acc0 0 0x20000 [1, 2, 3, 4] false) false).performs = true) ∧
    (servable (inFlight (req0 (.atom 6 0 9 0 5 0) 1 (acc0 64 0x20000 [] false) false)) = true ∧
      (atomBytes (.atom 6 0 9 0 5 0) (acc0 64 0x20000 [] false) 0).length = 4) := by decide +kernel

/-- A request all of whose accesses are served, long enough ago. -/
def done0 (r : Req) (n : Nat) : Device := { inFlight r with clk := { Clocks.reset with cycle := r.ready + n } }

theorem witness_Returns_return :
    let r := req0 (.vload 4 4) 1 (acc0 0 0x20000 [1, 2, 3, 4] true) false
    let d := done0 r (Config.latency (2 ^ 64 + 0 * 16 + 0))
    d.reqs.get? 0 = some r ∧ bit (r.returnQuads 0) 0 = true ∧ (∀ a ∈ r.accsOf (r.returnQuads 0), a.served = true) ∧
      r.ready + Config.latency (2 ^ 64 + 0 * 16 + 0) ≤ d.clk.cycle ∧ d.liveWave r.wave r.gen = some (hw 0 .nop id) :=
  ⟨rfl, by decide +kernel, by decide +kernel, Nat.le_refl _, by decide +kernel⟩

theorem witness_Returns_time :
    let r := req0 .store 0 (acc0 64 0x20000 [1, 2, 3, 4] true) false
    let d := done0 r (Config.latency (2 ^ 65 + 0))
    d.reqs.get? 0 = some r ∧ r.performs = true ∧ r.timed = false ∧ r.reached = true ∧ r.ready + Config.latency (2 ^ 65 + 0) ≤ d.clk.cycle ∧
      d.liveWave r.wave r.gen = some (hw 0 .nop id) :=
  ⟨rfl, by decide +kernel, rfl, by decide +kernel, Nat.le_refl _, by decide +kernel⟩

/-- A load of lost data, tried or retried; of data that its owner refuses; of span memory. -/
def lost (retried : Bool) : Req := req0 (.vload 4 4) 1 { acc0 0 0x20000 [] false with retried := retried } false

/-- The machine with the line of the load lost, or refused. -/
def without (bad refused : List Nat) (r : Req) : Device := { inFlight r with bad := bad, refused := refused }

/-- A load of a device's span memory that no port leads to. -/
def far0 : Req := req0 (.vload 4 4) 1 { acc0 0 (spanBase + 2 ^ 40) [] false with kind := 1 } false

/-- What the hypotheses on a failing access ask. -/
def failsAt (d : Device) (sub : Nat) (retried : Bool) : Bool :=
  match d.reqs.get? 0 with
  | some r => (match d.failing r 0 sub with
    | some (a, _) => decide (r.ready ≤ d.clk.cycle) && !d.behindEarlier 0 r a && (a.retried == retried) && decide (r.kind ≠ .store) &&
        (d.liveWave r.wave r.gen).isSome
    | none => false)
  | none => false

theorem witness_WalksAndPulse_failed :
    failsAt (without [0x20000 / 128] [] (lost false)) 1 false = true ∧ failsAt (without [0x20000 / 128] [] (lost true)) 1 true = true ∧
    failsAt (without [] [0x20000 / 128] (lost false)) 3 false = true ∧ failsAt (inFlight far0) 2 false = true := by decide +kernel

/-- A machine with a walk request, whose walk cache leads to a table at 0x40000 that holds a level-1 leaf, or does not. -/
def walking (root e : Nat) : Device :=
  { mach 0 plainHdr .nop (hw 0 .nop id) with
    walkQ := [⟨0, (0, 0), 0x400000, 0, 1, none⟩], walks := [(0, [⟨(0, 0), 2, 0, 0x40000⟩])]
    fns := [(0, { fn0 with asroot := [(0, BitVec.ofNat 64 root)] })], mem := memPut [] ((List.range 8).map (0x40010 + ·)) (leBytes 8 e) }

/-- Whether the walk that waits gives a leaf, and whether it meets a held line. -/
def walkFinds (d : Device) : Option (Bool × Bool) :=
  match d.walkQ.find? fun x => decide (x.core = 0) with
  | some x => some (match (walk d 0 x.space x.va).res with | .leaf _ => true | .fault _ _ => false, (walk d 0 x.space x.va).held d)
  | none => none

theorem witness_WalksAndPulse_walk :
    walkFinds (walking 0x1001 0x20000F) = some (true, false) ∧ walkFinds (walking 0x1001 0) = some (false, false) ∧
    walkFinds (walking 0 0x20000F) = some (false, false) ∧
    walkFinds { walking 0x1001 0x20000F with bmvs := [(3, { bmv0 with held := [0x40010 / 128] })] } = some (true, true) := by decide +kernel

/-- A device with SPANCTL as given and its clock at `ns`. -/
def ticking (ctl ns : Nat) : Device :=
  let d := mach 0 plainHdr .nop (hw 0 .nop id)
  { d with clk := { Clocks.reset with ns := ns, pulse := 1 }, mgmt := { d.mgmt with regs := d.mgmt.regs.set 0x8100 (BitVec.ofNat 64 ctl) } }

theorem witness_WalksAndPulse_tick :
    (ticking 0 128).clk.nextTick ≤ (ticking 0 128).clk.ns ∧ (ticking 0 128).drivenOutside = false ∧
    (ticking 0 127).clk.ns < (ticking 0 127).clk.nextTick ∧ (ticking 0x80 0).drivenOutside = true ∧ (ticking 0x180 0).drivenOutside = false ∧
    (ticking 0 128).waves.get? 0 = some (hw 0 .nop id) ∧ (hw 0 .nop id).saved = false ∧
    (ticking 0x80 0).member = true ∧ (ticking 0x80 0).clk.complete < 1 ∧ 1 ≤ (ticking 0x80 0).clk.pulse ∧
    (ticking 0x80 1024).clk.lastSpanTick + 8 * periodNs (ticking 0x80 1024).clk.period ≤ (ticking 0x80 1024).clk.ns ∧
    (ticking 0x80 1023).clk.ns < (ticking 0x80 1023).clk.lastSpanTick + 8 * periodNs (ticking 0x80 1023).clk.period := by decide +kernel

/-! ## Hypotheses met: launches, allotments and pre-emption -/

/-- A packet that no rule refuses: its area, status and argument addresses in the data leaf. -/
def goodPk : List Word64 :=
  [1, 0x10000, 0x20300, 1, 0x100001, 0, 0x20100, 0x20400, 0, 0x28000, 0, 0, 0, 0, 0x01008080]

/-- The idle machine, with a queue at an address, its write index 1, and that packet at 0x20800. -/
def queued (base ctl : Nat) : Device :=
  let d := mach 0 plainHdr .nop (hw 0 .nop id)
  { d with
    waves := [], groups := [], launches := [], seq := 1
    mem := d.mem.setAll ((List.range 256).map fun i => (0x20800 + i, (dwords (goodPk.map (·.toNat))).getD i 0))
    fns := [(0, { fn0 with queues := [(0, ⟨BitVec.ofNat 64 base, BitVec.ofNat 64 ctl, 0, 1, 0, []⟩)] })] }

/-- Whether the queue is ready, and what its next slot holds: 0 unreadable, 1 refused, 2 good. -/
def slotOf (d : Device) : Bool × Nat :=
  let q := (d.fn 0).queues.getD 0 HostQueue.reset
  (d.queueReady q,
    match (readDwords d.fetchAcquire (0, bits q.ctl 11 8) (q.base + BitVec.ofNat 64 (256 * (q.read.toNat % 2 ^ bits q.ctl 4 0))) 32).1 with
    | .error .wait => 3
    | .error _ => 0
    | .ok p => if (d.refusal (0, 0) (d.tablesOf (0, 0) p).1 p).isSome then 1 else 2)

theorem witness_Launching_packets :
    slotOf (queued 0x20800 0x80000001) = (true, 2) ∧ slotOf (queued 0x20000 0x80000001) = (true, 1) ∧
    slotOf (queued 0x30000 0x80000001) = (true, 0) ∧ (slotOf (queued 0x20800 1)).1 = false ∧
    (let d : Device := { queued 0x20800 0 with devQ := [(63, [⟨5, (0, 0), goodPk, 0⟩])] }
     8 ≤ 71 ∧ d.devQ.getD (71 - 8) [] = ⟨5, (0, 0), goodPk, 0⟩ :: [] ∧ d.mgmt.devstate = 2) := by decide +kernel

/-- A launch of the packet, not yet admitted, with a dependence at an address or none. -/
def waitingLaunch (dep : Option Nat) : Launch :=
  let p := match dep with
    | none => goodPk
    | some a => goodPk.set 0 (1 + 2 ^ 15) ++ [0, 0, 0, BitVec.ofNat 64 a, 7]
  { lch 0 with packet := p, sets := [], depsMet := false, admitted := 0 }

/-- A machine with that launch as its number 1. -/
def admitting (dep : Option Nat) : Device := { queued 0x20800 0 with launches := [(1, waitingLaunch dep)] }

/-- Of the launch: does it come first, and how do its dependences stand: 0 fault, 1 do not hold, 2 hold. -/
def depOf (d : Device) (l : Launch) : Bool × Nat :=
  (decide (d.firstCand = some (.fresh 1)), match (d.depsHold l).1 with
    | .error _ => 0
    | .ok none => 1
    | .ok (some _) => 2)

theorem witness_Launching_admit :
    depOf (admitting none) (waitingLaunch none) = (true, 2) ∧ depOf (admitting (some 0x30000)) (waitingLaunch (some 0x30000)) = (true, 0) ∧
    ((admitting none).placement 1 { waitingLaunch none with depsMet := true }).isSome = true ∧
    (let d := { admitting none with cores := (List.range 192).map fun c => (c, { Core.reset with retired := true }) }
     d.firstCand = some (.fresh 1) ∧ (d.placement 1 { waitingLaunch none with depsMet := true }).isNone = true) ∧
    (admitting none).mgmt.table = none := by decide +kernel

/-- The machine with its wave at GBAR of set 5, held, or running. -/
def atGate (f : Part → Part) : Device := mach 0 plainHdr (.gbar 5) (hw 0 (.gbar 5) f)

theorem witness_Launching_ends :
    (let d := mach 0 plainHdr .nop (hw 0 .nop id)
     d.launches.get? 0 = some (lch 0) ∧ d.launchDone 0 (lch 0) = false) ∧
    (let d := { mach 0 plainHdr .nop (hw 0 .nop id) with groups := [(0, { grp 0 with left := true })] }
     d.launchDone 0 (lch 0) = true) ∧
    (let x : Wave := { hw 0 .nop id with exited := 0xF }
     let d := mach 0 plainHdr .nop x
     d.waves.get? 0 = some x ∧ x.retired = false ∧ x.live = [] ∧ d.owesRegs 0 = false ∧ d.drained 0 = true) ∧
    setMembers (lch 0) 0 5 = [0] ∧ (atGate id).gbarHere 5 0 = false ∧
    (atGate fun q => { q with phase := .held (.gbar 5), clause := some (clause (.gbar 5)) }).gbarHere 5 0 = true := by decide +kernel

/-- A wave that asks for its full allotment of `n`, and has waited. -/
def asking (n waited : Nat) : Wave := { hw 0 .acquire (fun q => { q with allotWait := waited }) with prologue := 64, cur := 64, full := n, acqReq := some waited }

/-- Of the oldest request of a list: how much it asks for, what is free, and whether its part is found. -/
def askOf (d : Device) (list : Nat) : Option (Nat × Nat × Bool) :=
  (d.oldest 0 list).map fun r => (r.amount, d.slotFreeRegs 0 list, (d.partOf r.wave r.quad).isSome)

/-- Seven waves of 64 lanes that fill a slot. -/
def crowd : AMap Wave := (List.range 4).map fun k => (k + 1, { hw 4 .nop id with index := k + 1, ctx := k + 1, cur := 128 })

/-- A part that asks for 16 accumulator units. -/
def tilesAsked : Device :=
  mach 0 plainHdr (.talloc 0 16 0) (hw 0 (.talloc 0 16 0) fun q => { q with allotWait := 5 })

/-- Two groups on the core: the wave of the first asks and has waited, the wave of the second holds the slot and may ask too. -/
def rivals (waited : Nat) (other : Option Nat) : Device :=
  let d := mach 0 plainHdr .acquire (asking 128 waited)
  { d with waves := [(0, asking 128 waited), (1, { asking 128 (other.getD 0) with group := 1, ctx := 1, acqReq := other })]
           groups := [(0, grp 0), (1, { grp 0 with index := 1 })] }

/-- The group as the machine holds it, changed as said. -/
def groupAt (i : Instr) (w : Wave) (f : Group → Group) : Device := { mach 0 plainHdr i w with groups := [(0, f (grp 0))] }

/-- The group saved. -/
def savedGroup : Device := groupAt .nop { hw 0 .nop id with saved := true } fun g => { g with core := none, saved := true }

theorem witness_AllotmentsAndPreemption_grant :
    askOf (mach 0 plainHdr .acquire (asking 128 5)) 0 = some (256, 32512, true) ∧
    askOf { mach 0 plainHdr .acquire (asking 128 5) with waves := (0, asking 128 5) :: crowd } 0 = some (256, 0, true) ∧
    (askOf tilesAsked 4).map (·.1) = some 16 ∧ (askOf tilesAsked 4).map (·.2.2) = some true ∧ tilesAsked.freeRun 0 16 = some 0 ∧
    { tilesAsked with groups := [(0, { grp 0 with tiles := [(3, ⟨0, 1, false⟩)] })] }.freeRun 0 16 = none := by decide +kernel

theorem witness_AllotmentsAndPreemption_deadlock :
    (let d := rivals 4096 (some 4096)
     (d.oldest 0 0).map (·.wave) = some 0 ∧ d.victim 0 0 0 = some 1 ∧ (∀ x ∈ d.groupsOn 0, x.2.preempt = none) ∧
      d.saveable { grp 0 with index := 1 } = true ∧ d.stuck 0 = true) ∧
    (let d := rivals 4096 (some 5)
     (d.oldest 0 0).map (·.waited) = some 4096 ∧ d.stuck 0 = false ∧ d.victim 0 0 0 = some 1 ∧
      ∀ x ∈ d.groupsOn 0, x.1 = 0 ∨ d.holdsList 0 0 x.1 = false ∨ d.groupAsks 0 x.1 = true) ∧
    (let d := rivals 4095 none
     (d.oldest 0 0).map (·.waited) = some 4095 ∧ d.stuck 0 = false ∧ d.victim 0 0 0 = some 1) := by decide +kernel

theorem witness_AllotmentsAndPreemption_save :
    (let d := groupAt .nop (hw 0 .nop id) id
     d.packetWord 0 9 ≠ 0 ∧ (grp 0).core.isSome = true ∧ (grp 0).saved = false ∧ (grp 0).preempt = none) ∧
    (let d : Device := { groupAt .nop (hw 0 .nop id) id with launches := [(0, { lch 0 with packet := [1] })] }
     d.packetWord 0 9 = 0) ∧
    (groupAt .nop (hw 0 .nop id) fun g => { g with preempt := some 7 }).quiet 0 { grp 0 with preempt := some 7 } = true ∧
    (groupAt .nop (wv 0 .nop) fun g => { g with preempt := some (2 ^ 20) }).quiet 0 { grp 0 with preempt := some (2 ^ 20) } = false := by
  decide +kernel

theorem witness_AllotmentsAndPreemption_restore :
    let g : Group := { grp 0 with core := none, saved := true }
    savedGroup.groups.get? 0 = some g ∧ savedGroup.launches.get? 0 = some (lch 0) ∧ savedGroup.firstCand = some (.saved 0) ∧
      savedGroup.restorable 0 = true ∧ savedGroup.mgmt.table = none ∧
      ((savedGroup.restoreCores g (lch 0)).findSome? (savedGroup.restoreFit 0 g (lch 0))).isSome = true := by decide +kernel

/-- The cause for which a packet is refused. -/
def causeOf (pk : List Word64) : Option Nat := (queued 0x20800 0).refusal (0, 0) ((queued 0x20800 0).tablesOf (0, 0) pk).1 pk

/-- A packet that breaks each rule alone is refused with its cause, and one that breaks two with the lower (09 R240). -/
theorem witness_RefusalsAndPlacement_causes :
    causeOf goodPk = none ∧ causeOf (goodPk.set 0 2) = some 1 ∧ causeOf (goodPk.set 0 (1 + 5 * 2 ^ 10)) = some 2 ∧
    causeOf (goodPk.set 14 0x01008081) = some 3 ∧ causeOf (goodPk.set 3 0) = some 4 ∧ causeOf (goodPk.set 11 4097) = some 5 ∧
    causeOf (goodPk.set 0 (1 + 5 * 2 ^ 15)) = some 7 ∧ causeOf (goodPk.set 13 1) = some 1 ∧
    causeOf (goodPk.set 1 0x10004) = some 10 ∧ causeOf (goodPk.set 6 0x20101) = some 10 ∧ causeOf (goodPk.set 5 7) = some 11 ∧
    causeOf ((goodPk.set 5 7).set 3 0) = some 4 := by decide +kernel

/-- Two waves of 32 lanes and one of 64 are bound: to the slot with the most free registers, the lowest on a tie. -/
theorem witness_RefusalsAndPlacement_bound :
    bindWaves [(0, 0, 8192)] [(4096, fun _ _ => true), (8192, fun _ _ => true)] = some [(1, 0, 4096), (2, 0, 8192)] ∧
    bindWaves [] [(4096, fun _ c => decide (0 < c))] = some [(0, 1, 4096)] ∧
    (let p := (admitting none).placement 1 { waitingLaunch none with depsMet := true }
     p.map (fun l => l.map (·.1)) = some [0] ∧ (waitingLaunch none).args.length ≤ 16) := by decide +kernel
/-! ## Hypotheses met: stops and the debugger -/

/-- A stop asked for with a trap, its part, and how far it is. -/
def stopOf (cause : Nat) (kill stopped written : Bool) : Halt := ⟨trapOf cause 0 0 0 0, if cause = 0 then none else some 0, stopped, written, kill, 0⟩

/-- The machine whose wave stops, one of its parts changed as said; the counts of its trap area are `n`, `wr` and `rd`. -/
def stopping (h : Option Halt) (n wr rd : Nat) (f : Part → Part) : Device :=
  let d := mach 0 plainHdr .nop { hw 0 .nop f with halt := h }
  { d with mem := d.mem.setAll ((dwords [n, wr, rd]).mapIdx fun i b => (0x20200 + i, b)) }

/-- The write count of a trap area and its room, or 9 if it waits. -/
def areaOf (t : TrapArea) : List Nat :=
  match t with
  | .usable _ wr room => [wr.toNat, b2n room]
  | .waits => [9]
  | .absent => []

/-- How far the stop of the wave is: 1 not stopped and its parts stand, 2 not stopped and some runs, 3 stopped and served; whether it is
killed; and the write count of its trap area and its room, if it has one, or 9 if it waits. -/
def stopAt (d : Device) : List Nat :=
  match (d.waves.get? 0).bind fun w => w.halt.map fun h => (w, h) with
  | none => []
  | some (w, h) =>
    [if !h.stopped && !w.retired && !w.live.isEmpty && w.live.all (·.stands) then 1
      else if !h.stopped && !w.retired && w.live.any (!·.stands) then 2
      else if h.stopped && !h.written && !w.retired && d.drained 0 then 3 else 0, b2n h.kill] ++ areaOf (d.trapArea w.launch w.core)

/-- The machine whose trap area lies on a line that a bank product holds. -/
def areaHeld : Device := { stopping (some (stopOf 1 false true false)) 4 3 0 id with bmvs := [(3, { bmv0 with held := [0x20200 / 128] })] }

/-- A wave that has reported its stop and keeps a later failure. -/
def kept : Wave := { hw 0 .nop id with halt := some (stopOf 1 false true true), late := [(some 0, trapOf 13 1 0 0 0x20000)] }

theorem witness_StopsAndDebugging_stop :
    stopAt (stopping (some (stopOf 1 true false false)) 4 0 0 id) = [1, 1, 0, 1] ∧
    stopAt (stopping (some (stopOf 0 true false false)) 4 0 0 id) = [1, 1, 0, 1] ∧
    stopAt (stopping (some (stopOf 1 true true true)) 4 3 0 id) = [0, 1, 3, 1] ∧
    stopAt (stopping (some (stopOf 1 true true false)) 4 3 0 id) = [3, 1, 3, 1] ∧
    stopAt (stopping (some (stopOf 1 false false false)) 4 0 0 id) = [1, 0, 0, 1] ∧
    stopAt (stopping (some (stopOf 1 false false false)) 4 0 0 busy) = [2, 0, 0, 1] := by decide +kernel

theorem witness_StopsAndDebugging_record :
    stopAt (stopping (some (stopOf 1 false true false)) 4 3 0 id) = [3, 0, 3, 1] ∧ stopAt (stopping (some (stopOf 1 false true false)) 4 4 0 id) = [3, 0, 4, 0] ∧
    stopAt (stopping (some (stopOf 1 false true false)) 0 0 0 id) = [3, 0] ∧ stopAt (stopping (some (stopOf 0 false true false)) 0 0 0 id) = [3, 0] ∧
    stopAt areaHeld = [3, 0, 9] ∧ (mach 0 plainHdr .nop kept).drained 0 = true ∧ kept.late ≠ [] := by decide +kernel

/-- A machine whose debug registers of function 0 hold a breakpoint, and a command. -/
def debugged (h : Option Halt) (n : Nat) (cmd : Option Nat) (regs : List (Nat × Word64)) : Device :=
  { stopping h n 0 0 id with fns := [(0, { fn0 with dbgBusy := cmd, dbgTarget := ({ fn0 with regs := regs } : HostFn).target, regs := regs })] }

/-- The breakpoint of the part at its header, ready to start. -/
def breaksAt (d : Device) : Option (Option Nat) :=
  match d.standing 0 0 with
  | some (w, q, .ready, _) => some (breakpointOf d w q)
  | _ => none

/-- Breakpoint 3, for the identity and the position of the header. -/
def bp3 : List (Nat × Word64) :=
  let d := mach 0 plainHdr .nop (hw 0 .nop id)
  [(0x20A0, objIdent d (0, 0) 0x10000), (0x20A8, position d (0, 0) 0x10000), (0x20B0, 1)]

theorem witness_StopsAndDebugging_breakpoint :
    breaksAt (debugged none 4 none []) = some none ∧ breaksAt (debugged none 4 none bp3) = some (some 3) ∧
    (let d := stopping none 4 0 0 id
     let x (n : Nat) : Wave := { hw 0 .nop id with stepping := some n }
     ({ d with waves := [(0, x 0)] }.waves.get? 0 = some (x 0) ∧ (x 0).halt = none ∧ (x 0).stepping = some 0) ∧
      { d with waves := [(0, x 1)] }.waves.get? 0 = some (x 1) ∧ (x 1).stepping ≠ some 0) := by decide +kernel

/-- Of the debugger's command: its number; the group named, plus one; the wave named, plus one; whether it is halted, with its record;
whether there is a trap area; and whether it may be saved. -/
def cmdOf (d : Device) : List Nat :=
  [((d.fn 0).dbgBusy).getD 99, ((d.dbgGroup 0).map (· + 1)).getD 0] ++
    (match d.dbgWave 0 with
     | none => []
     | some (k, w) => [k + 1, (w.halt.map fun h => 1 + b2n (h.stopped && h.written && decide (h.info.cause ≠ 13))).getD 0,
        b2n (areaOf (d.trapArea w.launch w.core) != []), b2n (!w.saved && d.atMarkers w && d.packetWord w.launch 9 != 0 && !d.owesRegs k &&
          (match d.groups.get? w.group with
           | some g => g.mq.isEmpty && !d.follows w.group
           | none => false))])

/-- The same machine whose code has no marker. -/
def unmarked (d : Device) : Device := { d with objs := [{ obj with markers := [] }] }

/-- A stop whose record is written. -/
def halted : Halt := stopOf 1 false true true

theorem witness_StopsAndDebugging_commands :
    ((List.range 16).all fun n => cmdOf (debugged none 4 (some n) []) == [n, 1, 1, 0, 1, 1]) = true ∧
    ((List.range 16).all fun n => cmdOf (debugged none 4 (some n) [(0x2008, 1)]) == [n, 0]) = true ∧
    cmdOf (debugged none 0 (some 1) []) = [1, 1, 1, 0, 0, 1] := by decide +kernel

theorem witness_StopsAndDebugging_halted :
    ((List.range 8).all fun n => cmdOf (debugged (some halted) 4 (some n) []) == [n, 1, 1, 2, 1, 1]) = true ∧
    cmdOf (debugged (some halted) 0 (some 4) []) = [4, 1, 1, 2, 0, 1] ∧
    cmdOf (unmarked (debugged (some halted) 4 (some 7) [])) = [7, 1, 1, 2, 1, 0] := by decide +kernel

theorem witness_StopsAndDebugging_group :
    (∀ w ∈ (debugged (some halted) 4 (some 2) []).wavesOf 0, w.2.halt.isSome = true) ∧
    (let d := debugged none 4 (some 2) []
     (∃ w ∈ d.wavesOf 0, w.2.halt = none) ∧ (∀ w ∈ d.wavesOf 0, areaOf (d.trapArea w.2.launch w.2.core) = [0, 1]) ∧
      ∃ x ∈ d.wavesOf 0, x.2.halt = none ∧ d.waves.get? x.1 = some x.2) ∧
    (let d := debugged none 4 (some 6) []
     d.waves.get? 0 = some (hw 0 .nop id) ∧ (hw 0 .nop id).retired = false ∧ (d.groups.get? 0).isSome = true) := by decide +kernel

/-! ## Hypotheses met: the matrix queue, the arrays and the chart compiler -/

/-- The device at cycle 9 whose group holds a record o1, a tile t2 and one entry. -/
def heading (w : MQWork) (ends : Option Nat) : Device :=
  let d := mach 2 plainHdr .nop (hw 2 .nop id)
  { d with clk := { Clocks.reset with cycle := 9 }
           groups := [(0, { grp 2 with recs := [(1, rec0)], tiles := [(2, tile0)], mq := [{ mq0 w with ends := ends }] })] }

/-- The kinds of work: an MMA, ACCZERO, ACCRD and ACCWR. -/
def works : List MQWork := [.mma false false false 2 1 0 rec0 none [], .acczero 2, .accrd 2 8 0 15 [], .accwr 2 0 [(0, [1])]]

/-- Of the head of group 0: its end, if it has started; whether its wave and its tile are there; and its flag. -/
def headOf (d : Device) : List Nat :=
  match d.groups.get? 0 with
  | some g => (match g.mq with
    | e :: _ => [(e.ends.map (· + 1)).getD 0, b2n (d.liveWave e.wave e.gen).isSome, b2n (g.tiles.get? 2 == some tile0), b2n (g.core == some 0),
        e.flag.getD 99]
    | [] => [])
  | none => []

theorem witness_MatrixAtWork_heads :
    (works.all fun w => headOf (heading w none) == [0, 1, 1, 1, 0]) = true ∧
    (works.all fun w => headOf (heading w (some 9)) == [10, 1, 1, 1, 0]) = true ∧
    (works.all fun w => headOf (heading w (some 10)) == [11, 1, 1, 1, 0]) = true ∧ (heading (.acczero 2) none).clk.cycle = 9 := by decide +kernel

/-- A finished ACCRD whose flag clears at a cycle. -/
def finished (due : Nat) : Device := { heading (.acczero 2) none with mdone := [(4, ⟨due, 0, 0, 1, some 0, [(1, 7)]⟩)] }

theorem witness_MatrixAtWork_flags :
    (finished 9).mdone.get? 4 = some ⟨9, 0, 0, 1, some 0, [(1, 7)]⟩ ∧ ((finished 9).liveWave 0 0).isSome = true ∧
    (finished 10).mdone.get? 4 = some ⟨10, 0, 0, 1, some 0, [(1, 7)]⟩ ∧ (finished 10).clk.cycle < 10 := by decide +kernel

/-- Whether the array of core 0 may start the head of the group that is next: 0 it is busy, 1 no group, 2 group 0. -/
def arrayAt (d : Device) : Nat :=
  if (d.core 0).slaved.isSome || d.groups.any fun x => decide (x.2.core = some 0) && (x.2.mq.head?.map (·.dispatched)).getD false then 3
  else if d.clk.cycle < (d.core 0).arrayFree then 0
  else match nextGroup d 0 with
  | some 0 => 2
  | _ => 1

/-- An array busy up to a cycle. -/
def arrayTo (n : Nat) (d : Device) : Device := d.setCore 0 { d.core 0 with arrayFree := n }

theorem witness_MatrixAtWork_arrays :
    arrayAt (arrayTo 9 (heading (.mma false false false 2 1 0 rec0 none []) none)) = 2 ∧
    arrayAt (arrayTo 10 (heading (.mma false false false 2 1 0 rec0 none []) none)) = 0 ∧
    (let d := heading (.mma false true false 2 1 0 rec0 none []) none
     arrayFree d 0 = true ∧ nextGroup d 0 = some 0 ∧ (d.core (otherCore 0)).slaved = none ∧ (d.groups.get? 0).bind (·.core) = some 0) := by
  decide +kernel

/-- A course MMA at the head of group 0, whose partner is group 1 of core 1; the follower's array is taken or not, and busy up to a cycle. -/
def coursing (slaved : Bool) (busy : Nat) : Device :=
  let d := heading (.mma false true false 2 1 0 rec0 (some (rec0, tile0)) []) none
  let g : Group := { grp 2 with recs := [(1, rec0)], tiles := [(2, tile0)] }
  let e := mq0 (.mma false true false 2 1 0 rec0 (some (rec0, tile0)) [])
  { d with launches := [(0, { lch 2 with sets := [(0x20100, 1)] })]
           groups := [(0, { g with mq := [{ e with dispatched := slaved }] }), (1, { g with index := 1, core := some 1 })]
           cores := [(0, core0), (1, { Core.reset with slaved := if slaved then some 0 else none, arrayFree := busy })] }

/-- What a course MMA may do: 1 be dispatched, 2 start, 3 wait for an array. -/
def courseAt (d : Device) : Nat :=
  match d.groups.get? 0 with
  | some g => (match g.mq with
    | e :: _ =>
      if !e.dispatched && arrayFree d 0 && decide (nextGroup d 0 = some 0) && (d.core 1).slaved.isNone && decide (g.core = some 0) then 1
      else if e.dispatched && e.ends.isNone && decide ((d.core 1).slaved = some 0) && decide (otherCore 0 = 1) then
        (if decide ((d.core 0).arrayFree ≤ d.clk.cycle) && decide ((d.core 1).arrayFree ≤ d.clk.cycle) && !d.stalls 0 e.id false (mmaReads true 0 rec0) &&
          decide (d.partner 0 = some 1) && !d.stalls 1 e.id false (mmaReads true 0 rec0) then 2 else 3)
      else 0
    | [] => 0)
  | none => 0

theorem witness_MatrixAtWork_course :
    courseAt (coursing false 0) = 1 ∧ courseAt (coursing true 9) = 2 ∧ courseAt (coursing true 10) = 3 := by decide +kernel

/-- A chart of a key with `n` micro-operations. -/
def chartOf0 (k n : Nat) : Chart := ⟨⟨BitVec.ofNat 64 k, 0, 0⟩, 0, 0, n, [], none⟩

/-- A compile of the sparse record, asked for or under way, over a cache of charts. -/
def compiling (till : Option Nat) (l : List Chart) : Device :=
  let d := heading (.acczero 2) none
  let q : ChartReq := ⟨keyFor recS 0, 0, recS, 64, false, 0⟩
  d.setCore 0 { d.core 0 with chartQ := if till.isNone then [q] else [], compiling := till.map fun t => (q, t), charts := l }

/-- Of the chart compiler: 1 a request may start, 2 a compile is under way, 3 it ends and fits, 4 nothing can be evicted, 5 one entry is evicted. -/
def compilerOf (d : Device) : Nat :=
  match (d.core 0).compiling, (d.core 0).chartQ with
  | none, q :: _ => if (d.groups.get? q.group).isSome && !d.bitmapStalls q then 1 else 0
  | some (q, t), _ =>
    if d.clk.cycle < t then 2
    else match d.groups.get? q.group with
    | some g =>
      let pat := q.pattern g
      let x : Chart := ⟨q.key, if q.nt * kOf q.obrec.fmt < 2 * nnzOf pat then 1 else if 2048 < microOps pat then 2 else 0, nnzOf pat, microOps pat, pat,
        none⟩
      let old := (d.core 0).charts
      if chartsFit (x :: old) then 3
      else match old.reverse.find? fun y => (d.pinners 0 y).isEmpty with
        | some y => if chartsFit (x :: old.erase y) then 5 else 0
        | none => 4
    | none => 0
  | none, [] => 0

theorem witness_MatrixAtWork_charts :
    compilerOf (compiling none []) = 1 ∧ compilerOf (compiling (some 10) []) = 2 ∧ compilerOf (compiling (some 9) []) = 3 ∧
    compilerOf (compiling (some 9) ((List.range 256).map fun k => chartOf0 k 0)) = 5 := by decide +kernel

/-- MMAs of a sparse record in the queue of the wave's group, which pin the one chart they name. -/
theorem witness_MatrixAtWork_pinned :
    (let m : MQWork := .mma false false true 2 1 0 recS none []
     let d := heading m none
     (d.setCore 0 { d.core 0 with charts := [⟨keyFor recS 0, 0, 0, 0, [], none⟩] }).pinners 0 ⟨keyFor recS 0, 0, 0, 0, [], none⟩ ≠ []) ∧
    (let m : MQWork := .mma false false true 2 1 0 recS none []
     let d := heading m none
     ((d.setCore 0 { d.core 0 with charts := [⟨keyFor recS 0, 0, 9, 3, [], none⟩] }).core 0).chartFor (keyFor recS 0) 0 =
        some ⟨keyFor recS 0, 0, 9, 3, [], none⟩) := by decide +kernel

/-- A compile of a chart that holds an element ends over a cache that four charts fill, each of which an MMA pins. -/
def brimming : Device :=
  let d := heading (.acczero 2) none
  let r (k : Nat) : OBRec := { recS with ident := BitVec.ofNat 64 k }
  let d1 : Device := { d with groups := d.groups.map fun g => (g.1, { g.2 with
    spad := [(0, 1)], mq := [1, 2, 3, 4].map fun k => mq0 (.mma false false true 2 1 0 (r k) none []) }) }
  d1.setCore 0 { d1.core 0 with compiling := some (⟨keyFor recS 0, 0, recS, 64, false, 0⟩, 9), charts := [1, 2, 3, 4].map fun k => chartOf0 k 2048 }

theorem witness_MatrixAtWork_full : compilerOf brimming = 4 := by decide +kernel
/-! ## Hypotheses met: the engines at work -/

/-- Words of a descriptor. -/
def wordsOf (l : List Nat) : List Word64 := l.map (BitVec.ofNat 64)

/-- The machine with an operation 0 of the wave, as it stands after `pos` bytes. -/
def working (k : EngKind) (pos : Nat) : Device :=
  let d := mach 0 plainHdr .nop (hw 0 .nop id)
  { d with ops := [(0, { op0 k 1 with pos := pos })], groups := [(0, { grp 0 with spad := [(256, 8)] })] }

/-- Of operation 0: 1 it waits, 2 its next granule is not the last, 3 the last, 4 it fails. -/
def granuleOf (d : Device) : Nat :=
  match d.ops.get? 0 with
  | none => 0
  | some o =>
    if d.clk.cycle < o.ready || o.barrier.isSome || decide (o.order ≠ 0) then 0
    else match tryGranule d o with
    | .wait => 1
    | .ok r => if moreGranules { o with done := o.done + 1, time := tmax d.pulse o.time r.2.1, row := r.2.2.1.1, pos := r.2.2.1.2, port := none } then 2
      else 3
    | .fail _ _ _ => 4

/-- Of a PUTSIG: 1 its payload is not over, 2 its signal may be written. -/
def signalOf (d : Device) : Nat :=
  match d.ops.get? 0 with
  | some o => (match o.kind with
    | .putsig x => if o.pos < putsigN x then 1 else match trySignal d o x with
      | .ok _ => 2
      | _ => 3
    | _ => 0)
  | none => 0

theorem witness_EnginesAtWork_copy :
    granuleOf (working (.copy (wordsOf (copyDesc 64))) 0) = 2 ∧ granuleOf (working (.copy (wordsOf (copyDesc 64))) 32) = 3 ∧
    granuleOf (working (.copy (wordsOf ((copyDesc 64).set 1 0x30000))) 0) = 4 ∧ granuleOf (working (.putsig (wordsOf (putsigDesc 1))) 1) = 1 ∧
    signalOf (working (.putsig (wordsOf (putsigDesc 1))) 0) = 1 ∧ signalOf (working (.putsig (wordsOf (putsigDesc 1))) 1) = 2 ∧
    (working (.copy (wordsOf (copyDesc 64))) 0).liveWave 0 0 = some (hw 0 .nop id) ∧
    (opFailure (working (.copy (wordsOf ((copyDesc 64).set 1 0x30000))) 0) (op0 (.copy (wordsOf ((copyDesc 64).set 1 0x30000))) 1)).isSome = true ∧
    (let o := { op0 (.copy (wordsOf (copyDesc 64))) 1 with ready := 1 }
     { working (.copy []) 0 with ops := [(0, o)] }.ops.get? 0 = some o ∧ (working (.copy []) 0).clk.cycle < o.ready) := by decide +kernel

/-- Of a gather: 1 its element is read and written, 2 it fails and is zero-filled, 3 it waits. -/
def elementOf (d : Device) : Nat :=
  match d.ops.get? 0 with
  | some o => (match o.kind with
    | .gather x =>
      if gatherN x ≤ o.done || decide (d.clk.cycle < o.ready) then 0
      else match gatherRead d o x with
      | .wait => 3
      | .ok r => (match gatherPut r.2.2 o x r.1 r.2.1 true with
        | .ok _ => 1
        | _ => 0)
      | .fail _ _ _ => (match gatherPut d o x (List.replicate (gatherSize x) 0) o.c false with
        | .ok _ => 2
        | _ => 0)
    | _ => 0)
  | none => 0

theorem witness_EnginesAtWork_gather :
    elementOf (working (.gather (wordsOf (gatherDesc 1))) 0) = 1 ∧
    elementOf (working (.gather (wordsOf ((gatherDesc 1).set 0 0x30000))) 0) = 2 ∧
    (let d := working (.gather (wordsOf (gatherDesc 1))) 0
     elementOf { d with bmvs := [(0, { bmv0 with held := [0x20000 / 128] })] } = 3) := by decide +kernel

/-- The machine with a bank product, staged, over a leaf of a kind and format; its one group has a status, or none. -/
def product (kind fmt : Nat) (st : SMap 8) : Device :=
  let d := mach 0 plainHdr .nop (hw 0 .nop id)
  { d with bmvs := [(0, { bmv0 with x := some (List.replicate 64 0), status := st })]
           cores := [(0, { core0 with tlb := ⟨(0, 0), 0x200000, 0x200000, 0x200000, kind, 0, false, fmt, false, true, true⟩ :: core0.tlb })] }

/-- Of the product: 1 its group is computed, 2 it fails, 3 all is done, 4 its group waits for an older product. -/
def groupOf (d : Device) (id : Nat) : Nat :=
  match d.bmvs.get? id with
  | some o =>
    if (List.range (bmvGroups o.desc)).all fun i => o.status.get i != 0 then 3
    else match bmvNext d id o with
    | none => 4
    | some i => if decide (d.clk.cycle < o.ready) || o.x.isNone then 0
      else match bmvGroup d o i with
      | (.wait, _) => 5
      | (.fail _, _) => 2
      | (.ok r, _) => b2n (decide (r.1.map d.home).Nodup && decide (r.1.length = r.2.1.length))
  | none => 0

theorem witness_EnginesAtWork_bank :
    groupOf (product 3 1 []) 0 = 1 ∧ groupOf (product 0 1 []) 0 = 2 ∧ groupOf (product 3 1 [(0, 1)]) 0 = 3 ∧
    (let d := product 3 1 []
     groupOf { d with bmvs := d.bmvs ++ [(5, { bmv0 with x := some [] })] } 5 = 4) ∧
    (let d := product 3 1 [(0, 1)]
     d.liveWave 0 0 = some (hw 0 .nop id) ∧ (d.bmvs.map fun o => (statusWaits d o.2, o.2.parked, o.2.flag)) = [(false, [], some 0)]) := by
  decide +kernel
/-! ## Hypotheses met: the host port -/

/-- The machine whose PF has its aperture at zero and some registers. -/
def hosted (regs : List (Nat × Word64)) : Device :=
  { mach 0 plainHdr .nop (hw 0 .nop id) with fns := [(0, { fn0 with regs := regs, inv := some 0 })] }

/-- The machine with a bank product that holds the line of 0x20000. -/
def holding : Device := { hosted [] with bmvs := [(0, { bmv0 with held := [0x20000 / 128] })] }

/-- What a BAR2 access of `n` bytes meets: 1 a fault, 2 it waits, 3 one line, 4 more than one, 5 a held line. -/
def barAt (d : Device) (a : Acc) (off n : Nat) : Nat :=
  match (d.barTargets 0 a ((d.fn 0).apVa off) n).1 with
  | .error .wait => 2
  | .error _ => 1
  | .ok b =>
    if decide (b.keys.length ≠ n) || !decide (b.keys.map d.home).Nodup then 0
    else if (linesOf b.keys).any d.lineHeld then 5
    else if (linesOf b.keys).length = 1 then 3 else 4

theorem witness_HostRegisters_port :
    (hosted []).responds = true ∧ ((hosted []).fn 0).inv = some 0 ∧
    (let d := hosted [(0x2480, BitVec.ofNat 64 (2 * 2 ^ 24 + 191 * 2 ^ 8))]
     (d.fn 0).regs.get 0x2480 = BitVec.ofNat 64 (2 * 2 ^ 24 + 191 * 2 ^ 8)) ∧
    fnValue 0x800 7 = some 7 ∧ 0x800 ∉ [0x2000, 0x2448] := by decide +kernel

theorem witness_HostRegisters_aperture :
    barAt (hosted []) .barRead 0x30000 8 = 1 ∧ barAt holding .barRead 0x2007F 1 = 2 ∧ barAt holding .barRead 0x20080 8 = 3 ∧
    barAt (hosted []) .barRead 0x2007F 2 = 4 ∧ barAt (hosted []) .barWrite 0x30000 8 = 1 ∧ barAt (hosted []) .barWrite 0x20078 8 = 3 ∧
    barAt holding .barWrite 0x2007F 1 = 5 ∧ barAt { hosted [] with bad := [0x20000 / 128] } .barRead 0x20000 8 = 1 ∧
    bit (({ hosted [(0x28, BitVec.ofNat 64 (2 ^ 63))] with seq := 0 } : Device).fn 0 |>.regs.get 0x28) 63 = true := by decide +kernel

/-- The machine that admits source 3 and holds a line. -/
def admitting3 : Device := let d := holding; { d with mgmt := { d.mgmt with regs := d.mgmt.regs.set 0x8108 8, gib := 1 } }

theorem witness_HostRegisters_span :
    admitting3.admits 3 = true ∧ admitting3.admits 4 = false ∧ 0x20000 + 8 ≤ admitting3.capacity ∧ admitting3.capacity < 2 ^ 30 - 7 + 8 ∧
    (∃ l ∈ linesOf ((List.range 8).map (0x20000 + ·)), admitting3.lineHeld l = true) ∧
    (∀ l ∈ linesOf ((List.range 8).map (0x20080 + ·)), admitting3.lineHeld l = false ∧ admitting3.lostLine l = false ∧ l ∉ admitting3.refused) ∧
    (∃ l ∈ linesOf ((List.range 8).map (0x20080 + ·)), { admitting3 with bad := [0x20080 / 128] }.lostLine l = true) ∧
    admitting3.responds = true ∧ { admitting3 with mgmt := { admitting3.mgmt with devstate := 3 } }.responds = false := by decide +kernel

/-! ## Hypotheses met: management -/

/-- A device in a state, not stopped, at a clock rate. -/
def managed (state mhz : Nat) : Device :=
  { Device.reset with clk := { Clocks.reset with mhz := mhz }, mgmt := { Mgmt.reset with devstate := state } }

/-- The clauses that name a range of watts and tenths of a degree. -/
def windowOf (d : Device) (watts temp : Nat) : Nat :=
  let cap := (d.mgmt.regs.get 0x8008).toNat
  let lim := bits (d.mgmt.regs.get 0x8018) 31 16
  if cap < watts ∨ 10 * lim ≤ temp then 1 else if 100 * watts ≤ 97 * cap ∧ temp < 10 * lim ∧ watts ≤ cap then 2 else 3

theorem witness_Management_boot :
    (managed 1 2400).mgmt.devstate = 1 ∧ (managed 0 2400).mgmt.devstate ≠ 1 ∧ (managed 2 2400).mgmt.minor ≤ 0 ∧
    (managed 2 2400).anyResident = false ∧ (hosted []).anyResident = true ∧ (hosted []).mgmt.devstate = 2 ∧
    (let d : Device := { hosted [] with launches := [(0, { lch 0 with fn := 1 })] }
     d.waves.get? 0 = some (hw 0 .nop id) ∧ (hw 0 .nop id).retired = false ∧ ∃ l, d.launches.get? (hw 0 .nop id).launch = some l ∧ l.fn = 1) := by
  refine ⟨by decide +kernel, by decide +kernel, by decide +kernel, by decide +kernel, by decide +kernel, by decide +kernel, by decide +kernel,
    by decide +kernel, _, rfl, rfl⟩

/-- A stage that holds, and one that a wrong key signed: digest, signature, version, hash of the key. -/
theorem witness_Management_stages :
    (let m := Mgmt.reset
     let holds (x : Stage) : Prop := x.signed = true ∧ x.key = m.fuseKey ∧ m.fuseVersion ≤ x.version
     holds ⟨7, true, 0, 0⟩ ∧ ¬ holds ⟨7, true, 0, 1⟩ ∧ ¬ holds ⟨7, false, 0, 0⟩) := by decide +kernel

theorem witness_Management_power :
    windowOf (managed 2 1201) 2801 0 = 1 ∧ windowOf (managed 2 1200) 0 1050 = 1 ∧ windowOf (managed 2 2400) 2716 1049 = 2 ∧
    windowOf (managed 2 2400) 2717 0 = 3 ∧ (managed 2 1200).clk.stopped = false ∧ (managed 2 1200).clk.halved = false := by decide +kernel

/-- A device whose unit's record was written at a time, and whose clock is at a time. -/
def recordedAt (last ns : Nat) : Device :=
  let d := managed 2 2400
  { d with clk := { d.clk with ns := ns }, mgmt := { d.mgmt with errStamp := [(2 ^ 16 + 3, last)] } }

theorem witness_Management_errors :
    unitOk 2 767 = true ∧ unitOk 3 191 = true ∧ unitOk 5 17 = true ∧ unitOk 1 (2 ^ 20) = true ∧ parityOk 7 191 = true ∧ parityOk 9 47 = true ∧ parityOk 10 1 = true ∧
    (let d := recordedAt 1 (10 ^ 9 - 1)
     0 < d.mgmt.errStamp.getD (2 ^ 16 + 3) 0 ∧ d.clk.ns + 1 < d.mgmt.errStamp.getD (2 ^ 16 + 3) 0 + 10 ^ 9) ∧
    (let d := managed 2 2400
     d.mgmt.errStamp.getD (2 ^ 16 + 3) 0 = 0 ∧ d.mgmt.errCount.get (2 ^ 16 + 3) + BitVec.ofNat 64 1 ≠ 0) := by decide +kernel

/-- A device whose one port to device 5 is port 17. -/
def ported : Device :=
  let d := managed 2 2400
  { d with mgmt := { d.mgmt with portUp := BitVec.ofNat 18 (2 ^ 17), route := [(5, BitVec.ofNat 18 (2 ^ 17))] } }

theorem witness_Management_ports : ported.portOf ((spanBase + 5 * 2 ^ 40) / 128) = some 17 := by
  have h : (below 18 fun p => bit (ported.portsTo (keyOwner ((spanBase + 5 * 2 ^ 40) / 128 * 128))) p) = [17] := by decide +kernel
  simp only [Device.portOf, h]
  simp [Nat.mod_one]

/-- A load on its way to device 1, and the same after its first failure on port 3. -/
def spanLoad (p : Option Nat) : Req := req0 (.vload 4 4) 1 { acc0 0 (spanBase + 2 ^ 40) [] false with kind := 1, port := p } false

/-- A copy from the scratchpad to device 1, over a leaf of the span, and the same after its first failure. -/
def spanCopy (p : Option Nat) : Device :=
  let d := mach 0 plainHdr .nop (hw 0 .nop id)
  { d with ops := [(0, { op0 (.copy ((copyDesc 64).set 1 0x30000 |>.map (BitVec.ofNat 64))) 1 with port := p })], groups := [(0, grp 0)]
           cores := [(0, { core0 with tlb := ⟨(0, 0), 0x30000, 0x10000, 2 ^ 40, 1, 0, false, 0, false, true, true⟩ :: core0.tlb })] }

theorem witness_Management_links :
    (∃ i, (inFlight (spanLoad none)).onSpan 0 (spanLoad none) 0 = some ({ acc0 0 (spanBase + 2 ^ 40) [] false with kind := 1, port := none }, i)) ∧
    (∃ i, (inFlight (spanLoad (some 3))).onSpan 0 (spanLoad (some 3)) 0 =
      some ({ acc0 0 (spanBase + 2 ^ 40) [] false with kind := 1, port := some 3 }, i)) ∧
    ((spanCopy none).ops.map fun o => (opSpan (spanCopy none) o.2).isSome) = [true] ∧ ((spanCopy (some 3)).ops.map fun o => o.2.port) = [some 3] ∧
    ((spanCopy none).liveWave 0 0).isSome = true := by
  refine ⟨⟨0, ?_⟩, ⟨0, ?_⟩, ?_⟩ <;> decide +kernel

/-- A machine of one function that samples core 0 every four cycles, at a cycle. -/
def sampling (n : Nat) : Device :=
  { hosted [(0x2408, BitVec.ofNat 64 (2 ^ 31 + 2 * 2 ^ 16 + 4))] with clk := { Clocks.reset with cycle := n } }

theorem witness_Management_samples :
    (sampling 8).sampleDue 0 0 = true ∧ (sampling 7).sampleDue 0 0 = false ∧ ((sampling 8).core 0).stopped = false ∧
    (sampling 8).clk.stopped = false ∧ (nextSample ((sampling 8).sampleable 0 0) 0).isSome = true ∧ (sampling 8).fns.length = 1 ∧
    1 ≤ (sampling 8).mgmt.measures.length + 1 := by decide +kernel

/-! ## Hypotheses met: the device's cycle and the trace -/

/-- The header at which the first part of a wave stands, with the wait the cycle is to count. -/
def cycleAt (d : Device) : Option (Header × Bool) :=
  (d.partOf 0 0).map fun x => ((headerOf d 0 x.1 x.2).1, d.runs x.1 && x.1.halt.isNone && decide (x.2.phase = .header))

theorem witness_DeviceCycle :
    (inputStep (ev Device.reset []) = none ∧ firstKind (ev Device.reset []) kinds = none) ∧
    cycleAt (joining (fun q => { q with joinWait := some (5, some 5) }) busy) = some (.join, true) ∧ cycleAt (joining id busy) = some (.join, true) ∧
    cycleAt (widening (some (1023, 1024)) busy) = some (.fuse, true) ∧ cycleAt (missing 31) = some (.flags, true) ∧
    cycleAt tilesAsked = some (.allot, true) ∧
    (let x : Wave := { hw 0 .nop id with halt := some (stopOf 1 false true true) }
     (mach 0 plainHdr .nop x).waves.get? 0 = some x ∧ (mach 0 plainHdr .nop x).runs x = true ∧ x.halt.isSome = true) := by decide +kernel

/-- A machine of one function that traces what its register names, the stream of core 0 open; two parts wait at a join, one for long enough. -/
def tracing (ctl : Nat) (lost : Nat) : Device :=
  { joining (fun q => { q with joinWait := some (5, some 5) }) busy with
    fns := [(0, { fn0 with regs := [(0x2440, 0x24000), (0x2448, BitVec.ofNat 64 ctl)], streams := [(0, ⟨0, lost⟩)] })] }

/-- TRCCTL: enabled, every mask, a ring of 4,096 bytes; and that with wrap. -/
def ring : Nat := 2 ^ 31 + 0xF00 + 12

theorem witness_TraceRecords :
    (∀ ty ∈ [0x10, 0x11, 0x20, 0x21, 0x22, 0x30], ((tracing ring 0).fn 0).traces ty = true) ∧ ((tracing 0xF0C 0).fn 0).traces 0x22 = false ∧
    (let d := tracing ring 0
     ((d.fn 0).streams.get? 0) = some ⟨0, 0⟩ ∧ (d.core 0).stopped = false ∧ d.fns.length = 1 ∧
     (d.ringPut 0 0 5 6).1 = true ∧ (d.ringSlot 0 0).1 = some (64, 80) ∧
     (readWords d 0 (0, 0) [0x24000, 0x24008]).1.toOption = some [0, 0]) ∧
    (let d := tracing ring 3
     ((d.fn 0).streams.get? 0) = some ⟨0, 3⟩ ∧ (d.ringSlot 0 0).1.isSome = true) ∧
    (let d := { tracing ring 3 with mem := memPut [] [0x24000, 0x24008] [0xF0, 0xF0] }
     (d.ringSlot 0 0).1 = some (0xF0, 256)) ∧
    (let d := { tracing ring 3 with mem := memPut [] [0x24000, 0x24008, 0x24009] [0xF0, 0, 1] }
     (d.ringSlot 0 0).1 = none ∧ (d.ringPut 0 0 5 6).1 = false) := by decide +kernel

/-! ## Hypotheses met: what stands in a part's way -/

/-- A pass whose wave is allotted `n` registers. -/
def allotted (n : Nat) (i : Instr) : Spec := { ps 0 i with allot := n }

/-- A decode check of each kind that fails: a register at the allotment, an odd pair, a size, a code, the slot, and one that holds. -/
theorem witness_Precise_checks :
    legalAt (allotted 64 .nop) (.vadd 64 1 2 0) = false ∧ legalAt (allotted 64 .nop) (.vadd 63 1 2 0) = true ∧
    legalAt (allotted 64 .nop) (.accrd 0 3 64 1) = false ∧ legalAt (ps 0 .nop) (.vaddF64 1 2 4 7 0) = false ∧
    legalAt (ps 0 .nop) (.vld 0 0 7 1 4 0) = false ∧ legalAt (ps 0 .nop) (.vld 0 0 6 1 6 0) = false ∧
    legalAt (ps 0 .nop) (.vaddF32 7 1 2 3 0) = false ∧ legalAt { ps 0 .nop with slot := 1 } (.join 31) = false ∧
    legalAt { ps 0 .nop with slot := 1 } .exit = false := by
  decide +kernel

theorem witness_PassStaysWellFormed_state : (st (ps 0 .nop)).memoryOk ∧ (st (ps 0 .nop)).partsOk := by
  refine ⟨⟨by decide +kernel, fun p h => ?_⟩, ?_, fun p h => ?_⟩
  · cases h; decide +kernel
  · unfold Device.partsOk Wave.partsOk; decide +kernel
  · cases h
    refine ⟨?_, ?_, by decide +kernel, by decide +kernel, ⟨prt 0 .nop, by decide +kernel, by decide +kernel⟩, fun x hx => ?_⟩
    · unfold Device.partsOk Wave.partsOk; decide +kernel
    · unfold Wave.partsOk; decide +kernel
    · simp [ps, passOf] at hx

/-- A device whose port 17 leads to device 1. -/
def routed (d : Device) : Device := { d with mgmt := { d.mgmt with portUp := BitVec.ofNat 18 (2 ^ 17), route := [(1, BitVec.ofNat 18 (2 ^ 17))] } }

/-- A scoped atomic of the wave that is on its way to another device. -/
def farAtom : Req := req0 (.atom 6 0 9 0 5 2) 1 { acc0 64 (spanBase + 2 ^ 40) [] false with kind := 1 } false

/-- A pass whose part has a request out. -/
def outstanding (i : Instr) (r : Req) : Spec :=
  let p := ps 0 i
  { p with dev := { routed p.dev with reqs := [(0, r)] }, first := 1 }

/-- LAUNCH and a scratchpad access wait for a scoped atomic that has not returned; a store behind it lags at the commit; each runs where nothing is
out. -/
theorem witness_DeviceLaunch_child :
    (let p := withV (outstanding (.launch 2 4) farAtom) 4 0x20800
     Ready (.launch 2 4) (st p) p ∧ (p.drained Spec.childReady).childReady = false) ∧
    (let p := outstanding (.launch 2 4) (req0 .store 0 (acc0 0 0x20000 [1, 2, 3, 4] true) true)
     ∀ y ∈ p.dev.reqs, y.2.wave = p.wid → y.2.after &&& p.prt.quads ≠ 0 → p.dev.holdsChild y.2 = false) :=
  ⟨⟨ready (by decide +kernel), by decide +kernel⟩, by decide +kernel⟩

theorem witness_ScratchLoadsAndStores_time :
    (outstanding .nop farAtom).spadTime.hold = some .line ∧ (ps 0 .nop).spadTime.hold = none := by decide +kernel

/-- A store of device memory that the clause itself has made, behind a scoped atomic. -/
def lagging : Spec :=
  let p := ended [] none false none
  { p with dev := { routed p.dev with reqs := [(0, farAtom), (1, req0 .store 0 (acc0 64 0x20000 [1, 2, 3, 4] false) false)] }, first := 1 }

theorem witness_Commits_lags :
    (lagging.hold = none ∧ lagging.over = true ∧ lagging.dev.lags lagging.wid lagging.prt.quads lagging.first = true ∧
      (let q := lagging.drained fun p => !p.dev.lags lagging.wid lagging.prt.quads lagging.first
       q.dev.lags q.wid q.prt.quads q.first = true)) ∧
    (let p := ended [] none false none
     p.dev.lags p.wid p.prt.quads p.first = false) ∧
    (ps 0 .nop).over = false := by decide +kernel

/-- A watchpoint set after the checks of a clause began matches none of its accesses. -/
theorem witness_FaultsAndWatchpoints_began :
    (let p := watching 0x20007 1
     let q : Spec := { p with prt := { p.prt with watch := some [] } }
     accTrap q 0 [⟨3, 0x20000, 8, [], []⟩] ⟨p.dev, [], [], false⟩ = none) := by decide +kernel

/-- A barrier object under a live write range. -/
theorem witness_Barriers_board :
    (let p := written (.barinit 2 1) 0
     Ready (.barinit 2 1) (st p) p ∧ barrierReg (.barinit 2 1) = some 1 ∧ (p.sreg 1).toNat = 0 ∧
      p.sync.stalls p.wav.group p.first true [(0, 32)] = true) ∧ bits ((withS (written (.barinit 2 1) 0) 2 3).sreg 2) 19 0 ≠ 0 :=
  ⟨⟨ready (by decide +kernel), by decide +kernel⟩, by decide +kernel⟩

/-- A full matrix queue holds ACCRD and ACCWR, and ACCRD's scales under a live range do (07 R199, R200). -/
def fullQueue (i : Instr) (ctl : Word64) : Spec := withS (mxFull i rec0 (.acczero 2)) 1 ctl

theorem witness_TilesAndAccumulators_full :
    (let p := fullQueue (.accrd 0 2 8 1) 0
     Ready (.accrd 0 2 8 1) (st p) p ∧ p.act ≠ [] ∧ bits (p.sreg 1) 22 21 = 0 ∧ ¬ matrixRoom p) ∧
    (let p := fullQueue (.accwr 2 8 1) 0
     Ready (.accwr 2 8 1) (st p) p ∧ p.act ≠ [] ∧ ¬ matrixRoom p) :=
  ⟨⟨ready (by decide +kernel), by unfold matrixRoom; decide +kernel⟩, ready (by decide +kernel), by unfold matrixRoom; decide +kernel⟩

/-- Values at the largest and at twice the largest finite one of F32, and below. -/
theorem witness_Rounding_overflow :
    (let top := val .f32 (limits .f32).1
     cmpNum (.fin false 0xFFFFFF 104) top ≤ 0 ∧ 0 ≤ cmpNum (.fin false 1 129) (mulX top (Num.ofInt 2)) ∧ 1 ≤ 6) := by decide +kernel

/-! ## Hypotheses met: blocks, walks, grants and saves -/

/-- Two parts at a FUSE of which the second was checked before and the first traps on reaching it; none traps. -/
theorem witness_SplitsAndFuses_traps :
    (let d := widening none id
     match d.standing 0 0 with
     | some (w, q, .fuse, c) => (blockParts w (c.block w q)).all fun p => !d.headerTraps 0 w p
     | _ => false) = true ∧
    (let x := two (hw 1 (.accrd 0 2 100 1) fun q => { q with reached := true }) fun q => { q with reached := false }
     let d := mach 1 plainHdr (.accrd 0 2 100 1) { x with cur := 64, full := 64 }
     (x.parts.all fun p => d.headerTraps 0 { x with cur := 64, full := 64 } p)) = true ∧
    (let x := hw 1 (.fuse 5) id
     x.parts.all fun q => q.quads != 0 && q.quads &&& ~~~ x.allQuads == 0 && decide (x.width ≤ 4) && (clause (.fuse 5)).block x q == 3) = true ∧
    wants 8 (.fuse 5) = some 8 ∧ wants 8 (.fuse 0) = some 4 ∧ wants 64 (.mma 0 0 0 0 0 0 0 0 3) = some 32 := by decide +kernel

/-- A request that is behind its delay but would be late by the next cycle; a wave that is not saved. -/
theorem witness_Returns_due :
    (let d := { inFlight { req0 (.vload 4 4) 1 (acc0 0 0x20000 [] false) false with ready := 99, due := 0 } with clk := Clocks.reset }
     ∀ r ∈ d.reqs, d.clk.cycle < r.2.ready ∧ r.2.due < d.clk.ns + (1000 / max 1 d.clk.mhz + 1) ∧ (d.next? r.2).isSome = true) ∧
    (hw 0 .nop id).saved = false := by decide +kernel

/-- A request that has taken another walk's result; two of one die whose walks end at the same entry. -/
theorem witness_WalksAndPulse_shared :
    (let d := { walking 0x1001 0x20000F with walkQ := [⟨0, (0, 0), 0x400000, 0, 1, some (.fault 1 4)⟩] }
     (d.walkQ.find? fun x => decide (x.core = 0)).bind (·.res) = some (.fault 1 4)) ∧
    (let d := { walking 0x1001 0x20000F with walkQ := [⟨0, (0, 0), 0x400000, 0, 1, none⟩, ⟨1, (0, 0), 0x400040, 0, 1, none⟩] }
     (walk d 0 (0, 0) 0x400000).last ≠ none ∧ (walk d 1 (0, 0) 0x400040).last = (walk d 0 (0, 0) 0x400000).last ∧ dieOf 1 = dieOf 0 ∧
      (walk d 0 (0, 0) 0x400000).held d = false) := by decide +kernel

/-- A device that drives the pulse of its span: with the last tick complete, and not; a tick that is a period late. -/
theorem witness_WalksAndPulse_driver :
    (let d := ticking 0x180 128
     d.drivenOutside = false ∧ d.member = true ∧ d.clk.complete < d.clk.pulse) ∧
    (let d := { ticking 0x180 128 with clk := { (ticking 0x180 128).clk with complete := 1 } }
     d.clk.nextTick ≤ d.clk.ns ∧ (d.member = true → d.clk.pulse ≤ d.clk.complete)) ∧
    (let d := ticking 0 1000
     d.clk.nextTick + periodNs d.clk.period ≤ d.clk.ns) := by decide +kernel

/-- The arbiter that breaks a wait goes on to the next victim; a host that asks for a group of which the arbiter has asked. -/
theorem witness_AllotmentsAndPreemption_breaks :
    (let d := rivals 5 none
     let e := d.setCore 0 { d.core 0 with breaks := [(0, 0, 0)] }
     (e.oldest 0 0).map (fun r => decide ((0, r.wave, r.quad) ∈ (e.core 0).breaks)) = some true ∧ e.victim 0 0 0 = some 1) ∧
    (let g : Group := { grp 0 with preempt := some 3, preemptFor := some 0 }
     g.core.isSome = true ∧ g.saved = false ∧ g.preempt ≠ none ∧ g.preemptFor ≠ none ∧ g.preemptHost = none) ∧
    (let g : Group := { grp 0 with preempt := some 3, preemptFor := some 0, preemptHost := some 1 }
     g.preemptHost ≠ none) := by decide +kernel

/-- Save of a wave whose load is out: at once, before its limit and after it. -/
def saving (since cycle : Nat) : Device :=
  let d := debugged (some halted) 4 (some 7) []
  { d with fns := d.fns.map fun f => (f.1, { f.2 with dbgSince := since }), clk := { Clocks.reset with cycle := cycle }
           reqs := [(0, req0 (.vload 4 4) 1 (acc0 0 0x20000 [] false) false)] }

theorem witness_StopsAndDebugging_save :
    (∀ x ∈ [(0, 5), (1, 2 ^ 20 - 1), (1, 2 ^ 20)], (saving x.1 x.2).owesRegs 0 = true ∧ ((saving x.1 x.2).fn 0).dbgSince = x.1) ∧
    (let d := debugged (some halted) 4 (some 7) []
     d.owesRegs 0 = false ∧ (∀ x ∈ d.waves, d.marksHeld x.2 = false)) ∧
    (let d := debugged none 4 none bp3
     ∀ x ∈ d.waves, ∀ q ∈ x.2.live, q.reached = false ∧ q.bpPass = false ∧ breakpointNow d x.2 q = some 3) := by decide +kernel

/-! ## Hypotheses met: units, doorbells, errors and links -/

/-- Two products whose groups fall to one unit: the younger one stages x only after the older one's group. -/
theorem witness_EnginesAtWork_units :
    (let d := product 3 1 []
     let o : BmvOp := { bmv0 with x := none }
     let e : Device := { d with bmvs := d.bmvs ++ [(5, o)] }
     e.bmvs.get? 5 = some o ∧ o.x = none ∧ ∀ x ∈ e.bmvs, x.1 < 5 → bmvStack e x.2 = bmvStack e o ∧ 0 < bmvGroups o.desc ∧ o.status.get 0 = 0 ∧
      0 < bmvGroups x.2.desc ∧ x.2.status.get 0 = 0 ∧ (bmvFirst x.2.desc / 16 + 0) % 64 = (bmvFirst o.desc / 16 + 0) % 64) ∧
    (let d := product 3 1 []
     ∀ x ∈ d.bmvs, (bankLeaf d x.2).isSome = true) := by decide +kernel

/-- A machine before state 2 with a held doorbell on a queue. -/
def ringing (held : List Word32) : Device :=
  let d := queued 0x20800 (2 ^ 31 + 2 * 2 ^ 8)
  { d with mgmt := { d.mgmt with devstate := 1 }, fns := d.fns.map fun f => (f.1, { f.2 with queues := f.2.queues.map fun q => (q.1, { q.2 with held := held }) }) }

theorem witness_Management_doorbells :
    (∀ f ∈ (ringing [0, 1]).fns, ∀ q ∈ f.2.queues, q.2.held = [0, 1] ∧ bit q.2.ctl 31 = true ∧ bit q.2.stat 0 = false ∧
      bit (f.2.asroot.get (bits q.2.ctl 11 8)) 0 = false) ∧ (ringing []).mgmt.devstate = 1 ∧
    { hosted [] with mgmt := { (hosted []).mgmt with devstate := 3 } }.responds = false := by decide +kernel

/-- A clear of the split counter in the cycle of a split. -/
theorem witness_HostRegisters_tally :
    (let d := { hosted [(0x2480, BitVec.ofNat 64 (2 * 2 ^ 24 + 5 * 2 ^ 8 + 1))] with tallyAt := 1, tally := [(Device.tallyKey 2 5 1, 1)] }
     (d.fn 0).regs.get 0x2480 = BitVec.ofNat 64 (2 * 2 ^ 24 + 5 * 2 ^ 8 + 1) ∧ d.tallyAt = d.clk.cycle + 1 ∧ d.tally.get (Device.tallyKey 2 5 1) = 1) := by
  decide +kernel

/-- A wave of the core that is lost; a request that met the line that is lost; every class of storage. -/
theorem witness_Management_lost :
    (let d := mach 0 plainHdr .nop (hw 0 .nop id)
     d.waves.get? 0 = some (hw 0 .nop id) ∧ (hw 0 .nop id).core = 0 ∧ (hw 0 .nop id).retired = false ∧ (d.groups.get? 0).isSome = true) ∧
    (let d := inFlight (spanLoad none)
     ∃ r, d.reqs.get? 0 = some r ∧ (∃ a ∈ r.accs, a.reached = false ∧ a.line = (spanBase + 2 ^ 40) / 128) ∧ r.kind ≠ .store ∧
      d.liveWave r.wave r.gen = some (hw 0 .nop id)) ∧
    parityOk 8 0 = true ∧ parityOk 11 0 = true ∧ parityOk 12 0 = false ∧ unitOk 4 0 = true := by
  refine ⟨by decide +kernel, ⟨_, rfl, by decide +kernel, by decide +kernel, by decide +kernel⟩, by decide +kernel⟩

/-- A gather of another device's memory after the first failure of its element on port 3, and a PUTSIG to one. -/
def spanOp (k : EngKind) : Device :=
  let d := spanCopy (some 3)
  { d with ops := [(0, { op0 k 1 with port := some 3 })], groups := [(0, { grp 0 with spad := [(256, 8)] })] }

theorem witness_Management_engines :
    (let x := wordsOf ((gatherDesc 1).set 0 0x30000)
     let d := spanOp (.gather x)
     let o : EngOp := { op0 (.gather x) 1 with port := some 3 }
     d.ops.get? 0 = some o ∧ o.order = 0 ∧ (opSpan d o).isSome = true ∧ o.barrier = none ∧
      (match gatherFail (d.portFails 3) o x with | .ok _ => true | _ => false) = true) ∧
    (let x := wordsOf ((putsigDesc 8).set 0 0x30000)
     let d := spanOp (.putsig x)
     ∀ o ∈ d.ops, (opSpan d o.2).isSome = true ∧ o.2.port = some 3 ∧ (d.liveWave o.2.wave o.2.gen).isSome = true) := by decide +kernel

/-- Two functions, one of which samples the core in this cycle. -/
theorem witness_Management_functions :
    (let d := sampling 8
     let e : Device := { d with fns := d.fns ++ [(3, HostFn.reset)] }
     (e.fns.map (·.1)).Nodup ∧ e.sampleDue 0 0 = true ∧ e.sampleDue 3 0 = false ∧ (e.fns.get? 3).isSome = true ∧
      (nextSample (e.sampleable 0 0) ((e.fn 0).sampled.getD 0 0)).isSome = true) := by decide +kernel

/-- A course MMA whose partner group holds its own tile. -/
theorem witness_MatrixAtWork_partner :
    (let d := coursing false 0
     d.partner 0 = some 1 ∧ (d.groups.get? 1).bind (fun x => x.tiles.get? 2) = some tile0 ∧ (d.groups.get? 0).bind (fun x => x.tiles.get? 2) = some tile0) := by
  decide +kernel

/-- A clause whose STL writes byte 8 while an MMA of the clause has yet to read it (07 R193; 18 R369): the byte stays until the MMA has left. -/
def overB : Spec :=
  let p := mxPass (.stl 0 2 1 2) rec0
  let q : Spec := { p with first := 0, grp := { p.grp with mq := [mq0 (.mma false false false 2 1 0 rec0 none [])], spad := [(8, 1)] } }
  let k := q.keepFor [(8, 4)]
  { k with grp := spadPut k.grp 8 [5, 0, 0, 0] }

theorem test_write_behind_own_mma :
    overB.kept = [(0, 8, 1), (0, 9, 0), (0, 10, 0), (0, 11, 0)] ∧ (hideWrites overB.kept overB.grp).spad.get 8 = 1 ∧
    (hideWrites overB.kept overB.grp).mq.map (·.later) = [[(8, 5), (9, 0), (10, 0), (11, 0)]] ∧
    owesWrites 0 (hideWrites overB.kept overB.grp) overB.prt = true := by decide +kernel

theorem test_write_once_mma_has_read :
    (let g := hideWrites overB.kept overB.grp
     let d := (heading (.acczero 2) none).setGroup 0 { g with mq := [] }
     ((g.mq.map fun e => d.makeWrites 0 0 e).map fun d => (d.groups.get? 0).map fun x => x.spad.get 8) = [some 5]) := by decide +kernel

theorem test_count_down_behind_write :
    (let g := hideWrites overB.kept overB.grp
     let b := spadPut overB.grp 0 [1, 0, 16, 0, 0, 0, 0, 0]
     let x := barChange [] { g with spad := (spadPut g 0 [1, 0, 16, 0, 0, 0, 0, 0]).spad } 0 fun y => { y with w1 := y.w1 - 5 }
     Machine.barAt b 0 = ⟨0x100001, 5, 0⟩ ∧ x.spad.get 8 = 1 ∧ (x.mq.map fun e => e.later.head?) = [some (8, 0)]) := by decide +kernel

/-- An entry of the queue that has taken a write along, and a pass that has kept a byte. -/
theorem witness_MatrixAtWork_writes :
    (let d := (heading (.acczero 2) (some 9)).setGroup 0 { grp 2 with tiles := [(2, tile0)], mq := [{ mq0 (.acczero 2) with ends := some 9, later := [(8, 5)] }] }
     (d.head? 0).map (fun e => (e.ends, e.later)) = some (some 9, [(8, 5)]) ∧ (d.groups.get? 0).bind (·.core) = some 0) ∧
    (∀ e ∈ overB.grp.mq, overB.first ≤ e.id ∧ (∀ k ∈ overB.kept, k.1 = e.id) ∧
      ((e.holds false).any fun x => [(8, 4)].any fun r => overlap (granules r.1 r.2) x) = true) ∧
    (overB.grp.mq.map (·.id)).Nodup ∧ (overB.kept.map (·.2.1)).Nodup := by decide +kernel
end Sys2Proof.Tests
end

section
/-! PROOFS. What the model's word operations are in the arithmetic of the rules (04 R102 to R105), at any width, and from that the results
of scalar instructions. -/

namespace Sys2Proof.Machine

/-! ## Arithmetic, as the rules write it -/

section
variable {w : Nat} (x y : BitVec w)

theorem ofNat_toNat_add : BitVec.ofNat w (x.toNat + y.toNat) = x + y := by
  simp [BitVec.ofNat_add]

theorem ofNat_toNat_mul : BitVec.ofNat w (x.toNat * y.toNat) = x * y := by
  simp [BitVec.ofNat_mul]

theorem ofInt_toInt_sub : BitVec.ofInt w (x.toInt - y.toInt) = x - y := by
  rw [Int.sub_eq_add_neg, BitVec.ofInt_add, BitVec.ofInt_neg, BitVec.ofInt_toInt, BitVec.ofInt_toInt, BitVec.sub_eq_add_neg]

theorem ofNat_toNat_mul_two_pow (n : Nat) : BitVec.ofNat w (x.toNat * 2 ^ n) = x <<< n :=
  BitVec.eq_of_toNat_eq (by simp [Nat.shiftLeft_eq])

theorem ofNat_toNat_div_two_pow (n : Nat) : BitVec.ofNat w (x.toNat / 2 ^ n) = x >>> n := by
  rw [← Nat.shiftRight_eq_div_pow, ← BitVec.toNat_ushiftRight, BitVec.ofNat_toNat, BitVec.setWidth_eq]

theorem ofInt_toInt_div_two_pow (n : Nat) : BitVec.ofInt w (x.toInt / 2 ^ n) = x.sshiftRight n := by
  rw [BitVec.sshiftRight_eq, Int.shiftRight_eq_div_pow, Int.natCast_pow]; rfl

theorem ofInt_min_toInt : BitVec.ofInt w (min x.toInt y.toInt) = if y.toInt < x.toInt then y else x := by
  split
  case isTrue h => rw [Int.min_eq_right (Int.le_of_lt h), BitVec.ofInt_toInt]
  case isFalse h => rw [Int.min_eq_left (Int.not_lt.1 h), BitVec.ofInt_toInt]

theorem ofInt_max_toInt : BitVec.ofInt w (max x.toInt y.toInt) = if x.toInt < y.toInt then y else x := by
  split
  case isTrue h => rw [Int.max_eq_right (Int.le_of_lt h), BitVec.ofInt_toInt]
  case isFalse h => rw [Int.max_eq_left (Int.not_lt.1 h), BitVec.ofInt_toInt]

theorem ofNat_min_toNat : BitVec.ofNat w (min x.toNat y.toNat) = if y.toNat < x.toNat then y else x := by
  split
  case isTrue h => rw [Nat.min_eq_right (Nat.le_of_lt h), BitVec.ofNat_toNat, BitVec.setWidth_eq]
  case isFalse h => rw [Nat.min_eq_left (Nat.not_lt.1 h), BitVec.ofNat_toNat, BitVec.setWidth_eq]

theorem ofNat_max_toNat : BitVec.ofNat w (max x.toNat y.toNat) = if x.toNat < y.toNat then y else x := by
  split
  case isTrue h => rw [Nat.max_eq_right (Nat.le_of_lt h), BitVec.ofNat_toNat, BitVec.setWidth_eq]
  case isFalse h => rw [Nat.max_eq_left (Nat.not_lt.1 h), BitVec.ofNat_toNat, BitVec.setWidth_eq]

theorem ofNat_toNat_add_mul (n : Nat) : BitVec.ofNat w (x.toNat + 2 ^ n * y.toNat) = x + y <<< n := by
  rw [BitVec.ofNat_add, Nat.mul_comm, ofNat_toNat_mul_two_pow, BitVec.ofNat_toNat, BitVec.setWidth_eq]

theorem ofInt_toInt_add_imm {n : Nat} (i : BitVec n) : BitVec.ofInt w (x.toInt + i.toInt) = x + i.signExtend w := by
  rw [BitVec.ofInt_add, BitVec.ofInt_toInt]; rfl

theorem ofInt_toInt_mul_imm {n : Nat} (i : BitVec n) : BitVec.ofInt w (x.toInt * i.toInt) = x * i.signExtend w := by
  rw [BitVec.ofInt_mul, BitVec.ofInt_toInt]; rfl

theorem ofInt_toInt_mul_two_pow {n : Nat} (i : BitVec n) (k : Nat) :
    BitVec.ofInt w (i.toInt * 2 ^ k) = i.signExtend w <<< k := by
  rw [← ofNat_toNat_mul_two_pow, BitVec.ofNat_mul, BitVec.ofNat_toNat, BitVec.setWidth_eq, BitVec.ofInt_mul,
    ← BitVec.ofInt_natCast, Int.natCast_pow]
  rfl
end

/-! ## Counting bits -/

/-- As many numbers from 0 on satisfy a predicate as there are below the first that fails it. -/
theorem length_takeWhile_range {p : Nat → Bool} {w n : Nat} (hn : n ≤ w) (hlow : ∀ i < n, p i = true)
    (hat : n < w → p n = false) : ((List.range w).takeWhile p).length = n := by
  obtain ⟨k, rfl⟩ := Nat.exists_eq_add_of_le hn
  rw [List.range_add, List.takeWhile_append_of_pos (by simpa using hlow)]
  cases k with
  | zero => simp
  | succ k => simp [List.range_succ_eq_map, hat]

theorem ones_eq_popcount {w : Nat} (x : BitVec w) : ones x = popcount x := List.countP_eq_length_filter

theorem zerosTop_eq_clz {w : Nat} (x : BitVec w) : zerosTop x = clz x := by
  unfold clz
  split
  case isTrue h =>
    exact length_takeWhile_range (Nat.le_refl w) (fun i _ => by simp [BitVec.getLsbD, h]) (fun h => absurd h (Nat.lt_irrefl w))
  case isFalse h =>
    have hlt : x.toNat.log2 < w := (Nat.log2_lt h).2 x.isLt
    refine length_takeWhile_range (by omega) (fun i hi => ?_) (fun _ => ?_)
    · have hle : x.toNat < 2 ^ (w - 1 - i) := (Nat.log2_lt h).1 (by omega)
      simp [BitVec.getLsbD, Nat.testBit_lt_two_pow hle]
    · rw [show w - 1 - (w - 1 - x.toNat.log2) = x.toNat.log2 by omega]
      simp [BitVec.getLsbD, Nat.testBit_log2 h]

theorem zerosLow_eq_ctz {w : Nat} (x : BitVec w) : zerosLow x = ctz x := by
  unfold ctz below
  rw [List.head?_filter]
  cases h : (List.range w).find? (bit x) with
  | none =>
    have hz := List.find?_range_eq_none.1 h
    exact length_takeWhile_range (Nat.le_refl w) (fun i hi => hz i hi) (fun h => absurd h (Nat.lt_irrefl w))
  | some n =>
    obtain ⟨hn, hw, hz⟩ := List.find?_range_eq_some.1 h
    exact length_takeWhile_range (Nat.le_of_lt (List.mem_range.1 hw)) (fun i hi => hz i hi) (fun _ => by simpa [bit, BitVec.getLsbD] using hn)

/-- Bits that are set one after another, on top of those of a word. -/
theorem getLsbD_foldl_or {w : Nat} {i : Nat} (hi : i < w) (l : List Nat) (m : BitVec w) :
    (l.foldl (fun m j => m ||| BitVec.ofNat w (2 ^ j)) m).getLsbD i = (m.getLsbD i || decide (i ∈ l)) := by
  induction l generalizing m with
  | nil => simp
  | cons j l ih =>
    rw [List.foldl_cons, ih, BitVec.getLsbD_or, BitVec.getLsbD_ofNat, Nat.testBit_two_pow]
    simp [hi, Bool.or_assoc, eq_comm]

theorem getLsbD_maskOf {w : Nat} (l : List Nat) {i : Nat} (hi : i < w) : (maskOf w l).getLsbD i = decide (i ∈ l) := by
  rw [maskOf, getLsbD_foldl_or hi]
  simp

theorem brev_eq_reverse {w : Nat} (x : BitVec w) : brev x = x.reverse := by
  refine BitVec.eq_of_getLsbD_eq fun i hi => ?_
  have hmem : i ∈ (below w fun j => bit x j).map (fun j => w - 1 - j) ↔ bit x (w - 1 - i) = true := by
    simp only [below, List.mem_map, List.mem_filter, List.mem_range]
    constructor
    · rintro ⟨j, ⟨hj, hx⟩, rfl⟩
      rwa [show w - 1 - (w - 1 - j) = j by omega]
    · exact fun hx => ⟨w - 1 - i, ⟨by omega, hx⟩, by omega⟩
  rw [BitVec.getLsbD_reverse, brev, getLsbD_maskOf _ hi, BitVec.getMsbD, decide_eq_true hi, Bool.true_and, Bool.eq_iff_iff,
    decide_eq_true_iff]
  exact hmem

/-! ## Bit fields -/

/-- A number whose `n` bits from `lo` are replaced. -/
theorem sub_field_add (x lo n v : Nat) :
    x - x / 2 ^ lo % 2 ^ n * 2 ^ lo + v * 2 ^ lo = 2 ^ lo * (2 ^ n * (x / 2 ^ (lo + n)) + v) + x % 2 ^ lo := by
  have hlow : 2 ^ lo * (x / 2 ^ lo) + x % 2 ^ lo = x := Nat.div_add_mod _ _
  have hmid : 2 ^ n * (x / 2 ^ lo / 2 ^ n) + x / 2 ^ lo % 2 ^ n = x / 2 ^ lo := Nat.div_add_mod _ _
  rw [Nat.div_div_eq_div_mul, ← Nat.pow_add] at hmid
  have hx : x = 2 ^ lo * (2 ^ n * (x / 2 ^ (lo + n))) + 2 ^ lo * (x / 2 ^ lo % 2 ^ n) + x % 2 ^ lo := by
    rw [← Nat.mul_add, hmid, hlow]
  rw [Nat.mul_add, Nat.mul_comm v, Nat.mul_comm (x / 2 ^ lo % 2 ^ n)]
  omega

theorem putBits_eq {w : Nat} (x : BitVec w) {hi lo n v : Nat} (hn : hi + 1 = lo + n) (hv : v < 2 ^ n) :
    putBits x hi lo v = BitVec.ofNat w (x.toNat / 2 ^ (lo + n) * 2 ^ (lo + n) + v * 2 ^ lo + x.toNat % 2 ^ lo) := by
  rw [putBits, bits, hn, Nat.add_sub_cancel_left, Nat.mod_eq_of_lt hv, sub_field_add, Nat.mul_add, ← Nat.mul_assoc,
    ← Nat.pow_add, Nat.mul_comm (2 ^ (lo + n)), Nat.mul_comm (2 ^ lo)]

theorem bfxu_eq_fieldU (n w off x : Nat) : bfxu n w off x = fieldU n w off x := by
  rw [fieldU, Nat.shiftRight_eq_div_pow]
  rfl

theorem sextNat_mod {n : Nat} (hn : n ≠ 0) (x : Nat) : sextNat n (x % 2 ^ n) = (BitVec.ofNat n x).toInt := by
  obtain ⟨m, rfl⟩ := Nat.exists_eq_succ_of_ne_zero hn
  rw [sextNat, BitVec.toInt_eq_toNat_cond, BitVec.toNat_ofNat, Nat.mod_mod, Nat.succ_sub_one, Nat.pow_succ]
  congr 1
  exact propext (by omega)

theorem bfx_eq_fieldS (n w off x : Nat) : bfx n w off x = fieldS n w off x := by
  unfold bfx fieldS fieldOf
  dsimp only
  split
  case isTrue => rfl
  case isFalse h => rw [sextNat_mod h, Nat.shiftRight_eq_div_pow]

/-- SBFI's masks leave the bits that stand outside the field and put those of the source into it (04 R105). -/
theorem ofNat_bfi {n : Nat} (w off : Nat) (x y : BitVec n) :
    BitVec.ofNat n (bfi n w off x.toNat y.toNat) =
      (y &&& ~~~(BitVec.ofNat n (2 ^ min w (n - off) - 1) <<< off)) |||
        ((x &&& BitVec.ofNat n (2 ^ min w (n - off) - 1)) <<< off) := by
  refine BitVec.eq_of_getLsbD_eq fun i hi => ?_
  unfold bfi
  dsimp only
  generalize hk : min w (n - off) = k
  rw [sub_field_add, BitVec.getLsbD_ofNat, Nat.testBit_two_pow_mul_add _ (Nat.mod_lt _ (Nat.two_pow_pos off)),
    Nat.testBit_two_pow_mul_add _ (Nat.mod_lt _ (Nat.two_pow_pos k))]
  simp only [BitVec.getLsbD_or, BitVec.getLsbD_and, BitVec.getLsbD_not, BitVec.getLsbD_shiftLeft, BitVec.getLsbD_ofNat,
    Nat.testBit_two_pow_sub_one, Nat.testBit_mod_two_pow, Nat.testBit_div_two_pow, BitVec.testBit_toNat, hi]
  by_cases hlow : i < off
  · simp [hlow]
  · by_cases hmid : i - off < k
    · simp [hlow, hmid, show i - off < n by omega]
    · simp [hlow, hmid, show i - off - k + (off + k) = i by omega]

/-! ## Scalar instructions -/

/-- A body that writes one scalar register gives that result, and changes nothing else (04 R101). -/
theorem gives_setS {i : Instr} {s : State} {p : Spec} {t : Bool} {d : Nat} {v : Word64} (h : Ready i s p)
    (he : encoded i = true) (hb : body i p = .ok (p.setS t d v)) : Gives i s p p (inScalar p d v) :=
  gives_push h (exec_issue i s he) hb (by simp) (by simp [inScalar, clip, Spec.sval])

/-- Where the words fix nothing that a clause or a part could break, the instruction is legal at every slot (03 R90). -/
theorem ready_of_plain {i : Instr} {s : State} {p : Spec} (h : s.spec = some p) (hf : form i = plain) : Ready i s p :=
  ⟨h, by simp [legalAt, hf, plain, inAllot]⟩

theorem opS2_congr {f g : Word64 → Word64 → Word64} {b a d : Nat} (h : ∀ x y, f x y = g x y) : opS2 g b a d = opS2 f b a d := by
  rw [funext fun x => funext (h x)]

theorem opS1_congr {f g : Word64 → Word64} {a d : Nat} (h : ∀ x, f x = g x) : opS1 g a d = opS1 f a d := by
  rw [funext h]

theorem ite_eq_bool64 (P : Prop) [Decidable P] : (if P then 1 else 0 : Word64) = bool64 (decide P) := by
  simp [bool64]

theorem ite_not_eq_bool64 (P : Prop) [Decidable P] : (if P then 0 else 1 : Word64) = bool64 (!decide P) := by
  simp [bool64]

/-- Every row of the table of two operands is the function that the model issues, and its words alone make it legal (04 R102). A
case stands here for each row that the table writes in other words than the model. -/
theorem body_of_salu2 {i : Instr} {b a d : SReg} {f : Word64 → Word64 → Word64} (h : salu2 i = some (b, a, d, f)) :
    encoded i = true ∧ form i = plain ∧ body i = opS2 f b.toNat a.toNat d.toNat := by
  cases i
  all_goals cases h
  all_goals refine ⟨rfl, rfl, ?_⟩
  all_goals dsimp only [body]
  case sadd => exact opS2_congr ofNat_toNat_add
  case ssub => exact opS2_congr ofInt_toInt_sub
  case smul => exact opS2_congr ofNat_toNat_mul
  case smulh => exact opS2_congr fun _ _ => rfl
  case smulhu => exact opS2_congr fun _ _ => rfl
  case sshl => exact opS2_congr fun x y => ofNat_toNat_mul_two_pow x (y.toNat % 64)
  case sshrl => exact opS2_congr fun x y => ofNat_toNat_div_two_pow x (y.toNat % 64)
  case sshra => exact opS2_congr fun x y => ofInt_toInt_div_two_pow x (y.toNat % 64)
  case smin => exact opS2_congr ofInt_min_toInt
  case smax => exact opS2_congr ofInt_max_toInt
  case sminu => exact opS2_congr ofNat_min_toNat
  case smaxu => exact opS2_congr ofNat_max_toNat
  case sseq => exact opS2_congr fun x y => ite_eq_bool64 (x = y)
  case ssne => exact opS2_congr fun x y => ite_not_eq_bool64 (x = y)
  case sslt => exact opS2_congr fun x y => ite_eq_bool64 (x.toInt < y.toInt)
  case ssltu => exact opS2_congr fun x y => ite_eq_bool64 (x.toNat < y.toNat)
  case ssle => exact opS2_congr fun x y => ite_eq_bool64 (x.toInt ≤ y.toInt)
  case ssleu => exact opS2_congr fun x y => ite_eq_bool64 (x.toNat ≤ y.toNat)
  case slea2 => exact opS2_congr fun x y => ofNat_toNat_add_mul x y 2
  case slea3 => exact opS2_congr fun x y => ofNat_toNat_add_mul x y 3

/-- So is every unary and immediate row (04 R102, R103). -/
theorem body_of_salu1 {i : Instr} {a d : SReg} {f : Word64 → Word64} (h : salu1 i = some (a, d, f)) :
    encoded i = true ∧ form i = plain ∧ body i = opS1 f a.toNat d.toNat := by
  cases i
  all_goals cases h
  all_goals refine ⟨rfl, rfl, ?_⟩
  all_goals dsimp only [body]
  case spopc => exact opS1_congr fun x => congrArg (BitVec.ofNat 64) (ones_eq_popcount x)
  case sclz => exact opS1_congr fun x => congrArg (BitVec.ofNat 64) (zerosTop_eq_clz x)
  case sctz => exact opS1_congr fun x => congrArg (BitVec.ofNat 64) (zerosLow_eq_ctz x)
  case sbrev => exact opS1_congr fun x => (brev_eq_reverse x).symm
  case saddi imm => exact opS1_congr fun x => ofInt_toInt_add_imm x imm
  case sandi => exact opS1_congr fun _ => rfl
  case sori => exact opS1_congr fun _ => rfl
  case sxori => exact opS1_congr fun _ => rfl
  case sshli n => exact opS1_congr fun x => ofNat_toNat_mul_two_pow x n.toNat
  case sshrli n => exact opS1_congr fun x => ofNat_toNat_div_two_pow x n.toNat
  case sshrai n => exact opS1_congr fun x => ofInt_toInt_div_two_pow x n.toNat
  case sslti imm => exact opS1_congr fun x => by rw [simm64, BitVec.toInt_signExtend_of_le (by decide), ite_eq_bool64]
  case smuli imm => exact opS1_congr fun x => ofInt_toInt_mul_imm x imm

/-- So is every constant and bit field, some of which read the old sd (04 R104, R105). -/
theorem body_of_saluField {i : Instr} {a d : SReg} {f : Word64 → Word64 → Word64} (h : saluField i = some (a, d, f)) (p : Spec) :
    encoded i = true ∧ body i p = .ok (p.setS false d.toNat (f (p.sreg a.toNat) (p.sreg d.toNat))) := by
  cases i
  all_goals cases h
  all_goals refine ⟨rfl, ?_⟩
  all_goals dsimp only [body]
  case sinsh imm _ => rw [opS1, putBits_eq (n := 16) _ (by omega) imm.isLt]
  case smovh => rw [opS1, ofInt_toInt_mul_two_pow, simm64]
  case sbfxu => rw [opS1, bfxu_eq_fieldU]
  case sbfx => rw [opS1, bfx_eq_fieldS]
  case sbfi => rw [opSbfi, ofNat_bfi]

/-- Settles O1: every row of the three tables is the function that the model issues, and a result in one scalar register changes
nothing else. -/
theorem scalarResults : Obligations.ScalarResults := by
  refine ⟨fun i b a d f s p h hs => ?_, fun i a d f s p h hs => ?_, fun i a d f s p h hr => ?_⟩
  · obtain ⟨he, hf, hb⟩ := body_of_salu2 h
    exact gives_setS (ready_of_plain hs hf) he (congrFun hb p)
  · obtain ⟨he, hf, hb⟩ := body_of_salu1 h
    exact gives_setS (ready_of_plain hs hf) he (congrFun hb p)
  · obtain ⟨he, hb⟩ := body_of_saluField h p
    exact gives_setS hr he hb

end Sys2Proof.Machine
end

section
/-! PROOFS. Masks, moves across lanes, scans, conflicts, reductions and dot products (05 R132, R137, R138, R145 to R149, R152), draws,
reservoir copies and ray tests (08 R210, R211, R214, R218 to R222): sums, extremes and packed words as the rules write them, and
one rule for each way in which such an instruction writes its result. -/

namespace Sys2Proof.Machine

/-! ## Sums, extremes and words side by side -/

/-- A sum of words is the sum of their values, cut to the width. -/
theorem foldl_add_eq_ofNat_sum {α : Type} {w : Nat} (g : α → BitVec w) (l : List α) :
    l.foldl (fun x j => x + g j) 0 = BitVec.ofNat w (l.map fun j => (g j).toNat).sum := by
  rw [List.sum_eq_foldl, List.foldl_map]
  exact List.foldl_hom (BitVec.ofNat w) (g₁ := fun n j => n + (g j).toNat) fun n j => by simp [BitVec.ofNat_add]

theorem foldl_add_eq_sum {α : Type} (g : α → Int) (l : List α) : l.foldl (fun x j => x + g j) 0 = (l.map g).sum := by
  rw [List.sum_eq_foldl, List.foldl_map]

theorem ofInt_foldl_add_mul {α : Type} (w : Nat) (f g : α → Nat) (l : List α) :
    BitVec.ofInt w (l.foldl (fun x j => x + (f j : Int) * g j) 0) = BitVec.ofNat w (l.map fun j => f j * g j).sum := by
  rw [List.sum_eq_foldl, List.foldl_map, ← BitVec.ofInt_natCast]
  exact congrArg (BitVec.ofInt w) (List.foldl_hom (fun n : Nat => (n : Int)) fun n j => by rw [Int.natCast_add, Int.natCast_mul])

theorem toInt_smax32 (x y : Word32) : (smax32 x y).toInt = max x.toInt y.toInt := by
  unfold smax32
  split <;> omega

theorem toInt_smin32 (x y : Word32) : (smin32 x y).toInt = min x.toInt y.toInt := by
  unfold smin32
  split <;> omega

/-- A fold of words, as signed numbers, is the fold of their values, where each step is. -/
theorem toInt_foldl {α : Type} {w : Nat} {f : BitVec w → BitVec w → BitVec w} {m : Int → Int → Int}
    (hf : ∀ x y, (f x y).toInt = m x.toInt y.toInt) (g : α → BitVec w) (l : List α) (x : BitVec w) :
    (l.foldl (fun x j => f x (g j)) x).toInt = (l.map fun j => (g j).toInt).foldl m x.toInt := by
  rw [List.foldl_map]
  exact (List.foldl_hom BitVec.toInt fun x j => (hf x (g j)).symm).symm

/-- A value whose low bits are a word has that word as its lowest part (01 R14). -/
theorem ofNat_toNat_add_two_pow_mul {w v : Nat} (x : BitVec v) (n : Nat) :
    BitVec.ofNat (w + v) (x.toNat + 2 ^ v * n) = BitVec.ofNat w n ++ x := by
  refine BitVec.eq_of_toNat_eq ?_
  rw [BitVec.toNat_append, BitVec.toNat_ofNat, BitVec.toNat_ofNat, ← Nat.shiftLeft_add_eq_or_of_lt x.isLt, Nat.shiftLeft_eq,
    Nat.add_comm x.toNat, Nat.mul_comm (n % 2 ^ w), Nat.add_comm w, Nat.pow_add, Nat.mod_mul, Nat.mul_add_mod,
    Nat.mod_eq_of_lt x.isLt, Nat.mul_add_div (Nat.two_pow_pos v), Nat.div_eq_of_lt x.isLt, Nat.add_zero, Nat.add_comm]

theorem vwide_four (p : Spec) (r l : Nat) :
    BitVec.ofNat 128 (p.vwide r l 4) = p.vreg (r + 3) l ++ p.vreg (r + 2) l ++ p.vreg (r + 1) l ++ p.vreg r l := by
  calc BitVec.ofNat 128 (p.vwide r l 4)
    _ = BitVec.ofNat 96 (p.vwide (r + 1) l 3) ++ p.vreg r l := ofNat_toNat_add_two_pow_mul _ _
    _ = BitVec.ofNat 64 (p.vwide (r + 2) l 2) ++ p.vreg (r + 1) l ++ p.vreg r l :=
      congrArg (· ++ p.vreg r l) (ofNat_toNat_add_two_pow_mul (w := 64) _ _)
    _ = BitVec.ofNat 32 (p.vwide (r + 3) l 1) ++ p.vreg (r + 2) l ++ p.vreg (r + 1) l ++ p.vreg r l :=
      congrArg (· ++ p.vreg (r + 1) l ++ p.vreg r l) (ofNat_toNat_add_two_pow_mul (w := 32) _ _)
    _ = _ := congrArg (· ++ p.vreg (r + 2) l ++ p.vreg (r + 1) l ++ p.vreg r l) (by simp [Spec.vwide])

/-! ## Fields -/

theorem bits_low {w : Nat} (x : BitVec w) (n : Nat) : bits x n 0 = x.toNat % 2 ^ (n + 1) := by
  simp [bits]

/-- The mode bit of VSWZ stands above the six bits of its lane distance (05 R146). -/
theorem swz_eq (c : BitVec 7) (p : Spec) (l : Nat) :
    swz c.toNat p l = if c.toNat < 64 then l ^^^ (c.toNat % 64) else (l + c.toNat % 64) % p.wav.lanes := by
  have h : c.toNat / 64 % 2 = 0 ↔ c.toNat < 64 := by omega
  simp only [swz, h, Spec.lanesW]

theorem ofNat_rfield (q : Word128) (i : Nat) : BitVec.ofNat 32 (rfield q i) = BitVec.ofNat 32 (q.toNat / 2 ^ (32 * i)) :=
  BitVec.eq_of_toNat_eq (by simp [rfield])

theorem w32_inf (neg : Bool) : w32 (.inf neg) = if neg then 0xFF800000#32 else 0x7F800000#32 := by
  cases neg <;> rfl

/-! ## Comparison (05 R138) -/

theorem and_eq_zero_iff {w : Nat} (x y : BitVec w) : x &&& y = 0 ↔ ∀ i, i < w → x.getLsbD i = true → y.getLsbD i = false := by
  constructor
  · intro h i _ hx
    have hi := congrArg (fun z : BitVec w => z.getLsbD i) h
    simpa [hx] using hi
  · intro h
    refine BitVec.eq_of_getLsbD_eq fun i hi => ?_
    cases hx : x.getLsbD i with
    | false => simp [hx]
    | true => simp [hx, h i hi hx]

/-- The eight conditions of VCMP (05 R138). -/
theorem cmpI_iff (a b : Word32) :
    (cmpI 0 a b = true ↔ a = b) ∧ (cmpI 1 a b = true ↔ a ≠ b) ∧ (cmpI 2 a b = true ↔ a.toInt < b.toInt) ∧
    (cmpI 3 a b = true ↔ b.toInt ≤ a.toInt) ∧ (cmpI 4 a b = true ↔ a.toNat < b.toNat) ∧ (cmpI 5 a b = true ↔ b.toNat ≤ a.toNat) ∧
    (cmpI 6 a b = true ↔ ∃ i, i < 32 ∧ a.getLsbD i = true ∧ b.getLsbD i = true) ∧
    (cmpI 7 a b = true ↔ ∀ i, i < 32 → a.getLsbD i = true → b.getLsbD i = false) := by
  refine ⟨beq_iff_eq, bne_iff_ne, decide_eq_true_iff, decide_eq_true_iff, decide_eq_true_iff, decide_eq_true_iff, ?_, ?_⟩
  · exact bne_iff_ne.trans ((not_congr (and_eq_zero_iff a b)).trans (by simp))
  · exact beq_iff_eq.trans (and_eq_zero_iff a b)

/-! ## Draws (08 R210) -/

theorem toNat_xor_ushiftRight {w : Nat} (x : BitVec w) (n : Nat) : (x ^^^ (x >>> n)).toNat = x.toNat ^^^ x.toNat / 2 ^ n := by
  rw [BitVec.toNat_xor, BitVec.toNat_ushiftRight, Nat.shiftRight_eq_div_pow]

/-- The upper half of a key. -/
theorem toNat_ushiftRight_setWidth (key : Word64) : ((key >>> 32).setWidth 32).toNat = key.toNat / 2 ^ 32 := by
  rw [BitVec.toNat_setWidth, BitVec.toNat_ushiftRight, Nat.shiftRight_eq_div_pow, Nat.mod_eq_of_lt (by omega)]

/-! ## One rule for each way of writing a result -/

theorem act_nodup (p : Spec) : p.act.Nodup := (List.nodup_range.filter _).filter _

/-- One register in different lanes is that many registers. -/
theorem nodup_map_act (p : Spec) {k : Nat → RegLoc} (hk : ∀ x y, k x = k y → x = y) (v : Nat → Word128) :
    ((p.act.map fun l => (k l, v l)).map Prod.fst).Nodup := by
  rw [List.map_map]
  exact List.pairwise_map.2 (List.Pairwise.imp (fun hne h => hne (hk _ _ h)) (act_nodup p))

/-- Consecutive registers in different lanes are different registers. -/
theorem nodup_inLanes2 (p : Spec) (d : Nat) (f : Nat → List Word32) : ((inLanes2 p d f).map Prod.fst).Nodup := by
  rw [inLanes2, List.map_flatMap]
  refine List.pairwise_flatMap.2 ⟨fun l _ => List.pairwise_iff_getElem.2 fun i j _ _ hij => ?_,
    List.Pairwise.imp (fun hne x hx y hy hxy => ?_) (act_nodup p)⟩
  · simp only [List.getElem_map, List.getElem_mapIdx, ne_eq, RegLoc.v.injEq]
    omega
  · simp only [List.mem_map, List.mem_mapIdx] at hx hy
    obtain ⟨_, ⟨i, _, rfl⟩, rfl⟩ := hx
    obtain ⟨_, ⟨j, _, rfl⟩, rfl⟩ := hy
    exact hne (RegLoc.v.inj hxy).2

section
variable {i : Instr} {s : State} {p : Spec} {t : Bool}

/-- A body gives the result that it pushes when every value fits its register. -/
theorem gives_push_fitting {ws : List (RegLoc × Word128)} (h : Ready i s p) (he : encoded i = true)
    (hb : body i p = .ok (p.push t ws)) (hd : (ws.map Prod.fst).Nodup) (hc : ∀ x ∈ ws, clip x.1 x.2 = x.2) : Gives i s p p ws :=
  gives_push h (exec_issue i s he) hb hd
    ((List.map_id ws).symm.trans (List.map_congr_left fun x hx => Prod.ext rfl (hc x hx).symm))

/-- A body that writes a vector register gives the words that it computes, lane by lane. -/
theorem gives_setV {d : Nat} {f g : Nat → Word32} (h : Ready i s p) (he : encoded i = true)
    (hb : body i p = .ok (p.setV t d g)) (hg : ∀ l, g l = f l) : Gives i s p p (inLanes p d f) := by
  obtain rfl : g = f := funext hg
  refine gives_push_fitting h he hb (nodup_map_act p (fun x y hxy => (RegLoc.v.inj hxy).2) _) fun x hx => ?_
  obtain ⟨l, _, rfl⟩ := List.mem_map.1 hx
  simp [clip]

/-- So does one that writes consecutive vector registers. -/
theorem gives_setVs {d : Nat} {f g : Nat → List Word32} (h : Ready i s p) (he : encoded i = true)
    (hb : body i p = .ok (p.setVs t d g)) (hg : ∀ l, g l = f l) : Gives i s p p (inLanes2 p d f) := by
  obtain rfl : g = f := funext hg
  refine gives_push_fitting h he hb (nodup_inLanes2 p d g) fun x hx => ?_
  obtain ⟨l, _, hl⟩ := List.mem_flatMap.1 hx
  obtain ⟨j, _, rfl⟩ := List.mem_mapIdx.1 hl
  simp [clip]

/-- So does one that writes a reservoir register (01 R14). -/
theorem gives_setQ {q : Nat} {f g : Nat → Word128} (h : Ready i s p) (he : encoded i = true)
    (hb : body i p = .ok (p.setQ t q g)) (hg : ∀ l, g l = f l) : Gives i s p p (p.act.map fun l => (.q q l, f l)) := by
  obtain rfl : g = f := funext hg
  refine gives_push_fitting h he hb (nodup_map_act p (fun x y hxy => (RegLoc.q.inj hxy).2) _) fun x hx => ?_
  obtain ⟨l, _, rfl⟩ := List.mem_map.1 hx
  rfl

theorem ok_setS_congr {d : Nat} {v w : Word64} (h : v = w) : (.ok (p.setS t d v) : Res) = .ok (p.setS t d w) := by rw [h]

end

/-- VSETL writes one lane, or none where that lane is not active (05 R137). -/
theorem opVsetl_eq (b a d : Nat) (t : Bool) (p : Spec) :
    opVsetl b a d t p = .ok (p.push t (if (p.sreg b).toNat % 64 ∈ p.act
      then [(.v d ((p.sreg b).toNat % 64), ((p.sreg a).setWidth 32).setWidth 128)] else [])) := by
  rw [opVsetl, bits_low]
  by_cases h : (p.sreg b).toNat % 64 ∈ p.act
  · rw [if_pos h]
    exact congrArg (fun ws => Except.ok (p.push t ws)) (if_pos (List.contains_iff_mem.2 h))
  · rw [if_neg h]
    exact congrArg (fun ws => Except.ok (p.push t ws)) (if_neg (mt List.contains_iff_mem.1 h))

/-- Each row of the table is what the model's body writes; a case says where the table puts it in other words. -/
theorem gives_of_plainOut {i : Instr} {f : Spec → List (RegLoc × Word128)} {s : State} {p : Spec} (h : plainOut i = some f)
    (hr : Ready i s p) : Gives i s p p (f p) := by
  cases i
  all_goals cases h
  case vgetl => exact gives_setS hr rfl (ok_setS_congr (by rw [bits_low]; rfl))
  case vsetl =>
    refine gives_push_fitting hr rfl (opVsetl_eq ..) ?_ ?_
    · dsimp only
      split <;> simp
    · dsimp only
      split <;> simp [clip]
  case vcmp => exact gives_setS hr rfl rfl
  case vshuf => exact gives_setV hr rfl rfl fun l => congrArg (p.xlane _) (bits_low _ 5)
  case vswz c _ _ _ => exact gives_setV hr rfl rfl fun l => congrArg (p.xlane _) (swz_eq c p l)
  case vbcast => exact gives_setV hr rfl rfl fun _ => rfl
  case vscanI32 => exact gives_setV hr rfl rfl fun l => foldl_add_eq_ofNat_sum _ _
  case vconflict => exact gives_setV hr rfl rfl fun l => by simp only [List.headD_eq_head?_getD, holders]
  case vcombineI32 => exact gives_setV hr rfl rfl fun l => by simp only [foldl_add_eq_ofNat_sum, beq_iff_eq, holders]
  case vredaddI32 => exact gives_setS hr rfl (ok_setS_congr (congrArg (BitVec.signExtend 64) (foldl_add_eq_ofNat_sum _ _)))
  case vredmaxI32 => exact gives_setS hr rfl (ok_setS_congr (congrArg (BitVec.ofInt 64) (toInt_foldl toInt_smax32 _ _ _)))
  case vredminI32 => exact gives_setS hr rfl (ok_setS_congr (congrArg (BitVec.ofInt 64) (toInt_foldl toInt_smin32 _ _ _)))
  case vredand => exact gives_setS hr rfl rfl
  case vredor => exact gives_setS hr rfl rfl
  case visect =>
    refine gives_setV hr rfl rfl fun l => ?_
    simp only [holders]
    cases List.head? _ <;> rfl
  case vrand => exact gives_setV hr rfl rfl fun _ => rfl
  case vrandu => exact gives_setV hr rfl rfl fun _ => rfl
  case vdot4I8 => exact gives_setV hr rfl rfl fun l => congrArg (_ + BitVec.ofInt 32 ·) (foldl_add_eq_sum _ _)
  case vdot4Ui8 => exact gives_setV hr rfl rfl fun l => congrArg (_ + ·) (ofInt_foldl_add_mul 32 _ _ _)
  case vdot8I4 => exact gives_setV hr rfl rfl fun l => congrArg (_ + BitVec.ofInt 32 ·) (foldl_add_eq_sum _ _)
  case rsvinit => exact gives_setQ hr rfl rfl fun _ => rfl
  case rsvrd => exact gives_setVs hr rfl rfl fun l => List.map_congr_left fun i _ => ofNat_rfield _ i
  case rsvwr => exact gives_setQ hr rfl rfl fun l => vwide_four p _ l
  case raytri => exact gives_setVs hr rfl rfl fun l => by rw [w32_inf]; rfl
  case raybox => exact gives_setVs hr rfl rfl fun l => by rw [w32_inf, w32_inf]; rfl

/-- Settles O3: the rows by the rules above, the conditions of VCMP, and the rounds of a draw in the arithmetic modulo 2^32 that
08 R210 writes. -/
theorem crossLaneAndSampling : Obligations.CrossLaneAndSampling := by
  refine ⟨fun i f s p h hr => gives_of_plainOut h hr, cmpI_iff, fun key c => ?_⟩
  rw [rand32, BitVec.toNat_xor, toNat_xor_ushiftRight, toNat_ushiftRight_setWidth, BitVec.toNat_mul, toNat_xor_ushiftRight,
    BitVec.toNat_mul, toNat_xor_ushiftRight, BitVec.toNat_xor, BitVec.toNat_setWidth]
  rfl

end Sys2Proof.Machine
end
